-- ==== Sys2Proof/Word.lean ====
section
/-! DEFINITION. The units a port of the part carries: bytes, and the 16-bit and 32-bit numbers of the
host records (R208). -/

namespace Sys2Proof

/-- One byte on a port. -/
abbrev Byte := BitVec 8

/-- A two-byte field of a host record, high byte first on the wire (chapter 12). -/
abbrev Half := BitVec 16

/-- A four-byte field of a host record. -/
abbrev Word := BitVec 32

end Sys2Proof
end

