-- ==== Sys2Proof/Syntax.lean ====
section
/-! DEFINITION. The commands of the block: one constructor for each row of spec/opcode_table.json, with
the operands the row's rules give it.  A row that the host sends (chapter 10) carries the tag byte of its
command record (R184) and its body fields (R208).  A row that stands for the end of a timer carries what
names the timer where there are several. -/

namespace Sys2Proof

/-- The two feeders of a board (R108). -/
inductive Feeder where
  | a | b
  deriving DecidableEq, Repr

/-- The five slow feedback lines of the field port (section 7.4). -/
inductive FieldLine where
  | feederA | feederB | running | breakerClosed | setFault
  deriving DecidableEq, Repr

/-- The commands, in the order of the opcode table. -/
inductive Instr where
  /-- POWER_ON_RESET (R196). -/
  | powerOnReset
  /-- BUS_BUSY (R1): another station's activity begins while the bus is IDLE. -/
  | busBusy
  /-- BUS_IDLE_TIMEOUT (R1, R4): the line has rested for one gap unit; `taken` is what the receiver took
  of the present BUSY period after its last receive event (from the candidate sync byte on, if no header
  has arrived; from the first payload byte on, otherwise). -/
  | busIdleTimeout (taken : List Byte)
  /-- FRAME_HEADER_RECEIVED (R4): the candidate sync byte and the three bytes after it. -/
  | frameHeaderReceived (sync src kind len : Byte)
  /-- FRAME_RECEIVED (R5): the payload and the two CRC bytes; `lineIdle` is the line's level right after
  the last CRC bit. -/
  | frameReceived (rest : List Byte) (lineIdle : Bool)
  /-- FRAME_START (R12). -/
  | frameStart
  /-- COLLISION (R14). -/
  | collision
  /-- BACKOFF_END (R12). -/
  | backoffEnd
  /-- FRAME_SENT (R15). -/
  | frameSent
  /-- RETRY_HOLD_RETRY (R11). -/
  | retryHoldRetry
  /-- LINK_STUCK (R17). -/
  | linkStuck
  /-- STATUS_TIMER (R27). -/
  | statusTimer
  /-- EXTRA_STATUS_DUE (R28). -/
  | extraStatusDue
  /-- PEER_STALE (R29), for the record of `node`. -/
  | peerStale (node : Nat)
  /-- PEER_LOST (R29), for the record of `node`. -/
  | peerLost (node : Nat)
  /-- PEER_REMOVED (R29), for the record of `node`. -/
  | peerRemoved (node : Nat)
  /-- READ_PEERS (R38). -/
  | readPeers (tag node : Byte)
  /-- FILTERED_LEVEL_CHANGE (R144). -/
  | filteredLevelChange (line : FieldLine)
  /-- INTENT_WINDOW_END (R47). -/
  | intentWindowEnd
  /-- CRANK_LIMIT (R51). -/
  | crankLimit
  /-- REST_TIME_END (R51). -/
  | restTimeEnd
  /-- WARM_UP_END (R52). -/
  | warmUpEnd
  /-- SYNC_LIMIT (R53). -/
  | syncLimit
  /-- UNLOAD_LIMIT (R55). -/
  | unloadLimit
  /-- COOL_DOWN_END (R56). -/
  | coolDownEnd
  /-- SET_MODE (R59): AUTO 0, MANUAL 1. -/
  | setMode (tag mode : Byte)
  /-- SET_RUN (R60): ON 0, OFF 1. -/
  | setRun (tag run : Byte)
  /-- CLEAR_SET (R58). -/
  | clearSet (tag : Byte)
  /-- POLL (R136). -/
  | poll
  /-- FRONT_END_ANSWER (R136, R137): ready rises; `bytes` are clocked in, and `ended` says whether the
  clocking ends with them in this step (otherwise ANSWER_CLOCKED_IN or the window's close ends it). -/
  | frontEndAnswer (bytes : List Byte) (ended : Bool)
  /-- ANSWER_WINDOW_CLOSE (R136). -/
  | answerWindowClose
  /-- FLOW_PULSE (R146): a rise of the pulse input after `lowUs` microseconds low, held high for
  `highUs` microseconds. -/
  | flowPulse (lowUs highUs : Nat)
  /-- DELIVERY_OPEN (R76). -/
  | deliveryOpen (tag : Byte) (ticket : Word) (price litres : Half)
  /-- DELIVERY_CLOSE (R78). -/
  | deliveryClose (tag : Byte)
  /-- DELIVERY_AUTO_CLOSE (R78). -/
  | deliveryAutoClose
  /-- DELIVERY_CANCEL (R80). -/
  | deliveryCancel (tag : Byte)
  /-- STRAY_BURST_END (R81). -/
  | strayBurstEnd
  /-- LEVEL_CHECK (R82). -/
  | levelCheck
  /-- RESYNC_TANK (R83). -/
  | resyncTank (tag : Byte)
  /-- READ_TANK (R85). -/
  | readTank (tag : Byte)
  /-- READ_LOTS (R85). -/
  | readLots (tag : Byte)
  /-- CLAIM_EXPIRY (R92), for the wait-list entry of claim `board`/`serial`. -/
  | claimExpiry (board serial : Nat)
  /-- PLEDGE_DEADLINE (R100), for the pledge entry of claim `board`/`serial`. -/
  | pledgeDeadline (board serial : Nat)
  /-- SELECT_PROFILE (R93): A 0, B 1. -/
  | selectProfile (tag profile : Byte)
  /-- READ_PLEDGES (R105). -/
  | readPledges (tag : Byte)
  /-- CHANGEOVER (R119). -/
  | changeover (tag cls : Byte)
  /-- CANCEL_CHANGEOVER (R120). -/
  | cancelChangeover (tag : Byte)
  /-- CLAIM_DEADLINE (R120). -/
  | claimDeadline
  /-- SOURCE_LOSS_CONFIRMED (R114). -/
  | sourceLossConfirmed (feeder : Feeder)
  /-- OPEN_LIMIT (R121). -/
  | openLimit
  /-- DEAD_TIME_END (R122). -/
  | deadTimeEnd
  /-- CLOSE_LIMIT (R123). -/
  | closeLimit
  /-- TOPUP_TIMER (R129). -/
  | topupTimer
  /-- RETURN_CONFIRMED (R130). -/
  | returnConfirmed (feeder : Feeder)
  /-- RESTORE (R131): feeder A 0, B 1. -/
  | restore (tag feeder : Byte)
  /-- CLEAR_FEEDER (R132): feeder A 0, B 1. -/
  | clearFeeder (tag feeder : Byte)
  /-- PULSE_END (R148). -/
  | pulseEnd (feeder : Feeder)
  /-- SET_CHANNEL (R152): `enabled` is 0 for enabled and 1 for disabled. -/
  | setChannel (tag channel enabled account tariff level : Byte)
  /-- SHED_HOST (R153): SET 0, CLEAR 1. -/
  | shedHost (tag channel op : Byte)
  /-- DEFINE_TARIFF (R155): form EMPTY 0, REFERENCE 1, RESOLVED 2. -/
  | defineTariff (tag slot form : Byte) (key : Word) (base pass : Half)
  /-- RESOLVE_TARIFF (R158). -/
  | resolveTariff (tag : Byte) (key : Word) (base pass : Half)
  /-- RESOLVE_REQUEST_TIMER (R157), of tariff slot `slot`. -/
  | resolveRequestTimer (slot : Nat)
  /-- ACCOUNT_OPEN (R165). -/
  | accountOpen (tag : Byte) (id limit : Word)
  /-- SET_LIMIT (R167). -/
  | setLimit (tag : Byte) (id limit : Word)
  /-- ACCOUNT_CLOSE (R168). -/
  | accountClose (tag : Byte) (id : Word)
  /-- READ_ACCOUNT (R169). -/
  | readAccount (tag : Byte) (id : Word)
  /-- INTERVAL_BOUNDARY (R173). -/
  | intervalBoundary
  /-- READ_BILLING (R180). -/
  | readBilling (tag : Byte)
  /-- ACK_BILLING (R181). -/
  | ackBilling (tag count : Byte)
  /-- HOST_TRANSACTION (R183): chip select rises; `bytes` are the whole bytes the host clocked. -/
  | hostTransaction (bytes : List Byte)
  /-- NOOP (R183). -/
  | noop (tag : Byte)
  /-- CONFIGURE (R190): the body, of 4 or 83 bytes. -/
  | configure (tag : Byte) (body : List Byte)
  /-- COMMIT (R191). -/
  | commit (tag : Byte)
  /-- RESET_SOFT (R195). -/
  | resetSoft (tag : Byte)
  /-- SET_TIME (R193). -/
  | setTime (tag : Byte) (time : Word)
  /-- SITE_TIME_WRAP (R193). -/
  | siteTimeWrap
  /-- READ_NODE (R194): NODE 0 to GROUP_CI 8. -/
  | readNode (tag part half : Byte)
  /-- ATTN_DELAY (R200). -/
  | attnDelay
  /-- READ_EVENTS (R199). -/
  | readEvents (tag : Byte)
  /-- ACK_EVENTS (R199). -/
  | ackEvents (tag count : Byte)
  /-- SERVICE_MARK (R201). -/
  | serviceMark (tag mark : Byte)
  /-- READ_FAULTS (R204). -/
  | readFaults (tag : Byte)
  /-- CLEAR_FAULTS (R204). -/
  | clearFaults (tag : Byte) (kinds : Half)
  /-- SET_FAULT_MASK (R204). -/
  | setFaultMask (tag : Byte) (kinds : Half)
  /-- TRANSACTION_BEGINS (R186): chip select falls. -/
  | transactionBegins
  /-- RAW_LEVEL_CHANGE (R144): a feedback line's raw level becomes `level` (`true` is active). -/
  | rawLevelChange (line : FieldLine) (level : Bool)
  /-- ANSWER_CLOCKED_IN (R207): the last `bytes` of the answer have been clocked in. -/
  | answerClockedIn (bytes : List Byte)
  deriving DecidableEq, Repr

end Sys2Proof
end

