-- ==== Sys2Proof/Decode.lean ====
section
/-! DEFINITION. The commands that a word spells by the bits of spec/opcode_table.json. No row of the
table gives bits (98_reader.md counts 0 rows with fixed bits), so no word spells a command.  How a host
record spells a command stands in Machine/Operands.lean (R184, R208), and how a frame spells a bulletin
beside it (R2, R206). -/

namespace Sys2Proof

/-- The command that the `nbits` bits of `w` spell by the table: none, for the table gives no row bits. -/
def decodeTableWord (_nbits _w : Nat) : Option Instr := none

end Sys2Proof
end

