-- ==== Sys2Proof/Config.lean ====
section
/-! DEFINITION. The free values: what the manual leaves open and no proof may know.  Each is an opaque
constant without a body. -/

namespace Sys2Proof.Config

/-- Which of several events that come together is taken first (R47, R77, R120, R173, R186 and others say
that the outcome depends on it and do not say which it is); log entry 4. -/
opaque tieBreak : Nat → Nat

/-- Which of the free pending records a SET_CHANNEL reserves (R156 says that one is reserved and not
which); log entry 8. -/
opaque pendingPlace : Nat → Nat

/-- What a 64-bit total holds after a sum that does not fit 64 bits (Units and ranges: the manual gives
the width and no overflow rule); log entry 5. -/
opaque over64 : Nat → Nat

/-- What a 32-bit quantity holds after a sum that does not fit 32 bits, where no rule says that it
saturates or wraps; log entry 5. -/
opaque over32 : Nat → Nat

/-- What a response record looks like on the wire when its body is longer than the 255 bytes a body
length can state (R184 gives the range, R169 names fields that can exceed it); log entry 6. -/
opaque overlongResponse : Nat → List Byte → List Byte

end Sys2Proof.Config
end

