-- ==== Sys2Proof/Machine/State.lean ====
section
/-! DEFINITION. The state of the SN-40: the eleven blocks' own state, the clocks, and the queue of
waiting commands.  Plain data throughout.  Times of "elapsed" kind are microseconds since power-on;
site time is held in microseconds and read in seconds and milliseconds. -/

namespace Sys2Proof.Machine

/-! ### Names of the manual -/

/-- The role of a node (Roles). -/
inductive Role where
  | genset | board
  deriving DecidableEq, Repr

/-- The node state (R188). -/
inductive NodeState where
  | config | run | mute
  deriving DecidableEq, Repr

/-- The bulletin's urgency class (section 1.3). -/
inductive TxClass where
  | urgent | normal | bulk
  deriving DecidableEq, Repr

/-- The link state (R17). -/
inductive LinkState where
  | normal | stuck
  deriving DecidableEq, Repr

/-- The eleven set states (section 3.1). -/
inductive SetState where
  | stopped | intending | cranking | resting | warming | syncing | online | stopIntending
  | unloading | cooling | faulted
  deriving DecidableEq, Repr

/-- The fault causes of the Set Controller (chapter 3). -/
inductive SetCause where
  | startFail | syncFail | unloadFail | unexpectedStop | setFault
  deriving DecidableEq, Repr

/-- The mode of the Set Controller (section 3.5). -/
inductive RunMode where
  | auto | manual
  deriving DecidableEq, Repr

/-- The nine board states (R110). -/
inductive BoardState where
  | settled | claiming | topupClaiming | opening | dead | closing | fallback | dark | isolated
  deriving DecidableEq, Repr

/-- The kinds of a claim (R23). -/
inductive ClaimKind where
  | planned | forced | topup
  deriving DecidableEq, Repr

/-- The origins of a claim record (R113). -/
inductive ClaimOrigin where
  | changeover | loss | fromDark | topup
  deriving DecidableEq, Repr

/-- The reasons of a RELEASE (R26). -/
inductive ReleaseReason where
  | done | aborted | failed
  deriving DecidableEq, Repr

/-- The kinds of an INTENT (R22). -/
inductive IntentKind where
  | start | stop
  deriving DecidableEq, Repr

/-- The freshness states of a peer record (R29). -/
inductive Freshness where
  | fresh | stale | lost
  deriving DecidableEq, Repr

/-- The states of a pledge entry (R98). -/
inductive PledgeState where
  | offered | confirmed | settling
  deriving DecidableEq, Repr

/-- What created a lot (R64). -/
inductive LotOrigin where
  | opening | delivery | adjust
  deriving DecidableEq, Repr

/-- The states of an account (R164); OPEN is `opened`. -/
inductive AccountState where
  | free | opened | over | closing
  deriving DecidableEq, Repr

/-- The two profiles of the Pledge Unit (R93). -/
inductive ProfileName where
  | a | b
  deriving DecidableEq, Repr

/-- The two contactor lines of a feeder (R148). -/
inductive PulseLine where
  | openLine | closeLine
  deriving DecidableEq, Repr

/-- The status codes of a response, in the order of section 10.2. -/
inductive Status where
  | ok | clamped | pending | busy | state | badField | badLength | badCheck | unknown | full
  | inUse | notFound
  deriving DecidableEq, Repr

/-- The sixteen fault kinds, in the order of R203. -/
inductive FaultKind where
  | crcBad | frameLen | unknownKind | fieldRange | collisionLimit | queueDrop | linkStuck | dupId
  | confirmStray | feNoAnswer | feBadCheck | feedbackConflict | contactorTimeout | hostCheck
  | hostUnknown | logFull
  deriving DecidableEq, Repr

/-- The 31 event kinds, in the order of R198. -/
inductive EventKind where
  | peerNew | peerLost | peerRestart | peerOverflow | dupId | txDrop | setState | startFail | refuel
  | diverge | dryModel | strayFlow | lotMerged | deliveryDone | pledgeRevoked | pledgeExpired
  | claimOverflow | changeoverDone | changeoverFailed | contactorFault | pledgeLostAfterConfirm
  | overcommit | isolated | shedChange | resolveRequest | accountOver | logFull | frontEndLost
  | frontEndBack | softReset | fault
  deriving DecidableEq, Repr

/-- The reasons of CHANGEOVER_FAILED, in the order of R209. -/
inductive FailReason where
  | short | cancelled | sourceLost | muted | openFail | closeFail | targetDead | uncommandedOpen
  deriving DecidableEq, Repr

/-- The causes of ISOLATED, in the order of R209. -/
inductive IsolateCause where
  | feedbackConflict | closeBlocked | fallbackFailed | welded | commit
  deriving DecidableEq, Repr

/-- A claim id: the board's node id and the claim serial. -/
structure ClaimId where
  board : Nat
  serial : Nat
  deriving DecidableEq, Repr

/-! ### The configuration record (R190) -/

/-- One profile entry: a level and a kind filter (R93). -/
structure ProfileEntry where
  level : Nat
  planned : Bool
  forced : Bool
  topup : Bool
  deriving DecidableEq, Repr

/-- The configuration record, field by field in the order of R190. -/
structure ConfigRecord where
  nodeId : Nat
  role : Role
  groupA : Nat
  groupB : Nat
  statusPeriod : Nat
  seed : Nat
  rating : Nat
  curve : List Nat
  capacity : Nat
  openingStock : Nat
  openingPrice : Nat
  levelTol : Nat
  deliveryTol : Nat
  pulsesPerLitre : Nat
  mLow : Nat
  mCrit : Nat
  refuelAt : Nat
  startThreshold : Nat
  startDelay : Nat
  stopThreshold : Nat
  stopDelay : Nat
  minOnline : Nat
  warmUp : Nat
  mode : RunMode
  margin : Nat
  deadTime : Nat
  lossConfirm : Nat
  returnConfirm : Nat
  filterTime : Nat
  intervalLength : Nat
  profileA : List ProfileEntry
  profileB : List ProfileEntry
  setBCount : Nat
  setBDelay : Nat
  deriving DecidableEq, Repr

/-! ### Bulletins (chapter 2) -/

/-- The fields of a GENSET STATUS but for its role (R20). -/
structure GensetStatus where
  group : Nat
  setState : SetState
  auto : Bool
  refuelWanted : Bool
  diverge : Bool
  frontEndLost : Bool
  runTag : Nat
  p : Nat
  r : Nat
  headroom : Nat
  held : Nat
  ci : Nat
  minutes : Nat
  deriving DecidableEq, Repr

/-- The fields of a BOARD STATUS but for its role (R21). -/
structure BoardStatus where
  groupA : Nat
  groupB : Nat
  boardState : BoardState
  active : Option Feeder
  capacityShed : Bool
  frontEndLost : Bool
  runTag : Nat
  load : Nat
  serial : Nat
  deriving DecidableEq, Repr

/-- A STATUS: the role is the form. -/
inductive StatusBody where
  | genset (st : GensetStatus)
  | board (st : BoardStatus)
  deriving DecidableEq, Repr

/-- A bulletin: kind and payload (R20 to R26). -/
inductive Bulletin where
  | status (body : StatusBody)
  | intent (group : Nat) (kind : IntentKind) (key serial : Nat)
  | claim (serial group : Nat) (kind : ClaimKind) (cls kw : Nat)
  | pledge (board serial kw : Nat)
  | revoke (board serial revoked remaining : Nat)
  | confirm (serial : Nat) (entries : List (Nat × Nat))
  | release (serial : Nat) (reason : ReleaseReason)
  deriving DecidableEq, Repr

/-! ### Site Link Controller (chapter 1) -/

/-- An entry of the transmit queue (R8). `backoffEnd` is a site time in microseconds, `none` when the
entry has no backoff or its backoff end has been taken. -/
structure TxEntry where
  bulletin : Bulletin
  cls : TxClass
  attempts : Nat
  backoffEnd : Option Nat
  sending : Bool
  deriving DecidableEq, Repr

/-- A bulletin in the retry hold, with the elapsed time of its retry (R11). -/
structure HeldBulletin where
  bulletin : Bulletin
  cls : TxClass
  retryAt : Nat
  deriving DecidableEq, Repr

/-- The gap penalty flags (R13). -/
structure Penalty where
  urgent : Bool
  normal : Bool
  bulk : Bool
  deriving DecidableEq, Repr

/-- The bus state, with the elapsed time at which it began (R1): the idle time is the time since. -/
inductive BusState where
  | idle (since : Nat)
  | busy (since : Nat)
  deriving DecidableEq, Repr

/-- The receiver's frame in assembly (R4). `own` says that the activity is the node's own frame and
that no bit has been read back differently so far (R6). -/
inductive RxState where
  /-- Waiting for the bus to become IDLE, or for the next BUSY period. -/
  | waiting
  /-- In a BUSY period, before the header has arrived. -/
  | candidate (own : Bool)
  /-- Sync byte and header taken; payload and CRC are arriving. -/
  | frame (own : Bool) (src kind len : Byte)
  deriving DecidableEq, Repr

/-- The frame being driven onto the pair. `orphan` marks a frame whose entry has been emptied from the
queue by MUTE or a soft reset and which is not retried (R18, R19). -/
structure TxFrame where
  bytes : List Byte
  cls : TxClass
  startedAt : Nat
  orphan : Bool
  deriving DecidableEq, Repr

/-- The Site Link Controller. -/
structure Slc where
  queue : List TxEntry
  hold : List HeldBulletin
  successor : Option Bulletin
  penalty : Penalty
  backoffGen : BitVec 16
  bus : BusState
  link : LinkState
  rx : RxState
  tx : Option TxFrame
  deriving DecidableEq, Repr

/-! ### Peer View Table (chapter 2) -/

/-- A peer record (R29). Role and run tag are those of the copy of the last STATUS. Times are site
milliseconds. -/
structure Peer where
  node : Nat
  lastHeard : Int
  status : StatusBody
  freshness : Freshness
  lostSince : Option Int
  deriving DecidableEq, Repr

/-- The Peer View Table. `statusNext` and `lastExtra` are elapsed times. -/
structure Pvt where
  peers : List Peer
  overflowReported : Bool
  base : Nat
  statusNext : Option Nat
  lastExtra : Option Nat
  extraDue : Bool
  lastHeadroom : Nat
  deriving DecidableEq, Repr

/-! ### Set Controller (chapter 3) -/

/-- A watch of the Set Controller: the elapsed time from which its condition has held, and the site time
(seconds) at which it started (R42, R45). -/
structure Watch where
  since : Nat
  stamp : Nat
  deriving DecidableEq, Repr

/-- The Set Controller. `timer` is the elapsed time at which the present state's limit ends. -/
structure Setc where
  state : SetState
  mode : RunMode
  cause : Option SetCause
  attempts : Nat
  timer : Option Nat
  startWatch : Option Watch
  stopWatch : Option Watch
  intentKey : Option Nat
  intentSerial : Nat
  deriving DecidableEq, Repr

/-! ### Fuel Accounting Unit (chapter 4) -/

/-- A lot (R64). -/
structure Lot where
  ticket : Nat
  merged : Nat
  origin : LotOrigin
  delivered : Nat
  remaining : Nat
  price : Nat
  deliveredAt : Nat
  disputed : Bool
  deriving DecidableEq, Repr

/-- The delivery record (section 4.4). -/
structure Delivery where
  ticket : Nat
  price : Nat
  litres : Nat
  metered : Nat
  carry : Nat
  openedAt : Nat
  lastPulse : Nat
  autoClose : Nat
  deriving DecidableEq, Repr

/-- The working copy of the fuel configuration (R66). -/
structure FuelConfig where
  rating : Nat
  curve : List Nat
  capacity : Nat
  openingPrice : Nat
  levelTol : Nat
  deliveryTol : Nat
  pulsesPerLitre : Nat
  mLow : Nat
  mCrit : Nat
  refuelAt : Nat
  deriving DecidableEq, Repr

/-- The Fuel Accounting Unit. `level` is the level reading of the latest answered sample, `levelFresh`
whether one has arrived since the previous check, `strayLast` the time of the last pulse of a stray
burst in progress, `nextCheck` the check timer. -/
structure Fau where
  copy : Option FuelConfig
  lots : List Lot
  burnResidue : Nat
  costResidue : Nat
  flow : Nat
  minutes : Nat
  factor : Nat
  refuelWanted : Bool
  lastPrice : Nat
  burned : Nat
  burnedCost : Nat
  unlotted : Nat
  shrinkage : Nat
  stray : Nat
  dryReported : Bool
  overload : Bool
  delivery : Option Delivery
  strayLast : Option Nat
  strayCarry : Nat
  diverge : Bool
  outCount : Nat
  inCount : Nat
  nextCheck : Option Nat
  level : Option Nat
  levelFresh : Bool
  adjustSerial : Nat
  deriving DecidableEq, Repr

/-! ### Pledge Unit (chapter 5) -/

/-- A claim wait-list entry (R91). `arrival` is a site time (seconds, milliseconds), `expiry` an elapsed
time. -/
structure WaitEntry where
  claim : ClaimId
  group : Nat
  kind : ClaimKind
  cls : Nat
  requested : Nat
  remaining : Nat
  arrivalSec : Nat
  arrivalMs : Nat
  expiry : Nat
  deriving DecidableEq, Repr

/-- A pledge-table entry (R98). -/
structure PledgeEntry where
  claim : ClaimId
  kw : Nat
  kind : ClaimKind
  state : PledgeState
  order : Nat
  deadline : Nat
  deriving DecidableEq, Repr

/-- The Pledge Unit. `formed` says that a sample has formed its figures since COMMIT (R107). An empty
profile list is "none". -/
structure Plu where
  derated : Nat
  headroom : Nat
  ci : Nat
  waits : List WaitEntry
  pledges : List PledgeEntry
  created : Nat
  profileA : List ProfileEntry
  profileB : List ProfileEntry
  active : ProfileName
  pointer : Nat
  formed : Bool
  deriving DecidableEq, Repr

/-! ### Changeover Sequencer (chapter 6) -/

/-- A loss watch: the elapsed time from which the source has been absent, and whether the moment of
confirmed loss has been taken (R114). -/
structure LossWatch where
  since : Nat
  taken : Bool
  deriving DecidableEq, Repr

/-- A feeder record but for position and source live, which are the field port's (R108). -/
structure FeederRec where
  group : Nat
  faulty : Bool
  lossWatch : Option LossWatch
  returnWatch : Option Nat
  deriving DecidableEq, Repr

/-- An entry of the pledge list of a claim record (R113). -/
structure PledgeItem where
  node : Nat
  kw : Nat
  taken : Option Nat
  deriving DecidableEq, Repr

/-- The claim record (R113). `confirmed` holds the taken total T once the CONFIRM has been built. -/
structure ClaimRec where
  serial : Nat
  target : Feeder
  group : Nat
  kind : ClaimKind
  cls : Nat
  origin : ClaimOrigin
  requested : Nat
  pledges : List PledgeItem
  confirmed : Option Nat
  deadline : Nat
  deriving DecidableEq, Repr

/-- The open limit: the feeder whose OPEN pulse started it, and its elapsed end (R121, R125). -/
structure OpenLimit where
  feeder : Feeder
  deadline : Nat
  deriving DecidableEq, Repr

/-- The Changeover Sequencer. `shed1` to `shed3` are the capacity-shed state: a level's recorded power
while it is under capacity shed. -/
structure Chs where
  state : BoardState
  feederA : FeederRec
  feederB : FeederRec
  active : Option Feeder
  billing : Option Feeder
  claim : Option ClaimRec
  serial : Nat
  snapLoad : Nat
  snapPowers : List Nat
  shed1 : Option Nat
  shed2 : Option Nat
  shed3 : Option Nat
  openLimit : Option OpenLimit
  deadTimer : Option Nat
  closeLimit : Option Nat
  topupTimer : Option Nat
  fallbackReason : FailReason
  deriving DecidableEq, Repr

/-! ### Field Port Controller (chapter 7) -/

/-- A sample record with its marks (R138). -/
structure Sample where
  seq : Nat
  p : Nat
  powers : List Nat
  energies : List Nat
  setEnergy : Nat
  tank : Nat
  liveA : Bool
  liveB : Bool
  check : Byte
  answered : Bool
  estimated : Bool
  lostMark : Bool
  deriving DecidableEq, Repr

/-- An open answer window: the request byte sent, its elapsed close, and the bytes clocked so far once
ready has risen (R136, R207). -/
structure Window where
  request : Byte
  closeAt : Nat
  clocked : Option (List Byte)
  deriving DecidableEq, Repr

/-- A chattering filter: the raw and the filtered level, and the elapsed time from which they have
differed (R144). -/
structure Filter where
  raw : Bool
  level : Bool
  since : Option Nat
  deriving DecidableEq, Repr

/-- A contactor pulse in progress (R148). -/
structure Pulse where
  line : PulseLine
  endAt : Nat
  deriving DecidableEq, Repr

/-- An estimate carry and balance (R140). -/
structure Estimate where
  carry : Nat
  balance : Nat
  deriving DecidableEq, Repr

/-- The Field Port Controller. -/
structure Fpc where
  nextPoll : Nat
  window : Option Window
  sample : Sample
  lastSeq : Option Nat
  missCount : Nat
  lost : Bool
  lostPolls : Nat
  channels : List Estimate
  set : Estimate
  setTotal : Nat
  answers : Nat
  misses : Nat
  feederA : Filter
  feederB : Filter
  running : Filter
  breaker : Filter
  setFault : Filter
  filterTime : Nat
  pulses : Nat
  heldPulses : Nat
  runRequest : Bool
  loadEnable : Bool
  relays : List Bool
  pulseA : Option Pulse
  pulseB : Option Pulse
  deriving DecidableEq, Repr

/-! ### Metering Unit (chapter 8) -/

/-- A channel record (R151). `mapping` is the account slot and the tariff slot, present while enabled. -/
structure Channel where
  mapping : Option (Nat × Nat)
  level : Nat
  credit : Bool
  capacity : Bool
  host : Bool
  shed : Bool
  power : Nat
  energy : Nat
  deriving DecidableEq, Repr

/-- A tariff slot's form (section 8.2). -/
inductive Tariff where
  | empty
  | reference (key : Nat)
  | resolved (key base pass : Nat)
  deriving DecidableEq, Repr

/-- A tariff slot with the elapsed end of its resolve-request timer (R157). -/
structure TariffSlot where
  tariff : Tariff
  timer : Option Nat
  deriving DecidableEq, Repr

/-- A reserved pending record (R156). -/
structure PendingRec where
  account : Nat
  tariff : Nat
  energy : Nat
  weighted : Nat
  groups : List Nat
  deriving DecidableEq, Repr

/-- A held group cost index with its computed flag (R160). -/
structure HeldCi where
  value : Nat
  computed : Bool
  deriving DecidableEq, Repr

/-- The capacity-shed level set (R154). -/
structure LevelSet where
  l1 : Bool
  l2 : Bool
  l3 : Bool
  deriving DecidableEq, Repr

/-- The Metering Unit: 16 channels, 16 tariff slots, 16 pending records, 15 held cost indices. -/
structure Mtr where
  channels : List Channel
  tariffs : List TariffSlot
  pendings : List (Option PendingRec)
  levels : LevelSet
  heldCis : List HeldCi
  deriving DecidableEq, Repr

/-! ### Billing Unit (chapters 8 and 9) -/

/-- An account record (R164). -/
structure Account where
  id : Nat
  state : AccountState
  charge : Nat
  residue : Nat
  energy : Nat
  limit : Nat
  intEnergy : Nat
  intCharge : Nat
  estimated : Bool
  staleRate : Bool
  noSource : Bool
  groups : List Nat
  carryEnergy : Nat
  carryCharge : Nat
  deriving DecidableEq, Repr

/-- An interval record (R174). -/
structure IntervalRec where
  account : Nat
  slot : Nat
  serial : Nat
  openedAt : Nat
  closedAt : Nat
  energy : Nat
  charge : Nat
  pendingEnergy : Nat
  estimated : Bool
  staleRate : Bool
  noSource : Bool
  pendingFlag : Bool
  carried : Bool
  split : Bool
  final : Bool
  timeset : Bool
  groups : List Nat
  deriving DecidableEq, Repr

/-- The Billing Unit: 64 accounts, the interval timer, and the billing log as its unread records in
production order from the consumer position on. -/
structure Bil where
  accounts : List Account
  length : Nat
  openedAt : Nat
  boundary : Nat
  serial : Nat
  log : List IntervalRec
  consumer : Nat
  fullReported : Bool
  deriving DecidableEq, Repr

/-! ### Host Port (chapter 10) -/

/-- A response record but for its length and check byte (R184). -/
structure Response where
  tag : Byte
  status : Status
  body : List Byte
  deriving DecidableEq, Repr

/-- A command in progress: its tag, and the command with its fields (R186). -/
structure InProgress where
  tag : Byte
  command : Instr
  deriving DecidableEq, Repr

/-- A transaction under way: what is being shifted out, and whether it is a pending record (R186). -/
structure Transaction where
  out : List Byte
  isPending : Bool
  deriving DecidableEq, Repr

/-- The Host Port. `committed` is the record put into force by the last COMMIT since power-on;
`shifted` is what the last finished transaction shifted out. -/
structure Hpt where
  inProgress : Option InProgress
  response : Response
  transaction : Option Transaction
  shifted : List Byte
  nodeState : NodeState
  record : Option ConfigRecord
  edited : Bool
  role : Option Role
  ownId : Option Nat
  runTag : Option Nat
  committed : Option ConfigRecord
  tagCounter : BitVec 16
  deriving DecidableEq, Repr

/-! ### Event and Fault Unit (chapter 11) -/

/-- The subject of an event (R198). -/
inductive Subject where
  | node (n : Nat)
  | claim (c : ClaimId)
  | slot (n : Nat)
  | channel (n : Nat)
  | ticket (n : Nat)
  deriving DecidableEq, Repr

/-- An event record (R198), with the elapsed time at which it was written (R197). -/
structure EventRec where
  kind : EventKind
  subject : Subject
  sec : Nat
  ms : Nat
  value : Nat
  qualifier : Nat
  lostBefore : Nat
  writtenAt : Nat
  deriving DecidableEq, Repr

/-- The first-fault record (R202). -/
structure FirstFault where
  kind : Option FaultKind
  sec : Nat
  ms : Nat
  capture : List Byte
  deriving DecidableEq, Repr

/-- The Event and Fault Unit: the ring as its unread records, oldest first, from the consumer index on. -/
structure Evf where
  ring : List EventRec
  consumer : Nat
  lost : Nat
  mark : Nat
  setBCount : Nat
  setBDelay : Nat
  attn : Bool
  sticky : BitVec 16
  mask : BitVec 16
  first : FirstFault
  deriving DecidableEq, Repr

/-! ### The machine -/

/-- The clocks: microseconds elapsed since power-on, and site time in microseconds (R193). -/
structure Clock where
  elapsed : Nat
  site : Nat
  deriving DecidableEq, Repr

/-- The whole state. `pending` is the queue of waiting commands, first in, first out; `choices` counts
the free choices made so far (the model's own field, log entry 4). -/
structure State where
  clock : Clock
  slc : Slc
  pvt : Pvt
  setc : Setc
  fau : Fau
  plu : Plu
  chs : Chs
  fpc : Fpc
  mtr : Mtr
  bil : Bil
  hpt : Hpt
  evf : Evf
  pending : List Instr
  choices : Nat
  deriving DecidableEq, Repr

/-- The faults of a step: none. No rule of the manual stops the part; what it calls a fault is an
occurrence taken by the Event and Fault Unit, which is a next state. -/
inductive Fault where
  deriving DecidableEq, Repr

/-- The refusals of a step. -/
inductive Refusal where
  /-- Raised by `exec` for a command whose meaning has not been written; safe. No arm raises it. -/
  | notModelled (mnemonic : String)
  deriving DecidableEq, Repr

/-! ### The state after power-on reset -/

/-- R19. -/
def Slc.reset : Slc where
  queue := []
  hold := []
  successor := none
  penalty := ⟨false, false, false⟩
  backoffGen := 0xACE1
  bus := .busy 0
  link := .normal
  rx := .waiting
  tx := none

/-- R37. -/
def Pvt.reset : Pvt where
  peers := []
  overflowReported := false
  base := 2
  statusNext := none
  lastExtra := none
  extraDue := false
  lastHeadroom := 0

/-- R63. -/
def Setc.reset : Setc where
  state := .stopped
  mode := .auto
  cause := none
  attempts := 0
  timer := none
  startWatch := none
  stopWatch := none
  intentKey := none
  intentSerial := 0

/-- R86. -/
def Fau.reset : Fau where
  copy := none
  lots := []
  burnResidue := 0
  costResidue := 0
  flow := 0
  minutes := 0
  factor := 0
  refuelWanted := false
  lastPrice := 0
  burned := 0
  burnedCost := 0
  unlotted := 0
  shrinkage := 0
  stray := 0
  dryReported := false
  overload := false
  delivery := none
  strayLast := none
  strayCarry := 0
  diverge := false
  outCount := 0
  inCount := 0
  nextCheck := none
  level := none
  levelFresh := false
  adjustSerial := 0

/-- R107. -/
def Plu.reset : Plu where
  derated := 0
  headroom := 0
  ci := 0
  waits := []
  pledges := []
  created := 0
  profileA := []
  profileB := []
  active := .a
  pointer := 0
  formed := false

/-- A feeder record at power-on (R108, R135); its group is 0 until a COMMIT gives one (log entry 1). -/
def FeederRec.reset : FeederRec where
  group := 0
  faulty := false
  lossWatch := none
  returnWatch := none

/-- R135. -/
def Chs.reset : Chs where
  state := .dark
  feederA := .reset
  feederB := .reset
  active := none
  billing := none
  claim := none
  serial := 0
  snapLoad := 0
  snapPowers := List.replicate 16 0
  shed1 := none
  shed2 := none
  shed3 := none
  openLimit := none
  deadTimer := none
  closeLimit := none
  topupTimer := none
  fallbackReason := .targetDead

/-- The held sample at power-on (R149). -/
def Sample.reset : Sample where
  seq := 0
  p := 0
  powers := List.replicate 16 0
  energies := List.replicate 16 0
  setEnergy := 0
  tank := 0
  liveA := false
  liveB := false
  check := 0
  answered := false
  estimated := false
  lostMark := false

/-- A filter at power-on (R145). -/
def Filter.reset : Filter where
  raw := false
  level := false
  since := none

/-- R149. -/
def Fpc.reset : Fpc where
  nextPoll := 0
  window := none
  sample := .reset
  lastSeq := none
  missCount := 0
  lost := false
  lostPolls := 0
  channels := List.replicate 16 ⟨0, 0⟩
  set := ⟨0, 0⟩
  setTotal := 0
  answers := 0
  misses := 0
  feederA := .reset
  feederB := .reset
  running := .reset
  breaker := .reset
  setFault := .reset
  filterTime := 16
  pulses := 0
  heldPulses := 0
  runRequest := false
  loadEnable := false
  relays := List.replicate 16 false
  pulseA := none
  pulseB := none

/-- A channel at power-on (R151). -/
def Channel.reset : Channel where
  mapping := none
  level := 0
  credit := false
  capacity := false
  host := false
  shed := false
  power := 0
  energy := 0

/-- R171. -/
def Mtr.reset : Mtr where
  channels := List.replicate 16 .reset
  tariffs := List.replicate 16 ⟨.empty, none⟩
  pendings := List.replicate 16 none
  levels := ⟨false, false, false⟩
  heldCis := List.replicate 15 ⟨0, false⟩

/-- A FREE account slot (R164). -/
def Account.reset : Account where
  id := 0
  state := .free
  charge := 0
  residue := 0
  energy := 0
  limit := 0
  intEnergy := 0
  intCharge := 0
  estimated := false
  staleRate := false
  noSource := false
  groups := []
  carryEnergy := 0
  carryCharge := 0

/-- R171, R182. -/
def Bil.reset : Bil where
  accounts := List.replicate 64 .reset
  length := 15
  openedAt := 0
  boundary := 900
  serial := 1
  log := []
  consumer := 0
  fullReported := false

/-- R184, R196. -/
def Hpt.reset : Hpt where
  inProgress := none
  response := ⟨0, .ok, []⟩
  transaction := none
  shifted := []
  nodeState := .config
  record := none
  edited := false
  role := none
  ownId := none
  runTag := none
  committed := none
  tagCounter := 0

/-- R205. -/
def Evf.reset : Evf where
  ring := []
  consumer := 0
  lost := 0
  mark := 0
  setBCount := 8
  setBDelay := 250
  attn := false
  sticky := 0
  mask := 0
  first := ⟨none, 0, 0, List.replicate 8 0⟩

/-- The machine right after power-on reset (R196): every block takes its power-on state, both clocks
are 0 and no command waits. -/
def State.reset : State where
  clock := ⟨0, 0⟩
  slc := .reset
  pvt := .reset
  setc := .reset
  fau := .reset
  plu := .reset
  chs := .reset
  fpc := .reset
  mtr := .reset
  bil := .reset
  hpt := .reset
  evf := .reset
  pending := []
  choices := 0

end Sys2Proof.Machine
end

