-- ==== Sys2Proof/Machine/Ops.lean ====
section
/-! DEFINITION. The operations every block uses: the updates of the state, the manual's constants, the
clocks, arithmetic with stated bounds, events and faults (chapter 11), and the response to a command
(chapter 10). -/

namespace Sys2Proof.Machine

/-! ### Updates: one block replaced, the rest kept -/

/-- The state with one block replaced. -/
def State.withClock (s : State) (x : Clock) : State := { s with clock := x }
/-- The state with one block replaced. -/
def State.withSlc (s : State) (x : Slc) : State := { s with slc := x }
/-- The state with one block replaced. -/
def State.withPvt (s : State) (x : Pvt) : State := { s with pvt := x }
/-- The state with one block replaced. -/
def State.withSetc (s : State) (x : Setc) : State := { s with setc := x }
/-- The state with one block replaced. -/
def State.withFau (s : State) (x : Fau) : State := { s with fau := x }
/-- The state with one block replaced. -/
def State.withPlu (s : State) (x : Plu) : State := { s with plu := x }
/-- The state with one block replaced. -/
def State.withChs (s : State) (x : Chs) : State := { s with chs := x }
/-- The state with one block replaced. -/
def State.withFpc (s : State) (x : Fpc) : State := { s with fpc := x }
/-- The state with one block replaced. -/
def State.withMtr (s : State) (x : Mtr) : State := { s with mtr := x }
/-- The state with one block replaced. -/
def State.withBil (s : State) (x : Bil) : State := { s with bil := x }
/-- The state with one block replaced. -/
def State.withHpt (s : State) (x : Hpt) : State := { s with hpt := x }
/-- The state with one block replaced. -/
def State.withEvf (s : State) (x : Evf) : State := { s with evf := x }
/-- The state with one block replaced. -/
def State.withPending (s : State) (x : List Instr) : State := { s with pending := x }
/-- The state with one block replaced. -/
def State.withChoices (s : State) (x : Nat) : State := { s with choices := x }

/-! ### Constants of the manual, in microseconds where they are durations -/

/-- One second. -/
abbrev second : Nat := 1000000

/-- One millisecond. -/
abbrev millisecond : Nat := 1000

/-- One gap unit, 64 µs (section 1.1). -/
abbrev gapUnit : Nat := 64

/-- One backoff slot: 16 gap units (R14). -/
abbrev backoffSlot : Nat := 16 * gapUnit

/-- The sync byte (R206). -/
abbrev syncByte : Byte := 0x4E

/-- The request byte of a poll (R207). -/
abbrev pollRequest : Byte := 0xA5

/-- The number of site seconds at which site time wraps (R193). -/
abbrev siteTimeEnd : Nat := 2 ^ 32

/-! ### Clocks -/

/-- Elapsed time now, in microseconds. -/
def State.now (s : State) : Nat := s.clock.elapsed

/-- Site time, whole milliseconds. -/
def State.siteMillis (s : State) : Nat := s.clock.site / millisecond

/-- Site time, whole seconds (R193). -/
def State.siteSec (s : State) : Nat := s.clock.site / second

/-- The millisecond part of site time (R193). -/
def State.siteMs (s : State) : Nat := s.clock.site / millisecond % 1000

/-- An optional elapsed time has been reached. -/
def reached (now : Nat) : Option Nat → Bool
  | none => false
  | some t => decide (t ≤ now)

/-! ### Arithmetic with stated bounds -/

/-- The sum of two 64-bit totals. Where it does not fit, the manual states no value (log entry 5). -/
def add64 (a b : Nat) : Nat := if a + b < 2 ^ 64 then a + b else Config.over64 (a + b) % 2 ^ 64

/-- A number as a 32-bit quantity. Where it does not fit and no rule saturates or wraps it, the manual
states no value (log entry 5). -/
def fit32 (n : Nat) : Nat := if n < 2 ^ 32 then n else Config.over32 n % 2 ^ 32

/-- Saturation at the top of a 32-bit range. -/
def sat32 (n : Nat) : Nat := min n (2 ^ 32 - 1)

/-- Saturation at the top of a 16-bit range. -/
def sat16 (n : Nat) : Nat := min n 65535

/-- Division rounded to nearest, ties upward (Arithmetic). -/
def roundDiv (a b : Nat) : Nat := (2 * a + b) / (2 * b)

/-- Division rounded up. -/
def ceilDiv (a b : Nat) : Nat := (a + b - 1) / b

/-- A signed difference as a 32-bit two's-complement number, saturating at its bounds (R198). -/
def signed32 (d : Int) : Nat :=
  let c := max (-(2 : Int) ^ 31) (min d (2 ^ 31 - 1))
  (if c < 0 then c + 2 ^ 32 else c).toNat

/-! ### Lists of fixed length -/

/-- The element at a place, or the value named where there is none. -/
def nth {α : Type} (d : α) (l : List α) (i : Nat) : α := l.getD i d

/-- One element replaced by a function of itself. -/
def adjust {α : Type} (f : α → α) : Nat → List α → List α
  | _, [] => []
  | 0, x :: xs => f x :: xs
  | i + 1, x :: xs => x :: adjust f i xs

/-- The first `n` bytes, with zeros for bytes that did not arrive (R5, R203). -/
def padTo (n : Nat) (l : List Byte) : List Byte := (l ++ List.replicate n 0).take n

/-! ### Identity -/

/-- The node id an event or a capture names: the own id, else the node id of the committed
configuration, else 0 (R198, R203). -/
def State.eventId (s : State) : Nat :=
  match s.hpt.ownId with
  | some n => n
  | none => match s.hpt.committed with
    | some c => c.nodeId
    | none => 0

/-- The record in force. It is only read where a COMMIT has been made; the value before the first COMMIT
is never used. -/
def State.cfg (s : State) : ConfigRecord :=
  s.hpt.committed.getD
    { nodeId := 0, role := .genset, groupA := 0, groupB := 0, statusPeriod := 2, seed := 0, rating := 1000,
      curve := [0, 0, 0, 0, 0], capacity := 1000000, openingStock := 0, openingPrice := 0, levelTol := 5000,
      deliveryTol := 20, pulsesPerLitre := 100, mLow := 120, mCrit := 30, refuelAt := 240,
      startThreshold := 800, startDelay := 30, stopThreshold := 450, stopDelay := 300, minOnline := 1,
      warmUp := 60, mode := .auto, margin := 100, deadTime := 800, lossConfirm := 200, returnConfirm := 5,
      filterTime := 16, intervalLength := 15, profileA := [], profileB := [], setBCount := 8, setBDelay := 250 }

/-- The node is a GENSET in a node state in which its role's blocks work (RUN or MUTE). -/
def State.gensetWorks (s : State) : Bool :=
  decide (s.hpt.role = some .genset) && decide (s.hpt.nodeState ≠ .config)

/-- The node is a BOARD in a node state in which its role's blocks work (RUN or MUTE). -/
def State.boardWorks (s : State) : Bool :=
  decide (s.hpt.role = some .board) && decide (s.hpt.nodeState ≠ .config)

/-! ### The event ring and ATTN (R197, R200) -/

/-- The producer index of the ring (R197): the consumer index advanced by the unread count. -/
def Evf.producer (e : Evf) : Nat := (e.consumer + e.ring.length) % 64

/-- The count of the coalescing set in force (section 11.2). -/
def Evf.count (e : Evf) : Nat := if e.mark = 0 then 1 else e.setBCount

/-- The delay, in milliseconds, of the coalescing set in force. -/
def Evf.delay (e : Evf) : Nat := if e.mark = 0 then 0 else e.setBDelay

/-- One of the two raise conditions of R200 holds. -/
def Evf.wantsAttn (e : Evf) (now : Nat) : Bool :=
  match e.ring with
  | [] => false
  | r :: _ => decide (e.count ≤ e.ring.length) || decide (r.writtenAt + e.delay * millisecond ≤ now)

/-- The test of R200: raised when low and a condition holds. -/
def testAttn (s : State) : State :=
  s.withEvf { s.evf with attn := s.evf.attn || s.evf.wantsAttn s.now }

/-- A block posts an event (R197): written, stamped and tested for ATTN, or dropped when 64 wait. -/
def postEvent (k : EventKind) (subject : Subject) (value qualifier : Nat) (s : State) : State :=
  if s.evf.ring.length < 64 then
    testAttn (s.withEvf { s.evf with
      ring := s.evf.ring ++ [⟨k, subject, s.siteSec, s.siteMs, value, qualifier, s.evf.lost, s.now⟩]
      lost := 0 })
  else s.withEvf { s.evf with lost := min (s.evf.lost + 1) 65535 }

/-- Two values carried as 16-bit halves, the first in the upper half (R198). -/
def pair16 (hi lo : Nat) : Nat := hi * 65536 + lo

/-- The position of a fault kind (R208). -/
def FaultKind.code : FaultKind → Nat
  | .crcBad => 0 | .frameLen => 1 | .unknownKind => 2 | .fieldRange => 3 | .collisionLimit => 4
  | .queueDrop => 5 | .linkStuck => 6 | .dupId => 7 | .confirmStray => 8 | .feNoAnswer => 9
  | .feBadCheck => 10 | .feedbackConflict => 11 | .contactorTimeout => 12 | .hostCheck => 13
  | .hostUnknown => 14 | .logFull => 15

/-- The bit of a fault kind in a set of fault kinds (R208). -/
def FaultKind.bit (k : FaultKind) : BitVec 16 := BitVec.ofNat 16 (2 ^ k.code)

/-- The kind is a member of a set of fault kinds. -/
def FaultKind.inSet (k : FaultKind) (m : BitVec 16) : Bool := m.getLsbD k.code

/-- A block reports an occurrence of a fault kind with its capture (R202): sticky status, then the FAULT
event and the first-fault record unless the kind is masked. -/
def reportFault (k : FaultKind) (capture : List Byte) (s : State) : State :=
  let s := s.withEvf { s.evf with sticky := s.evf.sticky ||| k.bit }
  if k.inSet s.evf.mask then s
  else
    let isFirst := s.evf.first.kind.isNone
    let s := postEvent .fault (.node s.eventId) (if isFirst then 1 else 0) k.code s
    if isFirst then
      s.withEvf { s.evf with first := ⟨some k, s.siteSec, s.siteMs, padTo 8 capture⟩ }
    else s

/-- A byte from a number below 256. -/
def byte (n : Nat) : Byte := BitVec.ofNat 8 n

/-! ### The response to a command (R184, R186, R187, R189) -/

/-- The owner's response replaces the response buffer, and no command is in progress (R186). -/
def respond (tag : Byte) (status : Status) (body : List Byte) (s : State) : State :=
  s.withHpt { s.hpt with response := ⟨tag, status, body⟩, inProgress := none }

/-- A refusal other than BAD_FIELD: an empty body, and nothing else changes (R187). -/
def refuse (tag : Byte) (status : Status) (s : State) : State := respond tag status [] s

/-- A BAD_FIELD refusal, naming the field by its index (R187). -/
def badField (tag : Byte) (index : Nat) (s : State) : State := respond tag .badField [byte index] s

/-- The role and node states a command is taken in (R189). -/
def State.takes (s : State) (role : Option Role) (states : List NodeState) : Bool :=
  (match role with
   | none => true
   | some r => decide (s.hpt.role = some r)) && states.contains s.hpt.nodeState

/-- A command is carried out where R189 takes it, and refused with STATE elsewhere. -/
def gated (role : Option Role) (states : List NodeState) (tag : Byte) (act : State → State) (s : State) : State :=
  if s.takes role states then act s else refuse tag .state s

end Sys2Proof.Machine
end

