-- ==== Sys2Proof/Machine/Flags.lean ====
section
/-! DEFINITION. The check values of the three ports: the frame CRC (R3), the byte sums of the host and
front-end records (R184, R137), and the backoff generator's step (R16). -/

namespace Sys2Proof.Machine

/-- The CRC register after one more data bit (R3): shifted toward its high end, and XORed with 0x1021
when the bit shifted out differs from the data bit. -/
def crcBit (reg : BitVec 16) (bit : Bool) : BitVec 16 :=
  if reg.getLsbD 15 != bit then (reg <<< 1) ^^^ 0x1021 else reg <<< 1

/-- The CRC register after one more byte, most significant bit first (R3). -/
def crcByte (reg : BitVec 16) (b : Byte) : BitVec 16 :=
  crcBit (crcBit (crcBit (crcBit (crcBit (crcBit (crcBit (crcBit reg
    (b.getLsbD 7)) (b.getLsbD 6)) (b.getLsbD 5)) (b.getLsbD 4)) (b.getLsbD 3)) (b.getLsbD 2))
    (b.getLsbD 1)) (b.getLsbD 0)

/-- The frame check over header and payload bytes, starting at 0xFFFF (R3). -/
def crc16 (bytes : List Byte) : BitVec 16 := bytes.foldl crcByte 0xFFFF

/-- The CRC as it is sent, high byte first (R3). -/
def crcBytes (bytes : List Byte) : List Byte :=
  [BitVec.ofNat 8 ((crc16 bytes).toNat / 256), BitVec.ofNat 8 ((crc16 bytes).toNat % 256)]

/-- The sum of a record's bytes modulo 256. -/
def byteSum (bytes : List Byte) : Byte := bytes.foldl (· + ·) 0

/-- The check byte of a record: the two's complement of the sum of the other bytes (R137, R184). -/
def checkByte (bytes : List Byte) : Byte := -(byteSum bytes)

/-- One step of the backoff generator (R16): one place toward the low end, the new top bit the XOR of
bits 0, 2, 3 and 5. -/
def backoffStep (g : BitVec 16) : BitVec 16 :=
  let top := g.getLsbD 0 ^^ g.getLsbD 2 ^^ g.getLsbD 3 ^^ g.getLsbD 5
  (g >>> 1) ||| (if top then 0x8000 else 0)

/-- The draw for collision count `a`: the low min(a, 5) bits of the stepped register (R16). -/
def backoffDraw (a : Nat) (g : BitVec 16) : Nat := g.toNat % 2 ^ min a 5

/-- The value COMMIT loads the backoff generator with (R16). -/
def backoffLoad (seed nodeId : Nat) : BitVec 16 :=
  let v := BitVec.ofNat 16 seed ^^^ BitVec.ofNat 16 (nodeId * 257)
  if v = 0 then 0xACE1 else v

end Sys2Proof.Machine
end

