-- ==== Sys2Proof/Machine/Operands.lean ====
section
/-! DEFINITION. The forms of everything that crosses a port: byte order (chapter 12), the codes of the
enumerations (R206, R208, R209), the payloads of the bulletins with their range checks (R5, R206), the
bodies of the host commands (R208) and of the configuration record (R190). -/

namespace Sys2Proof.Machine

/-! ### Byte order: high byte first (chapter 12) -/

/-- A number in two bytes. -/
def be16 (n : Nat) : List Byte := [byte (n / 256), byte n]

/-- A number in four bytes. -/
def be32 (n : Nat) : List Byte := [byte (n / 16777216), byte (n / 65536), byte (n / 256), byte n]

/-- A number in eight bytes. -/
def be64 (n : Nat) : List Byte := be32 (n / 2 ^ 32) ++ be32 n

/-- The number two bytes carry. -/
def of16 (h l : Byte) : Nat := h.toNat * 256 + l.toNat

/-- The number four bytes carry. -/
def of32 (a b c d : Byte) : Nat := ((a.toNat * 256 + b.toNat) * 256 + c.toNat) * 256 + d.toNat

/-- The number a run of bytes carries. -/
def ofBytes (l : List Byte) : Nat := l.foldl (fun n b => n * 256 + b.toNat) 0

/-- An optional field: one presence byte, then the field or zeros in its place (R208). -/
def optional (width : Nat) (f : Option (List Byte)) : List Byte :=
  match f with
  | some l => 1 :: l
  | none => 0 :: List.replicate width 0

/-- A flag, as the set of its one member (R208). -/
def flagByte (b : Bool) : Byte := if b then 1 else 0

/-- A set of named members as a bit mask, bit 0 for the first listed (R208). -/
def maskNat : List Bool → Nat
  | [] => 0
  | b :: bs => (if b then 1 else 0) + 2 * maskNat bs

/-- A set of at most eight named members. -/
def mask8 (l : List Bool) : Byte := byte (maskNat l)

/-! ### Codes of the enumerations -/

/-- GENSET 0, BOARD 1 (R206). -/
def Role.code : Role → Nat
  | .genset => 0 | .board => 1

/-- CONFIG 0, RUN 1, MUTE 2 (the order of section 10.3; log entry 7). -/
def NodeState.code : NodeState → Nat
  | .config => 0 | .run => 1 | .mute => 2

/-- URGENT 0, NORMAL 1, BULK 2 (R209). -/
def TxClass.code : TxClass → Nat
  | .urgent => 0 | .normal => 1 | .bulk => 2

/-- NORMAL 0, STUCK 1. -/
def LinkState.code : LinkState → Nat
  | .normal => 0 | .stuck => 1

/-- STOPPED 0 to FAULTED 10 (R206). -/
def SetState.code : SetState → Nat
  | .stopped => 0 | .intending => 1 | .cranking => 2 | .resting => 3 | .warming => 4 | .syncing => 5
  | .online => 6 | .stopIntending => 7 | .unloading => 8 | .cooling => 9 | .faulted => 10

/-- The set state of a code (R206). -/
def SetState.ofCode : Nat → Option SetState
  | 0 => some .stopped | 1 => some .intending | 2 => some .cranking | 3 => some .resting
  | 4 => some .warming | 5 => some .syncing | 6 => some .online | 7 => some .stopIntending
  | 8 => some .unloading | 9 => some .cooling | 10 => some .faulted | _ => none

/-- The causes in the order chapter 3 lists them. -/
def SetCause.code : SetCause → Nat
  | .startFail => 0 | .syncFail => 1 | .unloadFail => 2 | .unexpectedStop => 3 | .setFault => 4

/-- AUTO 0, MANUAL 1. -/
def RunMode.code : RunMode → Nat
  | .auto => 0 | .manual => 1

/-- SETTLED 0 to ISOLATED 8 (R206). -/
def BoardState.code : BoardState → Nat
  | .settled => 0 | .claiming => 1 | .topupClaiming => 2 | .opening => 3 | .dead => 4 | .closing => 5
  | .fallback => 6 | .dark => 7 | .isolated => 8

/-- The board state of a code (R206). -/
def BoardState.ofCode : Nat → Option BoardState
  | 0 => some .settled | 1 => some .claiming | 2 => some .topupClaiming | 3 => some .opening
  | 4 => some .dead | 5 => some .closing | 6 => some .fallback | 7 => some .dark | 8 => some .isolated
  | _ => none

/-- Active feeder: A 0, B 1, NONE 2 (R206). -/
def feederSelCode : Option Feeder → Nat
  | some .a => 0 | some .b => 1 | none => 2

/-- The feeder selection of a code (R206). -/
def feederSelOf : Nat → Option (Option Feeder)
  | 0 => some (some .a) | 1 => some (some .b) | 2 => some none | _ => none

/-- The feeder of a command's body: A 0, B 1 (R208). -/
def feederOf (b : Byte) : Option Feeder :=
  match b.toNat with
  | 0 => some .a | 1 => some .b | _ => none

/-- A feeder in an event's qualifier: A 1, B 2, NONE 0 (R209). -/
def feederMark : Option Feeder → Nat
  | none => 0 | some .a => 1 | some .b => 2

/-- START 0, STOP 1 (R206). -/
def IntentKind.code : IntentKind → Nat
  | .start => 0 | .stop => 1

/-- PLANNED 0, FORCED 1, TOPUP 2 (R206). -/
def ClaimKind.code : ClaimKind → Nat
  | .planned => 0 | .forced => 1 | .topup => 2

/-- The claim kind of a code (R206). -/
def ClaimKind.ofCode : Nat → Option ClaimKind
  | 0 => some .planned | 1 => some .forced | 2 => some .topup | _ => none

/-- CHANGEOVER 0, LOSS 1, RETURN 2, TOPUP 3: the order of R113. -/
def ClaimOrigin.code : ClaimOrigin → Nat
  | .changeover => 0 | .loss => 1 | .fromDark => 2 | .topup => 3

/-- DONE 0, ABORTED 1, FAILED 2 (R206). -/
def ReleaseReason.code : ReleaseReason → Nat
  | .done => 0 | .aborted => 1 | .failed => 2

/-- The release reason of a code (R206). -/
def ReleaseReason.ofCode : Nat → Option ReleaseReason
  | 0 => some .done | 1 => some .aborted | 2 => some .failed | _ => none

/-- FRESH 0, STALE 1, LOST 2. -/
def Freshness.code : Freshness → Nat
  | .fresh => 0 | .stale => 1 | .lost => 2

/-- OFFERED 0, CONFIRMED 1, SETTLING 2. -/
def PledgeState.code : PledgeState → Nat
  | .offered => 0 | .confirmed => 1 | .settling => 2

/-- OPENING 0, DELIVERY 1, ADJUST 2 (R209). -/
def LotOrigin.code : LotOrigin → Nat
  | .opening => 0 | .delivery => 1 | .adjust => 2

/-- FREE 0, OPEN 1, OVER 2, CLOSING 3: the order of R164. -/
def AccountState.code : AccountState → Nat
  | .free => 0 | .opened => 1 | .over => 2 | .closing => 3

/-- A 0, B 1 (R208). -/
def ProfileName.code : ProfileName → Nat
  | .a => 0 | .b => 1

/-- OK 0 to NOT_FOUND 11 (R208). -/
def Status.code : Status → Nat
  | .ok => 0 | .clamped => 1 | .pending => 2 | .busy => 3 | .state => 4 | .badField => 5
  | .badLength => 6 | .badCheck => 7 | .unknown => 8 | .full => 9 | .inUse => 10 | .notFound => 11

/-- PEER_NEW 0 to FAULT 30 (R209). -/
def EventKind.code : EventKind → Nat
  | .peerNew => 0 | .peerLost => 1 | .peerRestart => 2 | .peerOverflow => 3 | .dupId => 4 | .txDrop => 5
  | .setState => 6 | .startFail => 7 | .refuel => 8 | .diverge => 9 | .dryModel => 10 | .strayFlow => 11
  | .lotMerged => 12 | .deliveryDone => 13 | .pledgeRevoked => 14 | .pledgeExpired => 15
  | .claimOverflow => 16 | .changeoverDone => 17 | .changeoverFailed => 18 | .contactorFault => 19
  | .pledgeLostAfterConfirm => 20 | .overcommit => 21 | .isolated => 22 | .shedChange => 23
  | .resolveRequest => 24 | .accountOver => 25 | .logFull => 26 | .frontEndLost => 27 | .frontEndBack => 28
  | .softReset => 29 | .fault => 30

/-- SHORT 0 to UNCOMMANDED_OPEN 7 (R209). -/
def FailReason.code : FailReason → Nat
  | .short => 0 | .cancelled => 1 | .sourceLost => 2 | .muted => 3 | .openFail => 4 | .closeFail => 5
  | .targetDead => 6 | .uncommandedOpen => 7

/-- FEEDBACK_CONFLICT 0 to COMMIT 4 (R209). -/
def IsolateCause.code : IsolateCause → Nat
  | .feedbackConflict => 0 | .closeBlocked => 1 | .fallbackFailed => 2 | .welded => 3 | .commit => 4

/-- The subject type and value of an event record (R209). -/
def Subject.code : Subject → Nat × Nat
  | .node n => (0, n)
  | .claim c => (1, pair16 c.board c.serial)
  | .slot n => (2, n)
  | .channel n => (3, n)
  | .ticket n => (4, n)

/-! ### Bulletins on the wire (R2, R206) -/

/-- The kind code of a bulletin; the two forms of STATUS have their own (R206). -/
def Bulletin.kindCode : Bulletin → Nat
  | .status (.genset _) => 1
  | .status (.board _) => 2
  | .intent .. => 3
  | .claim .. => 4
  | .pledge .. => 5
  | .revoke .. => 6
  | .confirm .. => 7
  | .release .. => 8

/-- The payload of a GENSET STATUS (R206). -/
def GensetStatus.payload (g : GensetStatus) : List Byte :=
  [byte 0, byte g.group,
    byte (g.setState.code * 16 + maskNat [g.auto, g.refuelWanted, g.diverge, g.frontEndLost])]
    ++ be16 g.runTag ++ be16 g.p ++ be16 g.r ++ be16 g.headroom ++ be16 g.held ++ be16 g.ci ++ be16 g.minutes

/-- The payload of a BOARD STATUS (R206). -/
def BoardStatus.payload (b : BoardStatus) : List Byte :=
  [byte 1, byte b.groupA, byte b.groupB, byte b.boardState.code, byte (feederSelCode b.active),
    mask8 [b.capacityShed, b.frontEndLost]]
    ++ be16 b.runTag ++ be16 b.load ++ [byte b.serial]

/-- The entries of a CONFIRM, in list order (R206). -/
def confirmEntries : List (Nat × Nat) → List Byte
  | [] => []
  | (node, kw) :: rest => byte node :: be16 kw ++ confirmEntries rest

/-- The payload of a bulletin (R206). -/
def Bulletin.payload : Bulletin → List Byte
  | .status (.genset g) => g.payload
  | .status (.board b) => b.payload
  | .intent group kind key serial => [byte group, byte kind.code] ++ be16 key ++ [byte serial]
  | .claim serial group kind cls kw => [byte serial, byte group, byte kind.code, byte cls] ++ be16 kw
  | .pledge board serial kw => [byte board, byte serial] ++ be16 kw
  | .revoke board serial revoked remaining => [byte board, byte serial] ++ be16 revoked ++ be16 remaining
  | .confirm serial entries => [byte serial, byte entries.length] ++ confirmEntries entries
  | .release serial reason => [byte serial, byte reason.code]

/-- Header and payload of a frame from node `src` (R2). -/
def Bulletin.covered (src : Nat) (b : Bulletin) : List Byte :=
  [byte src, byte b.kindCode, byte b.payload.length] ++ b.payload

/-- The whole frame from node `src`: sync byte, header, payload, CRC (R2). -/
def Bulletin.frame (src : Nat) (b : Bulletin) : List Byte :=
  syncByte :: b.covered src ++ crcBytes (b.covered src)

/-- A kind code of the table of R206. -/
def kindKnown (code : Nat) : Bool := decide (1 ≤ code) && decide (code ≤ 8)

/-- The expected payload lengths of a kind code (R5). -/
def lengthOk (code len : Nat) : Bool :=
  match code with
  | 1 => len == 17
  | 2 => len == 11
  | 3 => len == 5
  | 4 => len == 6
  | 5 => len == 4
  | 6 => len == 6
  | 7 => [5, 8, 11, 14, 17, 20, 23, 26].contains len
  | 8 => len == 2
  | _ => false

/-- A node id in range: 1 to 62 (R5). -/
def nodeInRange (b : Byte) : Bool := decide (1 ≤ b.toNat) && decide (b.toNat ≤ 62)

/-- A group id in range: 1 to 15 (R5). -/
def groupInRange (b : Byte) : Bool := decide (1 ≤ b.toNat) && decide (b.toNat ≤ 15)

/-- The entries of a CONFIRM, when every pledger's id is in range. -/
def readEntries : List Byte → Option (List (Nat × Nat))
  | [] => some []
  | node :: h :: l :: rest =>
    if nodeInRange node then (readEntries rest).map ((node.toNat, of16 h l) :: ·) else none
  | _ => none

/-- The fields of a GENSET STATUS (R206). -/
def readGenset : List Byte → Option GensetStatus
  | [role, group, st, t1, t0, p1, p0, r1, r0, h1, h0, d1, d0, c1, c0, m1, m0] =>
    if role.toNat = 0 ∧ groupInRange group then
      (SetState.ofCode (st.toNat / 16)).map fun state =>
        { group := group.toNat, setState := state, auto := st.getLsbD 0, refuelWanted := st.getLsbD 1,
          diverge := st.getLsbD 2, frontEndLost := st.getLsbD 3, runTag := of16 t1 t0, p := of16 p1 p0,
          r := of16 r1 r0, headroom := of16 h1 h0, held := of16 d1 d0, ci := of16 c1 c0,
          minutes := of16 m1 m0 }
    else none
  | _ => none

/-- The fields of a BOARD STATUS (R206). -/
def readBoard : List Byte → Option BoardStatus
  | [role, ga, gb, st, act, flags, t1, t0, p1, p0, serial] =>
    if role.toNat = 1 ∧ groupInRange ga ∧ groupInRange gb then
      match BoardState.ofCode st.toNat, feederSelOf act.toNat with
      | some state, some active =>
        some { groupA := ga.toNat, groupB := gb.toNat, boardState := state, active := active,
               capacityShed := flags.getLsbD 0, frontEndLost := flags.getLsbD 1, runTag := of16 t1 t0,
               load := of16 p1 p0, serial := serial.toNat }
      | _, _ => none
    else none
  | _ => none

/-- Check 4 of R5 on a payload of the expected length: the bulletin, when every field that check 4 lists is in
range. A kW or a rating of 0, which it does not list, passes (log entry 41). -/
def readPayload (code : Nat) (payload : List Byte) : Option Bulletin :=
  match code, payload with
  | 1, bytes => (readGenset bytes).map fun g => .status (.genset g)
  | 2, bytes => (readBoard bytes).map fun b => .status (.board b)
  | 3, [group, kind, k1, k0, serial] =>
    if groupInRange group then
      match kind.toNat with
      | 0 => some (.intent group.toNat .start (of16 k1 k0) serial.toNat)
      | 1 => some (.intent group.toNat .stop (of16 k1 k0) serial.toNat)
      | _ => none
    else none
  | 4, [serial, group, kind, cls, k1, k0] =>
    if groupInRange group ∧ cls.toNat ≤ 7 then
      (ClaimKind.ofCode kind.toNat).map fun k => .claim serial.toNat group.toNat k cls.toNat (of16 k1 k0)
    else none
  | 5, [board, serial, k1, k0] =>
    if nodeInRange board then some (.pledge board.toNat serial.toNat (of16 k1 k0)) else none
  | 6, [board, serial, v1, v0, r1, r0] =>
    if nodeInRange board then some (.revoke board.toNat serial.toNat (of16 v1 v0) (of16 r1 r0)) else none
  | 7, serial :: count :: entries =>
    (readEntries entries).bind fun l =>
      if count.toNat = l.length then some (.confirm serial.toNat l) else none
  | 8, [serial, reason] => (ReleaseReason.ofCode reason.toNat).map fun r => .release serial.toNat r
  | _, _ => none

/-- What the checks of R5 make of a complete frame. -/
inductive Checked where
  | dropped (k : FaultKind)
  | valid (b : Bulletin)
  deriving DecidableEq, Repr

/-- The checks of R5, in order, on a frame's header, payload and received CRC. -/
def checkFrame (src kind len : Byte) (payload crc : List Byte) : Checked :=
  if crcBytes ([src, kind, len] ++ payload) ≠ crc then .dropped .crcBad
  else if !kindKnown kind.toNat then .dropped .unknownKind
  else if !lengthOk kind.toNat len.toNat then .dropped .frameLen
  else if !nodeInRange src then .dropped .fieldRange
  else match readPayload kind.toNat payload with
    | none => .dropped .fieldRange
    | some b => .valid b

/-! ### Host records (R184, R208) -/

/-- A response record as it is shifted out (R184). -/
def Response.bytes (r : Response) : List Byte :=
  if r.body.length ≤ 255 then
    let front := [r.tag, byte r.status.code, byte r.body.length] ++ r.body
    front ++ [checkByte front]
  else Config.overlongResponse (of16 r.tag (byte r.status.code)) r.body

/-- The kinds of R189, by their codes of R208. -/
def commandKnown (kind : Nat) : Bool :=
  decide (kind ≤ 6) || (decide (0x10 ≤ kind) && decide (kind ≤ 0x14))
    || (decide (0x20 ≤ kind) && decide (kind ≤ 0x23)) || (decide (0x30 ≤ kind) && decide (kind ≤ 0x35))
    || (decide (0x40 ≤ kind) && decide (kind ≤ 0x49)) || (decide (0x50 ≤ kind) && decide (kind ≤ 0x55))

/-- A two-byte field. -/
def half (h l : Byte) : Half := BitVec.ofNat 16 (of16 h l)

/-- A four-byte field. -/
def word (a b c d : Byte) : Word := BitVec.ofNat 32 (of32 a b c d)

/-- The command a kind and a body spell, `none` where the body length is not one the kind allows (R208). -/
def readCommand (kind : Nat) (tag : Byte) (body : List Byte) : Option Instr :=
  match kind, body with
  | 0x00, [] => some (.noop tag)
  | 0x01, l => if l.length = 4 ∨ l.length = 83 then some (.configure tag l) else none
  | 0x02, [] => some (.commit tag)
  | 0x03, [] => some (.resetSoft tag)
  | 0x04, [a, b, c, d] => some (.setTime tag (word a b c d))
  | 0x05, [part, h] => some (.readNode tag part h)
  | 0x06, [node] => some (.readPeers tag node)
  | 0x10, [mode] => some (.setMode tag mode)
  | 0x11, [run] => some (.setRun tag run)
  | 0x12, [] => some (.clearSet tag)
  | 0x13, [profile] => some (.selectProfile tag profile)
  | 0x14, [] => some (.readPledges tag)
  | 0x20, [cls] => some (.changeover tag cls)
  | 0x21, [] => some (.cancelChangeover tag)
  | 0x22, [feeder] => some (.restore tag feeder)
  | 0x23, [feeder] => some (.clearFeeder tag feeder)
  | 0x30, [t3, t2, t1, t0, p1, p0, l1, l0] =>
    some (.deliveryOpen tag (word t3 t2 t1 t0) (half p1 p0) (half l1 l0))
  | 0x31, [] => some (.deliveryClose tag)
  | 0x32, [] => some (.deliveryCancel tag)
  | 0x33, [] => some (.readTank tag)
  | 0x34, [] => some (.readLots tag)
  | 0x35, [] => some (.resyncTank tag)
  | 0x40, [slot, form, k3, k2, k1, k0, b1, b0, p1, p0] =>
    some (.defineTariff tag slot form (word k3 k2 k1 k0) (half b1 b0) (half p1 p0))
  | 0x41, [k3, k2, k1, k0, b1, b0, p1, p0] =>
    some (.resolveTariff tag (word k3 k2 k1 k0) (half b1 b0) (half p1 p0))
  | 0x42, [channel, enabled, account, tariff, level] =>
    some (.setChannel tag channel enabled account tariff level)
  | 0x43, [channel, op] => some (.shedHost tag channel op)
  | 0x44, [i3, i2, i1, i0, l3, l2, l1, l0] => some (.accountOpen tag (word i3 i2 i1 i0) (word l3 l2 l1 l0))
  | 0x45, [i3, i2, i1, i0] => some (.accountClose tag (word i3 i2 i1 i0))
  | 0x46, [i3, i2, i1, i0, l3, l2, l1, l0] => some (.setLimit tag (word i3 i2 i1 i0) (word l3 l2 l1 l0))
  | 0x47, [i3, i2, i1, i0] => some (.readAccount tag (word i3 i2 i1 i0))
  | 0x48, [] => some (.readBilling tag)
  | 0x49, [count] => some (.ackBilling tag count)
  | 0x50, [] => some (.readEvents tag)
  | 0x51, [count] => some (.ackEvents tag count)
  | 0x52, [mark] => some (.serviceMark tag mark)
  | 0x53, [] => some (.readFaults tag)
  | 0x54, [h, l] => some (.clearFaults tag (half h l))
  | 0x55, [h, l] => some (.setFaultMask tag (half h l))
  | _, _ => none

/-! ### The configuration record's bodies (R190, R208) -/

/-- A profile entry from its byte: level in bits 0 and 1, kind filter in bits 2 to 4 (R208). -/
def readEntry (b : Byte) : ProfileEntry :=
  ⟨b.toNat % 4, b.getLsbD 2, b.getLsbD 3, b.getLsbD 4⟩

/-- The byte of a profile entry (R208). -/
def ProfileEntry.code (e : ProfileEntry) : Byte :=
  byte (e.level + 4 * maskNat [e.planned, e.forced, e.topup])

/-- The factory profile A (R93). -/
def factoryA : List ProfileEntry :=
  [0, 1, 2, 3, 3, 3, 3, 3].map fun l => ⟨l, true, true, true⟩

/-- The factory profile B (R93). -/
def factoryB : List ProfileEntry := List.replicate 8 ⟨0, true, true, true⟩

/-- The widths in bytes of the full form's fields, in order (R208). -/
def configWidths : List Nat :=
  [1, 1, 1, 1, 1, 2, 2, 2, 2, 2, 2, 2, 4, 4, 2, 4, 2, 2, 2, 2, 2, 2, 2, 2, 2, 1, 2, 1, 2, 2, 2, 1, 1, 1]
    ++ List.replicate 16 1 ++ [1, 2]

/-- The fields of a body, each a number of its width. -/
def splitFields : List Nat → List Byte → List Nat
  | [], _ => []
  | w :: ws, l => ofBytes (l.take w) :: splitFields ws (l.drop w)

/-- The defaults of the fields from the status period on (R190); the profile entries as their bytes. -/
def configDefaults : List Nat :=
  [2, 0, 1000, 0, 0, 0, 0, 0, 1000000, 0, 0, 5000, 20, 100, 120, 30, 240, 800, 30, 450, 300, 1, 60, 0,
    100, 800, 200, 5, 16, 15]
    ++ factoryA.map (fun e => e.code.toNat) ++ factoryB.map (fun e => e.code.toNat) ++ [8, 250]

/-- The 52 fields of a CONFIGURE body: the full form's, or the short form's four with defaults (R190). -/
def configFields (body : List Byte) : List Nat :=
  if body.length = 4 then body.map (·.toNat) ++ configDefaults else splitFields configWidths body

/-- The range of each field, lowest and highest, in order (R190); group B's depends on the role. -/
def configRanges (role : Nat) : List (Nat × Nat) :=
  [(1, 62), (0, 1), (1, 15), (if role = 0 then (0, 0) else (1, 15)), (1, 10), (0, 65535), (1, 65535),
    (0, 65535), (0, 65535), (0, 65535), (0, 65535), (0, 65535), (1, 2 ^ 32 - 1), (0, 2 ^ 32 - 1),
    (0, 65535), (0, 2 ^ 32 - 1), (0, 1000), (1, 1000), (1, 65535), (0, 65534), (0, 65535), (0, 1000),
    (10, 600), (0, 1000), (10, 3600), (0, 4), (0, 600), (0, 1), (0, 500), (300, 3000), (100, 2000),
    (1, 60), (4, 64), (5, 60)]
    ++ List.replicate 16 (0, 31) ++ [(1, 64), (0, 60000)]

/-- The lowest index of a field out of its range (R187). -/
def firstOutOfRange : Nat → List Nat → List (Nat × Nat) → Option Nat
  | i, v :: vs, (lo, hi) :: rs => if lo ≤ v ∧ v ≤ hi then firstOutOfRange (i + 1) vs rs else some i
  | _, _, _ => none

/-- The lowest index of a field of a CONFIGURE body that is out of range, if any (R190). -/
def configBadField (body : List Byte) : Option Nat :=
  let f := configFields body
  firstOutOfRange 0 f (configRanges (nth 0 f 1))

/-- The record a CONFIGURE body writes when every field is in range (R190). -/
def readConfig (body : List Byte) : ConfigRecord :=
  let f := configFields body
  let at' := nth 0 f
  { nodeId := at' 0, role := if at' 1 = 0 then .genset else .board, groupA := at' 2, groupB := at' 3,
    statusPeriod := at' 4, seed := at' 5, rating := at' 6, curve := [at' 7, at' 8, at' 9, at' 10, at' 11],
    capacity := at' 12, openingStock := at' 13, openingPrice := at' 14, levelTol := at' 15,
    deliveryTol := at' 16, pulsesPerLitre := at' 17, mLow := at' 18, mCrit := at' 19, refuelAt := at' 20,
    startThreshold := at' 21, startDelay := at' 22, stopThreshold := at' 23, stopDelay := at' 24,
    minOnline := at' 25, warmUp := at' 26, mode := if at' 27 = 0 then .auto else .manual, margin := at' 28,
    deadTime := at' 29, lossConfirm := at' 30, returnConfirm := at' 31, filterTime := at' 32,
    intervalLength := at' 33,
    profileA := ((f.drop 34).take 8).map fun n => readEntry (byte n),
    profileB := ((f.drop 42).take 8).map fun n => readEntry (byte n),
    setBCount := at' 50, setBDelay := at' 51 }

/-- The configuration record field by field, in the layout of the full form (R194, R208). -/
def ConfigRecord.bytes (c : ConfigRecord) : List Byte :=
  [byte c.nodeId, byte c.role.code, byte c.groupA, byte c.groupB, byte c.statusPeriod]
    ++ be16 c.seed ++ be16 c.rating ++ (c.curve.map be16).flatten ++ be32 c.capacity ++ be32 c.openingStock
    ++ be16 c.openingPrice ++ be32 c.levelTol ++ be16 c.deliveryTol ++ be16 c.pulsesPerLitre ++ be16 c.mLow
    ++ be16 c.mCrit ++ be16 c.refuelAt ++ be16 c.startThreshold ++ be16 c.startDelay ++ be16 c.stopThreshold
    ++ be16 c.stopDelay ++ [byte c.minOnline] ++ be16 c.warmUp ++ [byte c.mode.code] ++ be16 c.margin
    ++ be16 c.deadTime ++ be16 c.lossConfirm ++ [byte c.returnConfirm, byte c.filterTime, byte c.intervalLength]
    ++ c.profileA.map ProfileEntry.code ++ c.profileB.map ProfileEntry.code ++ [byte c.setBCount]
    ++ be16 c.setBDelay

end Sys2Proof.Machine
end

