-- ==== Sys2Proof/Machine/SiteLink.lean ====
section
/-! DEFINITION. The Site Link Controller (chapter 1): the transmit queue and its offers, the medium, the
receiver up to a complete frame, and the link state. -/

namespace Sys2Proof.Machine

/-! ### Bulletins and their drops -/

/-- The bulletin is a STATUS. -/
def Bulletin.isStatus : Bulletin → Bool
  | .status _ => true
  | _ => false

/-- The source node id the part puts into a header: that of the committed configuration (R2). -/
def State.sourceId (s : State) : Nat := s.cfg.nodeId

/-- The subject of TX_DROP: the claim id, or the node itself for STATUS and INTENT (R11). -/
def Bulletin.dropSubject (b : Bulletin) (s : State) : Subject :=
  match b with
  | .status _ => .node s.eventId
  | .intent .. => .node s.eventId
  | .claim serial .. => .claim ⟨s.sourceId, serial⟩
  | .pledge board serial _ => .claim ⟨board, serial⟩
  | .revoke board serial .. => .claim ⟨board, serial⟩
  | .confirm serial _ => .claim ⟨s.sourceId, serial⟩
  | .release serial _ => .claim ⟨s.sourceId, serial⟩

/-- The reasons of TX_DROP, in the order of R11. -/
inductive DropReason where
  | evicted | queueFull | collisionLimit
  deriving DecidableEq, Repr

/-- EVICTED 0, QUEUE_FULL 1, COLLISION_LIMIT 2. -/
def DropReason.code : DropReason → Nat
  | .evicted => 0 | .queueFull => 1 | .collisionLimit => 2

/-- Event TX_DROP for a dropped bulletin (R11, R209). -/
def postDrop (b : Bulletin) (cls : TxClass) (why : DropReason) (s : State) : State :=
  postEvent .txDrop (b.dropSubject s) (pair16 b.kindCode cls.code) why.code s

/-- The capture of a dropped bulletin: its three header bytes and first five payload bytes (R203). -/
def dropCapture (b : Bulletin) (s : State) : List Byte :=
  (b.covered s.sourceId).take 3 ++ padTo 5 b.payload

/-! ### The transmit queue (R8 to R11) -/

/-- A fresh entry: attempt count 0 and no backoff (R8). -/
def freshEntry (b : Bulletin) (cls : TxClass) : TxEntry := ⟨b, cls, 0, none, false⟩

/-- A bulletin joins at the tail of its class, in service order (R8). -/
def joinQueue (e : TxEntry) : List TxEntry → List TxEntry
  | [] => [e]
  | x :: xs => if x.cls.code ≤ e.cls.code then x :: joinQueue e xs else e :: x :: xs

/-- Replaces the first entry that satisfies `p` by the entries `f` gives. -/
def spliceFirst (p : TxEntry → Bool) (f : TxEntry → List TxEntry) : List TxEntry → List TxEntry
  | [] => []
  | x :: xs => if p x then f x ++ xs else x :: spliceFirst p f xs

/-- Takes out the last entry that satisfies `p`: the queue without it, and the entry. -/
def takeLast (p : TxEntry → Bool) (q : List TxEntry) : Option (List TxEntry × TxEntry) :=
  match q.reverse.find? p with
  | none => none
  | some e => some ((spliceFirst p (fun _ => []) q.reverse).reverse, e)

/-- The entry an URGENT offer evicts from a full queue: the newest BULK that is not SENDING, else the
newest NORMAL that is not SENDING (R10). -/
def evict (q : List TxEntry) : Option (List TxEntry × TxEntry) :=
  match takeLast (fun e => decide (e.cls = .bulk) && !e.sending) q with
  | some r => some r
  | none => takeLast (fun e => decide (e.cls = .normal) && !e.sending) q

/-- A bulletin dropped at the offer because nothing has room for it (R10, R11). -/
def dropFull (b : Bulletin) (cls : TxClass) (s : State) : State :=
  reportFault .queueDrop (dropCapture b s) (postDrop b cls .queueFull s)

/-- Replaces the STATUS waiting in the queue or the hold by a newer one (R9); `none` where none waits. -/
def replaceStatus (b : Bulletin) (c : Slc) : Option Slc :=
  match c.queue.find? (·.bulletin.isStatus) with
  | some e =>
    if e.sending then some { c with successor := some b }
    else some { c with queue := spliceFirst (·.bulletin.isStatus) (fun x => [{ x with bulletin := b }]) c.queue }
  | none =>
    if c.hold.any (·.bulletin.isStatus) then
      some { c with hold := c.hold.map fun h => if h.bulletin.isStatus then { h with bulletin := b } else h }
    else none

/-- An offer of a bulletin that replaces nothing, in RUN (R8, R10, R11). The retry time is counted in elapsed time
(log entry 9). -/
def offerNew (b : Bulletin) (cls : TxClass) (s : State) : State :=
  let c := s.slc
  if c.queue.length < 16 then s.withSlc { c with queue := joinQueue (freshEntry b cls) c.queue }
  else if cls = .urgent then
    match evict c.queue with
    | some (q, e) =>
      (postDrop e.bulletin e.cls .evicted s).withSlc { c with queue := joinQueue (freshEntry b cls) q }
    | none => dropFull b cls s
  else if c.hold.length < 4 then
    s.withSlc { c with hold := c.hold ++ [⟨b, cls, s.now + 50 * millisecond⟩] }
  else dropFull b cls s

/-- A block offers a bulletin to the transmit queue (R8 to R11): in CONFIG and MUTE it is discarded. -/
def offer (b : Bulletin) (cls : TxClass) (s : State) : State :=
  if s.hpt.nodeState = .run then
    match (if b.isStatus then replaceStatus b s.slc else none) with
    | some c => s.withSlc c
    | none => offerNew b cls s
  else s

/-! ### The medium (R1, R12 to R15) -/

/-- The base gap of a class, in gap units (section 1.4). -/
def baseGap : TxClass → Nat
  | .urgent => 3 | .normal => 6 | .bulk => 9

/-- The penalty flag of a class (R13). -/
def Penalty.get (p : Penalty) : TxClass → Bool
  | .urgent => p.urgent | .normal => p.normal | .bulk => p.bulk

/-- The penalty flag of a class set (R13). -/
def Penalty.set (p : Penalty) : TxClass → Penalty
  | .urgent => { p with urgent := true }
  | .normal => { p with normal := true }
  | .bulk => { p with bulk := true }

/-- All penalty flags clear. -/
def Penalty.clear : Penalty := ⟨false, false, false⟩

/-- The class gap, in microseconds, with the penalty of R13. -/
def Slc.gap (c : Slc) (cls : TxClass) : Nat :=
  (baseGap cls + if c.penalty.get cls then 4 else 0) * gapUnit

/-- The bus becomes IDLE now: the idle time starts at 0 and a STUCK link returns to NORMAL (R1, R17). -/
def Slc.becomeIdle (c : Slc) (now : Nat) : Slc := { c with bus := .idle now, link := .normal }

/-- The entry's backoff end has passed (R12). -/
def TxEntry.backoffPassed (e : TxEntry) (site : Nat) : Bool :=
  match e.backoffEnd with
  | none => true
  | some t => decide (t ≤ site)

/-- The ready entry of a class, if its first entry is ready (R12). -/
def readyOf (cls : TxClass) (s : State) : Option TxEntry :=
  match s.slc.queue.find? (fun e => decide (e.cls = cls)) with
  | some e => if !e.sending && e.backoffPassed s.clock.site then some e else none
  | none => none

/-- The entry of a class whose frame starts now: it is ready, and the idle time has reached its gap. -/
def startable (cls : TxClass) (s : State) : Option TxEntry :=
  match s.slc.bus, readyOf cls s with
  | .idle since, some e => if s.slc.gap cls ≤ s.now - since then some e else none
  | _, _ => none

/-- The entry whose frame starts now, the higher class first; in RUN, with the link NORMAL, and while the
node sends nothing (R12). -/
def toStart (s : State) : Option TxEntry :=
  if s.hpt.nodeState = .run ∧ s.slc.link = .normal ∧ s.slc.tx = none then
    match startable .urgent s with
    | some e => some e
    | none => match startable .normal s with
      | some e => some e
      | none => startable .bulk s
  else none

/-- FRAME_START (R12): the entry is SENDING, its frame is driven (R2), and a BUSY period begins that the
node itself started. -/
def startFrame (s : State) : State :=
  match toStart s with
  | none => s
  | some e =>
    s.withSlc { s.slc with
      queue := spliceFirst (fun x => decide (x.cls = e.cls)) (fun x => [{ x with sending := true }]) s.slc.queue
      bus := .busy s.now
      rx := .candidate true
      tx := some ⟨e.bulletin.frame s.sourceId, e.cls, s.now, false⟩ }

/-- The elapsed time at which the last CRC bit of the frame being sent goes out: one gap unit a byte
(R2). -/
def TxFrame.endAt (t : TxFrame) : Nat := t.startedAt + t.bytes.length * gapUnit

/-- FRAME_SENT (R15): the entry leaves the queue or gives way to its successor (R9), and the penalty flag
of its class is set (R13). -/
def frameSent (s : State) : State :=
  match s.slc.tx with
  | none => s
  | some t =>
    if s.now < t.endAt then s
    else
      let c := { s.slc with tx := none, penalty := s.slc.penalty.set t.cls }
      if t.orphan then s.withSlc c
      else
        match (c.queue.find? (·.sending)).map (·.bulletin.isStatus), c.successor with
        | some true, some b =>
          s.withSlc { c with queue := spliceFirst (·.sending) (fun x => [freshEntry b x.cls]) c.queue
                             successor := none }
        | _, _ => s.withSlc { c with queue := spliceFirst (·.sending) (fun _ => []) c.queue }

/-- The receiver once a bit has been read back differently: what it assembles is no longer the node's own
frame (R6, R14). -/
def RxState.notOwn : RxState → RxState
  | .waiting => .waiting
  | .candidate _ => .candidate false
  | .frame _ a b c => .frame false a b c

/-- COLLISION (R14): driving stops; the entry counts a collision and draws a backoff (R16), or is lost at
the eighth. A STATUS successor replaces the collided bulletin, or takes the lost entry's slot (R9). The
backoff end (R8) is not wrapped where it falls past the end of site time: log entry 9. -/
def collide (s : State) : State :=
  match s.slc.tx with
  | none => s
  | some t =>
    let c := { s.slc with tx := none, rx := s.slc.rx.notOwn }
    if t.orphan then s.withSlc c
    else match c.queue.find? (·.sending) with
      | none => s.withSlc c
      | some e =>
        let succ := if e.bulletin.isStatus then c.successor else none
        let left := if e.bulletin.isStatus then none else c.successor
        let count := e.attempts + 1
        if count < 8 then
          let g := backoffStep c.backoffGen
          let e' : TxEntry := { e with
            bulletin := succ.getD e.bulletin
            attempts := count
            backoffEnd := some (s.clock.site + backoffDraw count g * backoffSlot)
            sending := false }
          s.withSlc { c with queue := spliceFirst (·.sending) (fun _ => [e']) c.queue, successor := left
                             backoffGen := g }
        else
          let slot := match succ with
            | some b => [freshEntry b e.cls]
            | none => []
          let s' := s.withSlc { c with queue := spliceFirst (·.sending) (fun _ => slot) c.queue
                                       successor := left }
          reportFault .collisionLimit (dropCapture e.bulletin s)
            (postDrop e.bulletin e.cls .collisionLimit s')

/-- An entry whose backoff end has passed is no longer in backoff (R12), also when a SET_TIME then takes site time
back before it (log entry 9). -/
def endBackoff (site : Nat) (e : TxEntry) : TxEntry :=
  if e.backoffPassed site then { e with backoffEnd := none } else e

/-- BACKOFF_END (R12): entries whose backoff end has passed are no longer in backoff. -/
def endBackoffs (s : State) : State :=
  s.withSlc { s.slc with queue := s.slc.queue.map (endBackoff s.clock.site) }

/-- Takes out the first held bulletin whose retry time has come. -/
def takeRetry (now : Nat) : List HeldBulletin → Option (HeldBulletin × List HeldBulletin)
  | [] => none
  | h :: hs => if h.retryAt ≤ now then some (h, hs) else (takeRetry now hs).map fun r => (r.1, h :: r.2)

/-- RETRY_HOLD_RETRY (R11): the held bulletin joins the queue, or is dropped while it is still full. -/
def retryHeld (s : State) : State :=
  match takeRetry s.now s.slc.hold with
  | none => s
  | some (h, rest) =>
    if s.slc.queue.length < 16 then
      s.withSlc { s.slc with hold := rest, queue := joinQueue (freshEntry h.bulletin h.cls) s.slc.queue }
    else dropFull h.bulletin h.cls (s.withSlc { s.slc with hold := rest })

/-- The bus has been BUSY for 20 ms in a NORMAL link state (R17). -/
def Slc.stuckDue (c : Slc) (now : Nat) : Bool :=
  match c.bus with
  | .idle _ => false
  | .busy since => decide (c.link = .normal) && decide (since + 20 * millisecond ≤ now)

/-- LINK_STUCK (R17). -/
def becomeStuck (s : State) : State :=
  if s.slc.stuckDue s.now then
    reportFault .linkStuck [byte s.eventId] (s.withSlc { s.slc with link := .stuck })
  else s

/-! ### The receiver, up to a complete frame (R4) -/

/-- BUS_BUSY (R1, R13): a BUSY period the node did not start begins. One that begins while the node is sending is
taken as another station's too (log entry 45). -/
def becomeBusy (s : State) : State :=
  match s.slc.bus with
  | .idle _ => s.withSlc { s.slc with bus := .busy s.now, penalty := .clear, rx := .candidate false }
  | .busy _ => s

/-- A frame is abandoned with fault FRAME_LEN (R4). -/
def abandonFrame (header payload : List Byte) (s : State) : State :=
  reportFault .frameLen (padTo 3 header ++ padTo 5 payload) s

/-- FRAME_HEADER_RECEIVED (R4): without the sync value the activity is unframed; a length above 32
abandons the frame. -/
def takeHeader (sync src kind len : Byte) (s : State) : State :=
  match s.slc.rx with
  | .candidate own =>
    if sync ≠ syncByte then s.withSlc { s.slc with rx := .waiting }
    else if 32 < len.toNat then
      abandonFrame [src, kind, len] [] (s.withSlc { s.slc with rx := .waiting })
    else s.withSlc { s.slc with rx := .frame own src kind len }
  | _ => s

/-- BUS_IDLE_TIMEOUT (R1, R4, R17): the bus becomes IDLE; a frame still in assembly is cut short. -/
def idleTimeout (taken : List Byte) (s : State) : State :=
  match s.slc.bus with
  | .idle _ => s
  | .busy _ =>
    let s' := s.withSlc { s.slc.becomeIdle s.now with rx := .waiting }
    match s.slc.rx with
    | .waiting => s'
    | .candidate _ =>
      match taken with
      | b :: header => if b = syncByte then abandonFrame header [] s' else s'
      | [] => s'
    | .frame _ src kind len => abandonFrame [src, kind, len] (taken.take len.toNat) s'

/-! ### The queue emptied: MUTE and soft reset (R18, R19) -/

/-- The queue, the hold and the successor are emptied; a frame being sent runs to its end and is not
retried. -/
def Slc.emptied (c : Slc) : Slc :=
  { c with queue := [], hold := [], successor := none, tx := c.tx.map fun t => { t with orphan := true } }

/-! ### The commands -/

/-- BUS_BUSY. -/
def execBusBusy (s : State) : Host.Outcome State Fault Refusal := .next (becomeBusy s)

/-- BUS_IDLE_TIMEOUT. -/
def execBusIdleTimeout (taken : List Byte) (s : State) : Host.Outcome State Fault Refusal :=
  .next (idleTimeout taken s)

/-- FRAME_HEADER_RECEIVED. -/
def execFrameHeaderReceived (sync src kind len : Byte) (s : State) : Host.Outcome State Fault Refusal :=
  .next (takeHeader sync src kind len s)

/-- FRAME_START. -/
def execFrameStart (s : State) : Host.Outcome State Fault Refusal := .next (startFrame s)

/-- COLLISION. -/
def execCollision (s : State) : Host.Outcome State Fault Refusal := .next (collide s)

/-- BACKOFF_END. -/
def execBackoffEnd (s : State) : Host.Outcome State Fault Refusal := .next (endBackoffs s)

/-- FRAME_SENT. -/
def execFrameSent (s : State) : Host.Outcome State Fault Refusal := .next (frameSent s)

/-- RETRY_HOLD_RETRY. -/
def execRetryHoldRetry (s : State) : Host.Outcome State Fault Refusal := .next (retryHeld s)

/-- LINK_STUCK. -/
def execLinkStuck (s : State) : Host.Outcome State Fault Refusal := .next (becomeStuck s)

end Sys2Proof.Machine
end

