-- ==== Sys2Proof/Machine/PeerView.lean ====
section
/-! DEFINITION. The Peer View Table (chapter 2), as far as it reads the other blocks and offers STATUS:
the STATUS the node sends, extra STATUS offers, and the group sums.  What the table does with a received
STATUS stands in Machine/Reception.lean. -/

namespace Sys2Proof.Machine

/-! ### The node's own STATUS (R20, R21) -/

/-- The levels under capacity shed hold any level (R110). -/
def Chs.anyShed (c : Chs) : Bool := c.shed1.isSome || c.shed2.isSome || c.shed3.isSome

/-- The GENSET STATUS of this moment (R20). -/
def gensetStatus (s : State) : GensetStatus where
  group := s.cfg.groupA
  setState := s.setc.state
  auto := decide (s.setc.mode = .auto)
  refuelWanted := s.fau.refuelWanted
  diverge := s.fau.diverge
  frontEndLost := s.fpc.lost
  runTag := s.hpt.runTag.getD 0
  p := s.fpc.sample.p
  r := s.cfg.rating
  headroom := s.plu.headroom
  held := (s.plu.pledges.map (·.kw)).sum
  ci := s.plu.ci
  minutes := s.fau.minutes

/-- The BOARD STATUS of this moment (R21). -/
def boardStatus (s : State) : BoardStatus where
  groupA := s.cfg.groupA
  groupB := s.cfg.groupB
  boardState := s.chs.state
  active := s.chs.active
  capacityShed := s.chs.anyShed
  frontEndLost := s.fpc.lost
  runTag := s.hpt.runTag.getD 0
  load := s.fpc.sample.p
  serial := s.chs.serial

/-- The STATUS of the committed role, if there is one. -/
def ownStatus (s : State) : Option StatusBody :=
  match s.hpt.role with
  | some .genset => some (.genset (gensetStatus s))
  | some .board => some (.board (boardStatus s))
  | none => none

/-- The table offers a STATUS (BULK) and notes the headroom it carries (R28). -/
def offerStatus (s : State) : State :=
  match ownStatus s with
  | none => s
  | some b => (offer (.status b) .bulk s).withPvt { s.pvt with lastHeadroom := s.plu.headroom }

/-- The spacing of extra STATUS offers: 250 ms (R28). -/
abbrev extraSpacing : Nat := 250 * millisecond

/-- At least 250 ms have passed since the last extra offer (R28). -/
def Pvt.extraFree (v : Pvt) (now : Nat) : Bool :=
  match v.lastExtra with
  | none => true
  | some t => decide (t + extraSpacing ≤ now)

/-- An extra STATUS is offered now (R28). -/
def offerExtra (s : State) : State :=
  let s := offerStatus s
  s.withPvt { s.pvt with lastExtra := some s.now, extraDue := false }

/-- A cause of an extra STATUS, in RUN: offered at once, or marked as due; while one is due it adds
nothing (R28). -/
def extraCause (s : State) : State :=
  if s.hpt.nodeState ≠ .run then s
  else if s.pvt.extraDue then s
  else if s.pvt.extraFree s.now then offerExtra s
  else s.withPvt { s.pvt with extraDue := true }

/-- The offered headroom has moved by more than R/20 from the last STATUS offered (R28). -/
def headroomMoved (s : State) : Bool :=
  let last := s.pvt.lastHeadroom
  let now := s.plu.headroom
  decide (s.cfg.rating < 20 * ((now - last) + (last - now)))

/-- The headroom cause of an extra STATUS, on a GENSET (R28). -/
def headroomCause (s : State) : State :=
  if s.hpt.role = some .genset ∧ headroomMoved s then extraCause s else s

/-- STATUS_TIMER (R27): the periodic instant; in RUN a STATUS is offered and a due extra cancelled. -/
def statusTimer (s : State) : State :=
  match s.pvt.statusNext with
  | none => s
  | some t =>
    if s.now < t ∨ s.hpt.nodeState = .config then s
    else
      let s := s.withPvt { s.pvt with statusNext := some (t + s.pvt.base * second) }
      if s.hpt.nodeState = .run then
        let s := offerStatus s
        s.withPvt { s.pvt with extraDue := false }
      else s

/-- EXTRA_STATUS_DUE (R28). -/
def extraStatusDue (s : State) : State :=
  if s.hpt.nodeState = .run ∧ s.pvt.extraDue ∧ s.pvt.extraFree s.now then offerExtra s else s

/-! ### Group sums (R39 to R41) -/

/-- What a group sum reads of one set. -/
structure SetView where
  node : Nat
  p : Nat
  r : Nat
  ci : Nat
  minutes : Nat
  deriving DecidableEq, Repr

/-- A FRESH GENSET record of group `g` whose STATUS satisfies `want`. -/
def Peer.view (want : GensetStatus → Bool) (g : Nat) (p : Peer) : Option SetView :=
  match p.freshness, p.status with
  | .fresh, .genset st =>
    if st.group = g ∧ want st then some ⟨p.node, st.p, st.r, st.ci, st.minutes⟩ else none
  | _, _ => none

/-- The node's own present values (section 2.4). -/
def ownView (s : State) : SetView where
  node := s.eventId
  p := s.fpc.sample.p
  r := s.cfg.rating
  ci := s.plu.ci
  minutes := s.fau.minutes

/-- The node is itself a GENSET of group `g`. -/
def ownGroup (g : Nat) (s : State) : Bool := decide (s.hpt.role = some .genset) && decide (s.cfg.groupA = g)

/-- The online sets of group `g` (R39). -/
def onlineSets (g : Nat) (s : State) : List SetView :=
  s.pvt.peers.filterMap (Peer.view (fun st => decide (st.setState = .online)) g)
    ++ (if ownGroup g s && decide (s.setc.state = .online) then [ownView s] else [])

/-- The stopped AUTO sets of group `g` (R40). -/
def stoppedSets (g : Nat) (s : State) : List SetView :=
  s.pvt.peers.filterMap (Peer.view (fun st => decide (st.setState = .stopped) && st.auto) g)
    ++ (if ownGroup g s && decide (s.setc.state = .stopped) && decide (s.setc.mode = .auto)
        then [ownView s] else [])

/-- The online load of group `g` (R39). -/
def onlineLoad (g : Nat) (s : State) : Nat := ((onlineSets g s).map (·.p)).sum

/-- The online capacity of group `g` (R39). -/
def onlineCapacity (g : Nat) (s : State) : Nat := ((onlineSets g s).map (·.r)).sum

/-- The online count of group `g` (R39). -/
def onlineCount (g : Nat) (s : State) : Nat := (onlineSets g s).length

/-- The first of a list in the order `before`, which is strict. -/
def firstBy (before : SetView → SetView → Bool) : List SetView → Option SetView
  | [] => none
  | x :: xs => match firstBy before xs with
    | none => some x
    | some y => if before y x then some y else some x

/-- Best-ranked stopped set: most fuel minutes, then the lower node id (R40). -/
def bestStopped (g : Nat) (s : State) : Option SetView :=
  firstBy (fun x y => decide (y.minutes < x.minutes) || (x.minutes == y.minutes && decide (x.node < y.node)))
    (stoppedSets g s)

/-- Worst-ranked online set: fewest fuel minutes, then the higher node id (R40). -/
def worstOnline (g : Nat) (s : State) : Option SetView :=
  firstBy (fun x y => decide (x.minutes < y.minutes) || (x.minutes == y.minutes && decide (y.node < x.node)))
    (onlineSets g s)

/-- The cost inputs of a group (R41). -/
structure CostInputs where
  count : Nat
  weighted : Nat
  weight : Nat
  plain : Nat
  lowest : Option Nat
  highest : Option Nat
  deriving DecidableEq, Repr

/-- The cost inputs formed from a group's online sets (R41). -/
def costInputsOf (sets : List SetView) : CostInputs :=
  let loaded := sets.filter fun v => decide (0 < v.p)
  { count := sets.length
    weighted := (loaded.map fun v => v.ci * v.p).sum
    weight := (loaded.map (·.p)).sum
    plain := (sets.map (·.ci)).sum
    lowest := (loaded.map (·.ci)).min?
    highest := (loaded.map (·.ci)).max? }

/-- The cost inputs of group `g` (R41). -/
def costInputs (g : Nat) (s : State) : CostInputs := costInputsOf (onlineSets g s)

/-! ### The commands -/

/-- STATUS_TIMER. -/
def execStatusTimer (s : State) : Host.Outcome State Fault Refusal := .next (statusTimer s)

/-- EXTRA_STATUS_DUE. -/
def execExtraStatusDue (s : State) : Host.Outcome State Fault Refusal := .next (extraStatusDue s)

end Sys2Proof.Machine
end

