-- ==== Sys2Proof/Machine/Pledge.lean ====
section
/-! DEFINITION. The Pledge Unit (chapter 5): derated capacity, headroom and cost index, the arbiter, the
pledge table, and revocation.  Listing a CLAIM stands in Machine/Reception.lean, since it also gives the
Set Controller a claim notice. -/

namespace Sys2Proof.Machine

/-! ### Flow on the fuel curve (R67), shared with the Fuel Accounting Unit -/

/-- The load of a power on a rating, in permille (R67). -/
def loadOf (p rating : Nat) : Nat := min (p * 1000 / rating) 1000

/-- The flow numerator of a load on the curve points F0 to F4 (R67). -/
def flowOf (curve : List Nat) (load : Nat) : Nat :=
  let k := min (load / 250) 3
  let w := load - 250 * k
  nth 0 curve k * (250 - w) + nth 0 curve (k + 1) * w

/-! ### Derated capacity and headroom (R87, R88) -/

/-- The divergence factor: 900 while DIVERGE is set (R82, R87). -/
def divergenceFactor (s : State) : Nat := if s.fau.diverge then 900 else 1000

/-- The rating of the FAU's working copy (R87). -/
def copyRating (s : State) : Nat :=
  match s.fau.copy with
  | some c => c.rating
  | none => 0

/-- The derated capacity D (R87). -/
def deratedCapacity (s : State) : Nat :=
  copyRating s * (s.fau.factor * divergenceFactor s / 1000) / 1000

/-- The held total: the sum of the kW of the entries of the pledge table (R88). -/
def heldTotal (p : Plu) : Nat := (p.pledges.map (·.kw)).sum

/-- The derated room D − P, or 0 (R102). -/
def deratedRoom (s : State) : Nat := s.plu.derated - s.fpc.sample.p

/-- The offered headroom H (R88): 0 unless the set is ONLINE, the front end not LOST and the node in RUN;
and 0 after a COMMIT until the first sample (R107). -/
def offeredHeadroom (s : State) : Nat :=
  if s.hpt.role = some .genset ∧ s.hpt.nodeState = .run ∧ s.setc.state = .online ∧ s.fpc.lost = false
      ∧ s.plu.formed then
    s.plu.derated - s.fpc.sample.p - heldTotal s.plu
  else 0

/-- H recomputed (R88). -/
def refreshHeadroom (s : State) : State := s.withPlu { s.plu with headroom := offeredHeadroom s }

/-! ### The cost index (R89, R90) -/

/-- The CI price: the oldest lot's, or the last exhausted price (R75). -/
def ciPrice (s : State) : Nat :=
  match s.fau.lots with
  | l :: _ => l.price
  | [] => s.fau.lastPrice

/-- The effective power of an output on a rating (R89). -/
def effectivePower (p rating : Nat) : Nat := max p (ceilDiv rating 10)

/-- The cost index of a price, an output, a rating and a curve (R89). -/
def costIndexOf (price p rating : Nat) (curve : List Nat) : Nat :=
  let pe := effectivePower p rating
  min (roundDiv (price * flowOf curve (loadOf pe rating)) (250 * pe)) 65535

/-- The cost index a sample forms (R89, R90): 0 unless the set is ONLINE. -/
def costIndex (s : State) : Nat :=
  match s.setc.state, s.fau.copy with
  | .online, some c => costIndexOf (ciPrice s) s.fpc.sample.p c.rating c.curve
  | _, _ => 0

/-! ### The arbiter (R93 to R97) -/

/-- The entries of the active profile (R93). -/
def Plu.profile (p : Plu) : List ProfileEntry :=
  match p.active with
  | .a => p.profileA
  | .b => p.profileB

/-- A kind is in an entry's kind filter (R93). -/
def ProfileEntry.admits (e : ProfileEntry) : ClaimKind → Bool
  | .planned => e.planned | .forced => e.forced | .topup => e.topup

/-- The level of a claim under a profile; 4 is the residual level (R94). -/
def levelOf (profile : List ProfileEntry) (kind : ClaimKind) (cls : Nat) : Nat :=
  match profile[cls]? with
  | some e => if e.admits kind then e.level else 4
  | none => 4

/-- The pledge entry of a claim id. -/
def Plu.entry (p : Plu) (c : ClaimId) : Option PledgeEntry := p.pledges.find? fun e => decide (e.claim = c)

/-- A waiting claim is eligible (R95). -/
def eligible (p : Plu) (w : WaitEntry) : Bool :=
  decide (0 < w.remaining) && (match p.entry w.claim with
    | some e => decide (e.state = .offered)
    | none => decide (p.pledges.length < 8))

/-- The order of the arbiter's choice: level, then round robin from the pointer, then board (R96). -/
def arbiterKey (p : Plu) (w : WaitEntry) : Nat × Nat × Nat :=
  (levelOf p.profile w.kind w.cls, (if p.pointer < w.claim.board then 0 else 1), w.claim.board)

/-- Strict lexicographic order of the keys. -/
def keyBefore (x y : Nat × Nat × Nat) : Bool :=
  decide (x.1 < y.1) || (x.1 == y.1 && (decide (x.2.1 < y.2.1) || (x.2.1 == y.2.1 && decide (x.2.2 < y.2.2))))

/-- The first claim in the order of the keys; of equal keys, the one listed first, which arrived first. -/
def firstClaim (p : Plu) : List WaitEntry → Option WaitEntry
  | [] => none
  | w :: ws => match firstClaim p ws with
    | none => some w
    | some v => if keyBefore (arbiterKey p v) (arbiterKey p w) then some v else some w

/-- The arbiter's choice (R96). -/
def choose (p : Plu) : Option WaitEntry := firstClaim p (p.waits.filter (eligible p))

/-- The urgency class of a PLEDGE answering a claim of a kind (section 1.3). -/
def pledgeClass : ClaimKind → TxClass
  | .forced => .urgent
  | _ => .normal

/-- The pledge table after a serve of `pl` (R97): the OFFERED entry raised, or a new entry. -/
def servedTable (p : Plu) (w : WaitEntry) (pl now : Nat) : List PledgeEntry :=
  if (p.entry w.claim).isSome then
    p.pledges.map fun e => if e.claim = w.claim then { e with kw := e.kw + pl } else e
  else p.pledges ++ [⟨w.claim, pl, w.kind, .offered, p.created + 1, now + 6 * second⟩]

/-- The wait list after a serve of `pl` (R96). -/
def servedWaits (w : WaitEntry) (pl : Nat) (l : List WaitEntry) : List WaitEntry :=
  (l.map fun x => if x.claim = w.claim then { x with remaining := x.remaining - pl } else x).filter
    fun x => !(decide (x.claim = w.claim) && x.remaining == 0)

/-- One serve (R96, R97): the claim gets min(H, remaining), and a PLEDGE for the entry's whole kW is
offered. -/
def serve (w : WaitEntry) (s : State) : State :=
  let p := s.plu
  let pl := min p.headroom w.remaining
  let isNew := (p.entry w.claim).isNone
  let p' := { p with
    pledges := servedTable p w pl s.now
    created := if isNew then p.created + 1 else p.created
    waits := servedWaits w pl p.waits
    pointer := w.claim.board }
  let kw := match p'.entry w.claim with
    | some e => e.kw
    | none => 0
  offer (.pledge w.claim.board w.claim.serial kw) (pledgeClass w.kind) (refreshHeadroom (s.withPlu p'))

/-- Choices one after another until H is 0 or no claim is eligible (R95); each serve ends one or the
other, so the wait list's length bounds them. -/
def arbiterRuns : Nat → State → State
  | 0, s => s
  | n + 1, s =>
    if s.plu.headroom = 0 then s
    else match choose s.plu with
      | none => s
      | some w => arbiterRuns n (serve w s)

/-- H recomputed (R88), and the arbiter's choices (R95). The PLEDGEs are offered here, before an extra STATUS of
the same step (log entry 37). -/
def servePledges (s : State) : State :=
  let s := refreshHeadroom s
  arbiterRuns (s.plu.waits.length + 1) s

/-- The unit after anything but a set state change that may change H: H recomputed, the arbiter's choices,
and the headroom cause of an extra STATUS (R28), tested once, on the H that the choices leave (log entry 37). -/
def settlePledges (s : State) : State := headroomCause (servePledges s)

/-! ### Revocation (R102, R103) -/

/-- The causes of a revocation, in the order of R198. -/
inductive RevokeCause where
  | derate | trip
  deriving DecidableEq, Repr

/-- DERATE 0, TRIP 1. -/
def RevokeCause.code : RevokeCause → Nat
  | .derate => 0 | .trip => 1

/-- The REVOKE bulletin (URGENT) and the PLEDGE_REVOKED event of an entry lowered or removed (R102). -/
def announceRevoke (c : ClaimId) (revoked remaining : Nat) (why : RevokeCause) (s : State) : State :=
  postEvent .pledgeRevoked (.claim c) (pair16 revoked remaining) why.code
    (offer (.revoke c.board c.serial revoked remaining) .urgent s)

/-- An entry leaves the pledge table. -/
def dropPledge (c : ClaimId) (s : State) : State :=
  s.withPlu { s.plu with pledges := s.plu.pledges.filter fun e => decide (e.claim ≠ c) }

/-- Derate revocation over OFFERED entries, newest first (R102). -/
def revokeEntries : List PledgeEntry → State → State
  | [], s => s
  | e :: es, s =>
    let excess := heldTotal s.plu - deratedRoom s
    if excess = 0 then s
    else if excess < e.kw then
      announceRevoke e.claim excess (e.kw - excess) .derate (s.withPlu { s.plu with
        pledges := s.plu.pledges.map fun x => if x.claim = e.claim then { x with kw := x.kw - excess } else x })
    else revokeEntries es (announceRevoke e.claim e.kw 0 .derate (dropPledge e.claim s))

/-- The check made whenever D is recomputed or a new P taken (R102). Entries join in order of creation,
so the newest stand last. -/
def derateCheck (s : State) : State :=
  revokeEntries (s.plu.pledges.filter fun e => decide (e.state = .offered)).reverse s

/-- The trip notice over the entries, newest first (R103). -/
def tripEntries : List PledgeEntry → State → State
  | [], s => s
  | e :: es, s =>
    let s := dropPledge e.claim s
    tripEntries es (if e.state = .settling then s else announceRevoke e.claim e.kw 0 .trip s)

/-- The trip notice of the Set Controller (R103). -/
def tripNotice (s : State) : State := tripEntries s.plu.pledges.reverse s

/-- A change of the fuel factor or of DIVERGE between samples: D, revocation, H (R87, R102). The unit is
frozen in CONFIG (R106), and forms D at the first sample after a COMMIT (R107). -/
def derateChange (s : State) : State :=
  if s.gensetWorks && s.plu.formed then
    settlePledges (derateCheck (s.withPlu { s.plu with derated := deratedCapacity s }))
  else s

/-- The unit's work on a sample (R87 to R90, R95, R102): D, CI, revocation, H, choices. -/
def pledgeSample (s : State) : State :=
  if s.gensetWorks then
    let s := s.withPlu { s.plu with derated := deratedCapacity s, ci := costIndex s, formed := true }
    settlePledges (derateCheck s)
  else s

/-! ### CONFIRM, RELEASE, deadlines, peers gone (R92, R99 to R101, R104) -/

/-- Any wait-list entry of a claim is removed (R92). -/
def dropWait (c : ClaimId) (s : State) : State :=
  s.withPlu { s.plu with waits := s.plu.waits.filter fun w => decide (w.claim ≠ c) }

/-- The entry of a claim replaced by a function of itself. -/
def changePledge (c : ClaimId) (f : PledgeEntry → PledgeEntry) (s : State) : State :=
  s.withPlu { s.plu with pledges := s.plu.pledges.map fun e => if e.claim = c then f e else e }

/-- A valid CONFIRM (R99); `capture` is the frame's header and first five payload bytes. -/
def takeConfirm (c : ClaimId) (entries : List (Nat × Nat)) (capture : List Byte) (s : State) : State :=
  let s := dropWait c s
  let named := entries.find? fun e => decide (e.1 = s.eventId)
  match s.plu.entry c, named with
  | none, some _ => reportFault .confirmStray capture s
  | none, none => s
  | some e, _ =>
    if e.state = .offered then
      match named with
      | some (_, t) =>
        if t = 0 then settlePledges (dropPledge c s)
        else settlePledges (changePledge c
          (fun e => { e with state := .confirmed, kw := min t e.kw, deadline := s.now + 15 * second }) s)
      | none => settlePledges (dropPledge c s)
    else s

/-- A valid RELEASE (R101). -/
def takeRelease (c : ClaimId) (why : ReleaseReason) (s : State) : State :=
  let s := dropWait c s
  match s.plu.entry c with
  | none => s
  | some e =>
    match e.state, why with
    | .offered, _ => settlePledges (dropPledge c s)
    | .confirmed, .done =>
      changePledge c (fun e => { e with state := .settling, deadline := s.now + 10 * second }) s
    | .confirmed, _ => settlePledges (dropPledge c s)
    | .settling, _ => s

/-- CLAIM_EXPIRY (R92). -/
def claimExpiry (c : ClaimId) (s : State) : State :=
  if s.gensetWorks && s.plu.waits.any (fun w => decide (w.claim = c) && decide (w.expiry ≤ s.now)) then
    dropWait c s
  else s

/-- PLEDGE_DEADLINE (R100). -/
def pledgeDeadline (c : ClaimId) (s : State) : State :=
  match s.plu.entry c with
  | none => s
  | some e =>
    if s.gensetWorks && decide (e.deadline ≤ s.now) then
      let s := dropPledge c s
      settlePledges (if e.state = .confirmed then postEvent .pledgeExpired (.claim c) e.kw 0 s else s)
    else s

/-- The peer-gone notice at the Pledge Unit (R104). -/
def pledgePeerGone (node : Nat) (s : State) : State :=
  settlePledges (s.withPlu { s.plu with
    waits := s.plu.waits.filter fun w => decide (w.claim.board ≠ node)
    pledges := s.plu.pledges.filter fun e => decide (e.claim.board ≠ node) })

/-! ### The commands -/

/-- CLAIM_EXPIRY. -/
def execClaimExpiry (board serial : Nat) (s : State) : Host.Outcome State Fault Refusal :=
  .next (claimExpiry ⟨board, serial⟩ s)

/-- PLEDGE_DEADLINE. -/
def execPledgeDeadline (board serial : Nat) (s : State) : Host.Outcome State Fault Refusal :=
  .next (pledgeDeadline ⟨board, serial⟩ s)

/-- SELECT_PROFILE (R93). -/
def execSelectProfile (tag profile : Byte) (s : State) : Host.Outcome State Fault Refusal :=
  .next (gated (some .genset) [.run, .mute] tag (fun s =>
    match profile.toNat with
    | 0 => respond tag .ok [] (s.withPlu { s.plu with active := .a })
    | 1 => respond tag .ok [] (s.withPlu { s.plu with active := .b })
    | _ => badField tag 0 s) s)

/-- Milliseconds left to an elapsed time, rounded up, 0 once it has passed. -/
def millisLeft (now t : Nat) : Nat := ceilDiv (t - now) millisecond

/-- A pledge-table entry in READ_PLEDGES (R105). -/
def PledgeEntry.bytes (now : Nat) (e : PledgeEntry) : List Byte :=
  [byte e.claim.board, byte e.claim.serial] ++ be16 e.kw ++ [byte e.kind.code, byte e.state.code]
    ++ be32 (fit32 e.order) ++ be16 (millisLeft now e.deadline)

/-- A wait-list entry in READ_PLEDGES, with the level it would have at that moment (R105). -/
def WaitEntry.bytes (now : Nat) (profile : List ProfileEntry) (w : WaitEntry) : List Byte :=
  [byte w.claim.board, byte w.claim.serial, byte w.kind.code, byte w.cls] ++ be16 w.requested
    ++ be16 w.remaining ++ be32 w.arrivalSec ++ be16 (millisLeft now w.expiry)
    ++ [byte (levelOf profile w.kind w.cls)]

/-- The body of a READ_PLEDGES response (R105), with a count of one byte before each list (log entry 7). -/
def pledgesBody (s : State) : List Byte :=
  let p := s.plu
  be16 p.derated ++ be16 p.headroom ++ be16 (heldTotal p) ++ be16 p.ci ++ be16 s.fau.factor
    ++ be16 (divergenceFactor s) ++ [byte p.active.code, byte p.pointer, byte p.pledges.length]
    ++ (p.pledges.map (PledgeEntry.bytes s.now)).flatten ++ [byte p.waits.length]
    ++ (p.waits.map (WaitEntry.bytes s.now p.profile)).flatten

/-- READ_PLEDGES (R105). -/
def execReadPledges (tag : Byte) (s : State) : Host.Outcome State Fault Refusal :=
  .next (gated (some .genset) [.run, .mute] tag (fun s => respond tag .ok (pledgesBody s) s) s)

end Sys2Proof.Machine
end

