-- ==== Sys2Proof/Machine/SetControl.lean ====
section
/-! DEFINITION. The Set Controller (chapter 3): set states and their lines, the group check, intents, the
start and run sequence, faults and modes. -/

namespace Sys2Proof.Machine

/-! ### States, lines and timers -/

/-- The levels asked for RUN_REQUEST and LOAD_ENABLE in each set state (R42). -/
def setLines : SetState → Bool × Bool
  | .stopped | .intending | .resting | .faulted => (false, false)
  | .cranking | .warming | .cooling | .unloading => (true, false)
  | .syncing | .online | .stopIntending => (true, true)

/-- The limit of each set state that has one, in microseconds (R46, R49, R51 to R53, R55, R56). -/
def setLimitOf (warmUp : Nat) : SetState → Option Nat
  | .intending | .stopIntending => some (3 * second)
  | .cranking => some (15 * second)
  | .resting => some (20 * second)
  | .warming => some (warmUp * second)
  | .syncing | .unloading => some (60 * second)
  | .cooling => some (180 * second)
  | .stopped | .online | .faulted => none

/-- The field port drives RUN_REQUEST and LOAD_ENABLE at the levels asked for (R42, R147). -/
def askLines (levels : Bool × Bool) (s : State) : State :=
  s.withFpc { s.fpc with runRequest := levels.1, loadEnable := levels.2 }

/-- The Set Controller's own state on entry to a set state: timer, cause, and the watches a rule clears
(R45, R48, R57). A watch stays where no rule clears it (log entry 36): the start watch when STOPPED is left for
INTENDING, the stop watch on entry to UNLOADING. -/
def Setc.entered (c : Setc) (st : SetState) (cause : Option SetCause) (now warmUp : Nat) : Setc :=
  { c with
    state := st
    timer := (setLimitOf warmUp st).map (now + ·)
    cause := if st = .faulted then cause else none
    startWatch := if st = .stopped ∨ st = .faulted then none else c.startWatch
    stopWatch := if (st = .online ∧ c.state ≠ .online) ∨ st = .faulted then none else c.stopWatch }

/-- Entry to a set state: lines (R42), event SET_STATE (R61), CI 0 on leaving ONLINE (R90), the trip
notice where `trip` or the state is FAULTED (R54, R57), headroom and choices (R88, R95), and one cause of
an extra STATUS (R28), which carries the new state and the new headroom together (log entry 13).  H is
offered and served from at once on entry to ONLINE (log entry 35).  The REVOKEs and the PLEDGEs are offered
before the STATUS (log entry 37). -/
def enterSet (st : SetState) (cause : Option SetCause) (trip : Bool) (s : State) : State :=
  let old := s.setc.state
  let s := s.withSetc (s.setc.entered st cause s.now s.cfg.warmUp)
  let s := askLines (setLines st) s
  let s := postEvent .setState (.node s.eventId) (pair16 old.code st.code)
    (match (if st = .faulted then cause else none) with
      | some c => c.code
      | none => 0) s
  let s := if old = .online ∧ st ≠ .online then s.withPlu { s.plu with ci := 0 } else s
  let s := if trip ∨ st = .faulted then tripNotice s else s
  extraCause (servePledges s)

/-- Entry to ONLINE (R53). -/
def enterOnline (s : State) : State := enterSet .online none false s

/-- Entry to SYNCING, left at once when the breaker is closed (R53, R43). -/
def enterSyncing (trip : Bool) (s : State) : State :=
  let s := enterSet .syncing none trip s
  if s.fpc.breaker.level then enterOnline s else s

/-- Entry to WARMING: the attempt count is cleared, and a warm-up time of 0 passes at once (R51, R52). -/
def enterWarming (s : State) : State :=
  let s := enterSet .warming none false (s.withSetc { s.setc with attempts := 0 })
  if s.cfg.warmUp = 0 then enterSyncing false s else s

/-- Entry to CRANKING, left at once when RUNNING is active (R51, R43). -/
def enterCranking (s : State) : State :=
  let s := enterSet .cranking none false s
  if s.fpc.running.level then enterWarming s else s

/-- Entry to UNLOADING, left at once when the breaker is open (R55, R43). -/
def enterUnloading (s : State) : State :=
  let s := enterSet .unloading none false s
  if s.fpc.breaker.level then s else enterSet .cooling none false s

/-- Entry to FAULTED (R57). -/
def enterFaulted (cause : SetCause) (s : State) : State := enterSet .faulted (some cause) true s

/-- Entry to STOPPED. -/
def enterStopped (s : State) : State := enterSet .stopped none false s

/-! ### The group check (R44 to R46, R48, R49, R55) -/

/-- Utilisation in permille, undefined when the capacity is 0 (R44). -/
def utilisation (load capacity : Nat) : Option Nat :=
  if capacity = 0 then none else some (min (1000 * load / capacity) 1000)

/-- The start condition: U is defined and above the start threshold (R45). -/
def startCondition (s : State) : Bool :=
  match utilisation (onlineLoad s.cfg.groupA s) (onlineCapacity s.cfg.groupA s) with
  | some u => decide (s.cfg.startThreshold < u)
  | none => false

/-- The stop condition on U without self (R48). -/
def stopCondition (s : State) : Bool :=
  let load := onlineLoad s.cfg.groupA s
  match utilisation load (onlineCapacity s.cfg.groupA s - s.cfg.rating) with
  | some u => decide (u < s.cfg.stopThreshold)
  | none => decide (load = 0)

/-- A watch after a group check (R45): set, left or cleared. -/
def keepWatch (cond : Bool) (now stamp : Nat) (w : Option Watch) : Option Watch :=
  if cond then some (w.getD ⟨now, stamp⟩) else none

/-- A watch has run its delay, in seconds (R45, R48). -/
def ranDelay (delay now : Nat) : Option Watch → Bool
  | none => false
  | some w => decide (w.since + delay * second ≤ now)

/-- The ranking names the node itself. -/
def namesSelf (v : Option SetView) (s : State) : Bool :=
  match v with
  | some x => decide (x.node = s.eventId)
  | none => false

/-- An AUTO start or stop is announced (R46, R49): key, serial, the intending state with its window, and
the INTENT, which is offered behind the extra STATUS of the state entered (log entry 37). -/
def announceIntent (kind : IntentKind) (s : State) : State :=
  let key := s.fau.minutes
  let serial := (s.setc.intentSerial + 1) % 256
  let s := s.withSetc { s.setc with intentKey := some key, intentSerial := serial }
  let s := enterSet (match kind with
    | .start => .intending
    | .stop => .stopIntending) none false s
  offer (.intent s.cfg.groupA kind key serial) .normal s

/-- The group check of a STOPPED set in AUTO (R45, R46). -/
def checkStopped (claimNotice : Bool) (s : State) : State :=
  let g := s.cfg.groupA
  let s := s.withSetc { s.setc with
    startWatch := keepWatch (startCondition s) s.now s.siteSec s.setc.startWatch }
  let candidate := ranDelay s.cfg.startDelay s.now s.setc.startWatch
    || decide (onlineCount g s < s.cfg.minOnline)
    || (claimNotice && decide (onlineCapacity g s = 0))
  if s.fau.factor = 1000 ∧ candidate ∧ namesSelf (bestStopped g s) s then announceIntent .start s else s

/-- The group check of an ONLINE set in AUTO (R48, R49). -/
def checkOnline (s : State) : State :=
  let g := s.cfg.groupA
  let s := s.withSetc { s.setc with
    stopWatch := keepWatch (stopCondition s) s.now s.siteSec s.setc.stopWatch }
  if ranDelay s.cfg.stopDelay s.now s.setc.stopWatch ∧ s.plu.pledges = []
      ∧ s.cfg.minOnline < onlineCount g s ∧ namesSelf (worstOnline g s) s then
    announceIntent .stop s
  else s

/-- A group check (R44); in CONFIG and on a BOARD it does nothing. -/
def groupCheck (claimNotice : Bool) (s : State) : State :=
  if s.gensetWorks ∧ s.setc.mode = .auto then
    match s.setc.state with
    | .stopped => checkStopped claimNotice s
    | .online => checkOnline s
    | .unloading => if startCondition s then enterSyncing false s else s
    | _ => s
  else s

/-! ### Intents heard (R47, R50) -/

/-- The sender of a heard INTENT(START) outranks the node (R47). -/
def outranks (key sender : Nat) (s : State) : Bool :=
  let own := s.setc.intentKey.getD 0
  decide (own < key) || (key == own && decide (sender < s.eventId))

/-- The sender of a heard INTENT(STOP) is worse-ranked (R50). -/
def worseRanked (key sender : Nat) (s : State) : Bool :=
  let own := s.setc.intentKey.getD 0
  decide (key < own) || (key == own && decide (s.eventId < sender))

/-- A valid INTENT reaching the Set Controller (R43, R47, R50). -/
def takeIntent (sender group : Nat) (kind : IntentKind) (key : Nat) (s : State) : State :=
  if s.gensetWorks ∧ group = s.cfg.groupA then
    match s.setc.state, kind with
    | .intending, .start => if outranks key sender s then enterStopped s else s
    | .stopIntending, .start => enterOnline s
    | .stopIntending, .stop => if worseRanked key sender s then enterOnline s else s
    | _, _ => s
  else s

/-! ### Set inputs (R43, R50 to R57) -/

/-- RUNNING falls where that is an unexpected stop (R57). -/
def stopUnexpected : SetState → Bool
  | .warming | .syncing | .online | .stopIntending | .unloading | .cooling => true
  | _ => false

/-- A rise or fall of filtered RUNNING. -/
def runningChange (level : Bool) (s : State) : State :=
  if level then
    (if s.setc.state = .cranking then enterWarming s else s)
  else if stopUnexpected s.setc.state then enterFaulted .unexpectedStop s
  else s

/-- A rise or fall of filtered BREAKER_CLOSED (R53 to R55). -/
def breakerChange (level : Bool) (s : State) : State :=
  match s.setc.state, level with
  | .syncing, true => enterOnline s
  | .online, false => enterSyncing true s
  | .stopIntending, false => enterSyncing true s
  | .unloading, false => enterSet .cooling none false s
  | _, _ => s

/-- A rise or fall of filtered SET_FAULT (R57). -/
def setFaultChange (level : Bool) (s : State) : State :=
  if level ∧ s.setc.state ≠ .faulted then enterFaulted .setFault s else s

/-! ### Timers -/

/-- The present state's limit has ended, in a node state in which the Set Controller runs (R63). -/
def setTimerEnded (st : SetState) (s : State) : Bool :=
  s.gensetWorks && decide (s.setc.state = st) && reached s.now s.setc.timer

/-- A crank fails (R51). -/
def crankFailed (s : State) : State :=
  let s := s.withSetc { s.setc with attempts := s.setc.attempts + 1 }
  let s := askLines (false, false) s
  let s := postEvent .startFail (.node s.eventId) s.setc.attempts 0 s
  if s.setc.attempts = 3 then enterFaulted .startFail s else enterSet .resting none false s

/-! ### The commands -/

/-- INTENT_WINDOW_END (R47, R50). -/
def execIntentWindowEnd (s : State) : Host.Outcome State Fault Refusal :=
  .next (if setTimerEnded .intending s then enterCranking s
    else if setTimerEnded .stopIntending s then enterUnloading s else s)

/-- CRANK_LIMIT (R51). -/
def execCrankLimit (s : State) : Host.Outcome State Fault Refusal :=
  .next (if setTimerEnded .cranking s then crankFailed s else s)

/-- REST_TIME_END (R51). -/
def execRestTimeEnd (s : State) : Host.Outcome State Fault Refusal :=
  .next (if setTimerEnded .resting s then enterCranking s else s)

/-- WARM_UP_END (R52). -/
def execWarmUpEnd (s : State) : Host.Outcome State Fault Refusal :=
  .next (if setTimerEnded .warming s then enterSyncing false s else s)

/-- SYNC_LIMIT (R53). -/
def execSyncLimit (s : State) : Host.Outcome State Fault Refusal :=
  .next (if setTimerEnded .syncing s then enterFaulted .syncFail s else s)

/-- UNLOAD_LIMIT (R55). -/
def execUnloadLimit (s : State) : Host.Outcome State Fault Refusal :=
  .next (if setTimerEnded .unloading s then enterFaulted .unloadFail s else s)

/-- COOL_DOWN_END (R56). -/
def execCoolDownEnd (s : State) : Host.Outcome State Fault Refusal :=
  .next (if setTimerEnded .cooling s then enterStopped s else s)

/-- The mode is changed (R59). -/
def changeMode (mode : RunMode) (s : State) : State :=
  if s.setc.mode = mode then s
  else
    let s := s.withSetc { s.setc with mode := mode, startWatch := none, stopWatch := none }
    match mode, s.setc.state with
    | .manual, .intending => enterStopped s
    | .manual, .stopIntending => enterOnline s
    | _, _ => s

/-- SET_MODE (R59). -/
def execSetMode (tag mode : Byte) (s : State) : Host.Outcome State Fault Refusal :=
  .next (gated (some .genset) [.run, .mute] tag (fun s =>
    match mode.toNat with
    | 0 => respond tag .ok [] (changeMode .auto s)
    | 1 => respond tag .ok [] (changeMode .manual s)
    | _ => badField tag 0 s) s)

/-- SET_RUN ON in MANUAL (R60). -/
def runOn (tag : Byte) (s : State) : State :=
  match s.setc.state with
  | .stopped => respond tag .ok [] (enterCranking s)
  | .unloading => respond tag .ok [] (enterSyncing false s)
  | .cooling | .faulted => refuse tag .state s
  | _ => respond tag .ok [] s

/-- SET_RUN OFF in MANUAL (R60). -/
def runOff (tag : Byte) (s : State) : State :=
  match s.setc.state with
  | .cranking | .resting =>
    respond tag .ok [] (enterStopped (s.withSetc { s.setc with attempts := 0 }))
  | .warming => respond tag .ok [] (enterSet .cooling none false s)
  | .syncing => respond tag .ok [] (enterUnloading s)
  | .online => if s.plu.pledges = [] then respond tag .ok [] (enterUnloading s) else refuse tag .busy s
  | _ => respond tag .ok [] s

/-- SET_RUN (R60). -/
def execSetRun (tag run : Byte) (s : State) : Host.Outcome State Fault Refusal :=
  .next (gated (some .genset) [.run, .mute] tag (fun s =>
    if 1 < run.toNat then badField tag 0 s
    else if s.setc.mode ≠ .manual then refuse tag .state s
    else if run.toNat = 0 then runOn tag s else runOff tag s) s)

/-- CLEAR_SET (R58). -/
def execClearSet (tag : Byte) (s : State) : Host.Outcome State Fault Refusal :=
  .next (gated (some .genset) [.run, .mute] tag (fun s =>
    if s.setc.state = .faulted ∧ s.fpc.setFault.level = false then
      respond tag .ok [] (enterStopped (s.withSetc { s.setc with attempts := 0 }))
    else refuse tag .state s) s)

end Sys2Proof.Machine
end

