-- ==== Sys2Proof/Machine/Fuel.lean ====
section
/-! DEFINITION. The Fuel Accounting Unit (chapter 4): the lot list and its burning, minutes, factor and
refuel flag, deliveries and stray flow, the level check, resynchronisation and the tank record. -/

namespace Sys2Proof.Machine

/-! ### The tank model (R64) -/

/-- The tank model: the sum of the remaining volumes (R64). -/
def Fau.tank (f : Fau) : Nat := (f.lots.map (·.remaining)).sum

/-- A portion of `v` mL costed at `price` (R70). -/
def costPortion (v price : Nat) (f : Fau) : Fau :=
  let r := f.costResidue + v * price
  { f with burnedCost := add64 f.burnedCost (r / 1000), costResidue := r % 1000 }

/-- Takes volume from the lots, oldest first (R69); `costed` says whether each portion is costed (burning)
or not (shrinkage, R83). Answers the unit and what the lots did not hold. -/
def takeVolume (costed : Bool) : List Lot → Nat → Fau → Fau × Nat
  | [], b, f => ({ f with lots := [] }, b)
  | l :: ls, b, f =>
    let v := min b l.remaining
    let f := if costed then costPortion v l.price f else f
    if b < l.remaining then ({ f with lots := { l with remaining := l.remaining - b } :: ls }, 0)
    else takeVolume costed ls (b - v) { f with lastPrice := l.price }

/-! ### Minutes, fuel factor and refuel request (R72 to R74) -/

/-- The minutes to empty of a tank model at a flow numerator (R72). -/
def minutesOf (tank flow : Nat) : Nat :=
  if tank = 0 then 0 else if flow = 0 then 65535 else min (tank * 150 / flow) 65535

/-- The fuel factor of M (R73). -/
def factorOf (mLow mCrit m : Nat) : Nat :=
  if mLow ≤ m then 1000 else if m ≤ mCrit then 0 else 1000 * (m - mCrit) / (mLow - mCrit)

/-- The refuel flag once M is known, with its event (R74). -/
def refuelTest (threshold : Nat) (s : State) : State :=
  let m := s.fau.minutes
  if s.fau.refuelWanted = false ∧ m < threshold then
    postEvent .refuel (.node s.eventId) m 0 (s.withFau { s.fau with refuelWanted := true })
  else if s.fau.refuelWanted = true ∧ sat16 (threshold + 30) ≤ m then
    postEvent .refuel (.node s.eventId) m 1 (s.withFau { s.fau with refuelWanted := false })
  else s

/-- M, the fuel factor and the refuel flag recomputed (R72 to R74). -/
def recomputeFuel (s : State) : State :=
  match s.fau.copy with
  | none => s
  | some c =>
    let m := minutesOf s.fau.tank s.fau.flow
    refuelTest c.refuelAt (s.withFau { s.fau with minutes := m, factor := factorOf c.mLow c.mCrit m })

/-! ### Burning (R67 to R71) -/

/-- Unlotted burn: counted, costed at the last exhausted price, and told once (R71). -/
def burnUnlotted (v : Nat) (s : State) : State :=
  if v = 0 then s
  else
    let s := s.withFau (costPortion v s.fau.lastPrice { s.fau with unlotted := sat32 (s.fau.unlotted + v) })
    if s.fau.dryReported then s
    else postEvent .dryModel (.node s.eventId) s.fau.lastPrice 0
      (s.withFau { s.fau with dryReported := true })

/-- One second's burn at flow numerator `n` (R68 to R71). -/
def burn (n : Nat) (s : State) : State :=
  let total := s.fau.burnResidue + n
  let b := total / 9000
  let f := { s.fau with burnResidue := total % 9000, burned := add64 s.fau.burned b }
  let r := takeVolume true f.lots b f
  burnUnlotted r.2 (s.withFau r.1)

/-- The unit's work on a sample (R67 to R74), in every node state while it holds a working copy (R66). -/
def fuelSample (s : State) : State :=
  match s.fau.copy with
  | none => s
  | some c =>
    let p := s.fpc.sample.p
    let n := flowOf c.curve (loadOf p c.rating)
    let running := s.fpc.running.level
    let answered := s.fpc.sample.answered
    let s := s.withFau { s.fau with
      overload := decide (c.rating < p)
      flow := if running then n else nth 0 c.curve 0 * 250
      level := if answered then some s.fpc.sample.tank else s.fau.level
      levelFresh := s.fau.levelFresh || answered }
    recomputeFuel (if running then burn n s else s)

/-! ### Lots joining and merging (R64, R78, R79) -/

/-- The newest lot after a merge of `v2` mL of the incoming lot (R79). -/
def Lot.merge (newest incoming : Lot) (v2 : Nat) : Lot :=
  { newest with
    delivered := newest.delivered + v2
    remaining := newest.remaining + v2
    price := roundDiv (newest.remaining * newest.price + v2 * incoming.price) (newest.remaining + v2)
    merged := min (newest.merged + 1) 255
    disputed := newest.disputed || incoming.disputed }

/-- A lot joins the list at the newest end, or is merged into the newest of eight (R64, R71, R79). -/
def joinLot (l : Lot) (s : State) : State :=
  let f := s.fau
  if f.lots.length < 8 then s.withFau { f with lots := f.lots ++ [l], dryReported := false }
  else match f.lots.getLast? with
    | none => s
    | some newest =>
      let v2 := min l.remaining (2 ^ 32 - 1 - newest.remaining)
      let m := newest.merge l v2
      postEvent .lotMerged (.ticket newest.ticket) l.ticket m.price (s.withFau { f with
        lots := f.lots.dropLast ++ [m]
        stray := sat32 (f.stray + (l.remaining - v2)) })

/-! ### Deliveries and stray flow (R76 to R81) -/

/-- The time after a delivery's opening or last pulse at which it closes by itself (R78). -/
abbrev autoCloseTime : Nat := 600 * second

/-- The time after the last stray pulse at which a burst ends (R81). -/
abbrev burstTime : Nat := 60 * second

/-- A flow pulse metered into an open delivery (R77). -/
def Delivery.pulse (d : Delivery) (k now sec : Nat) : Delivery :=
  { d with
    metered := fit32 (d.metered + (d.carry + 1000) / k)
    carry := (d.carry + 1000) % k
    lastPulse := sec
    autoClose := now + autoCloseTime }

/-- Stray pulses converted into stray volume with their own carry (R81). -/
def Fau.strayPulses (f : Fau) (count k : Nat) : Fau :=
  { f with stray := sat32 (f.stray + (f.strayCarry + count * 1000) / k)
           strayCarry := (f.strayCarry + count * 1000) % k }

/-- A stray pulse: a burst starts with its event, or continues (R81). -/
def strayPulse (k : Nat) (s : State) : State :=
  let s' := s.withFau { s.fau.strayPulses 1 k with strayLast := some s.now }
  if s.fau.strayLast.isNone then postEvent .strayFlow (.node s.eventId) s.fau.stray 0 s' else s'

/-- A flow pulse handed to the unit (R77, R81): metered, stray, or not taken without a working copy. -/
def fuelPulse (s : State) : State :=
  match s.fau.copy, s.fau.delivery with
  | none, _ => s
  | some c, some d =>
    s.withFau { s.fau with delivery := some (d.pulse c.pulsesPerLitre s.now s.siteSec) }
  | some c, none => strayPulse c.pulsesPerLitre s

/-- The lot of a delivery is disputed (R78). -/
def Delivery.disputed (d : Delivery) (tolerance : Nat) : Bool :=
  let declared := d.litres * 1000
  decide (tolerance * declared < 1000 * ((d.metered - declared) + (declared - d.metered)))

/-- The flags of DELIVERY_DONE, in the order of R198: AUTO, DISPUTED, EMPTY, MERGED, OVERFILL. -/
def deliveryFlags (auto disputed empty merged overfill : Bool) : Nat :=
  maskNat [auto, disputed, empty, merged, overfill]

/-- A delivery is closed (R78): its lot, its events, and the figures. Answers the flags too. -/
def closeDelivery (auto : Bool) (d : Delivery) (c : FuelConfig) (s : State) : Nat × State :=
  let empty := decide (d.metered = 0)
  let disputed := !empty && d.disputed c.deliveryTol
  let merged := !empty && decide (8 ≤ s.fau.lots.length)
  let s := s.withFau { s.fau with delivery := none }
  let s := if empty then s
    else joinLot ⟨d.ticket, 0, .delivery, d.metered, d.metered, d.price, s.siteSec, disputed⟩ s
  let flags := deliveryFlags auto disputed empty merged (decide (c.capacity < s.fau.tank))
  (flags, derateChange (recomputeFuel (postEvent .deliveryDone (.ticket d.ticket) d.metered flags s)))

/-! ### The level check and resynchronisation (R82, R83) -/

/-- Event DIVERGE: SET 0 with the signed difference, CLEARED 1 (R82, R198). -/
def postDiverge (set : Bool) (diff : Int) (s : State) : State :=
  postEvent .diverge (.node s.eventId) (if set then signed32 diff else 0) (if set then 0 else 1) s

/-- The level reading less the compared model (R82). -/
def levelDifference (f : Fau) (level : Nat) : Int :=
  (level : Int) - ((f.tank + (match f.delivery with
    | some d => d.metered
    | none => 0) : Nat) : Int)

/-- A level check with a fresh reading (R82). -/
def compareLevel (level : Nat) (c : FuelConfig) (s : State) : State :=
  let diff := levelDifference s.fau level
  if c.levelTol < diff.natAbs then
    let out := min (s.fau.outCount + 1) 255
    let s := s.withFau { s.fau with outCount := out, inCount := 0 }
    if out = 3 ∧ s.fau.diverge = false then
      derateChange (postDiverge true diff (s.withFau { s.fau with diverge := true }))
    else s
  else
    let inn := min (s.fau.inCount + 1) 255
    let s := s.withFau { s.fau with inCount := inn, outCount := 0 }
    if inn = 3 ∧ s.fau.diverge = true then
      derateChange (postDiverge false 0 (s.withFau { s.fau with diverge := false }))
    else s

/-- LEVEL_CHECK (R82, R141): every 60 s; skipped when no answered sample came since the last, and while the front
end is LOST, also where one did (log entry 39). -/
def levelCheck (s : State) : State :=
  match s.fau.copy, s.fau.nextCheck, s.fau.level with
  | some c, some t, level =>
    if s.now < t then s
    else
      let fresh := s.fau.levelFresh
      let s := s.withFau { s.fau with nextCheck := some (t + 60 * second), levelFresh := false }
      match level with
      | some l => if fresh && !s.fpc.lost then compareLevel l c s else s
      | none => s
  | _, _, _ => s

/-- The next adjust serial: 1 to 0x7FFFFFFF, wrapping to 1 (R65). -/
def nextAdjust (n : Nat) : Nat := if n = 0x7FFFFFFF then 1 else n + 1

/-- The difference of a RESYNC_TANK applied to the lots: shrinkage, adjustment or nothing (R83). -/
def applyResync (diff : Int) (c : FuelConfig) (s : State) : State :=
  if diff < 0 then
    let d := diff.natAbs
    let r := takeVolume false s.fau.lots d s.fau
    s.withFau { r.1 with shrinkage := sat32 (r.1.shrinkage + d) }
  else if 0 < diff then
    let serial := nextAdjust s.fau.adjustSerial
    let price := match s.fau.lots.getLast? with
      | some l => l.price
      | none => c.openingPrice
    joinLot ⟨0x80000000 + serial, 0, .adjust, diff.toNat, diff.toNat, price, s.siteSec, false⟩
      (s.withFau { s.fau with adjustSerial := serial })
  else s

/-- A RESYNC_TANK that is taken (R83): answers the signed difference too. -/
def resync (level : Nat) (c : FuelConfig) (s : State) : Int × State :=
  let diff : Int := (level : Int) - (s.fau.tank : Int)
  let s := applyResync diff c s
  let was := s.fau.diverge
  let s := s.withFau { s.fau with diverge := false, outCount := 0, inCount := 0 }
  let s := if was then postDiverge false 0 s else s
  (diff, derateChange (recomputeFuel s))

/-! ### COMMIT (R66, R81, R84) -/

/-- The working copy a record gives (R66). -/
def ConfigRecord.fuel (c : ConfigRecord) : FuelConfig :=
  { rating := c.rating, curve := c.curve, capacity := c.capacity, openingPrice := c.openingPrice,
    levelTol := c.levelTol, deliveryTol := c.deliveryTol, pulsesPerLitre := c.pulsesPerLitre,
    mLow := c.mLow, mCrit := c.mCrit, refuelAt := c.refuelAt }

/-- The pulses counted before the working copy, converted at the first COMMIT that gives one (R81). -/
def takeHeldPulses (k : Nat) (s : State) : State :=
  let count := s.fpc.heldPulses
  if count = 0 then s
  else
    let s' := (s.withFau (s.fau.strayPulses count k)).withFpc { s.fpc with heldPulses := 0 }
    postEvent .strayFlow (.node s.eventId) s.fau.stray 0 s'

/-- The first COMMIT that gives the unit a working copy (R84). -/
def firstFuelCommit (c : ConfigRecord) (s : State) : State :=
  let f := s.fau
  let lots : List Lot := if c.openingStock = 0 then [] else
    [⟨0, 0, .opening, c.openingStock, c.openingStock, c.openingPrice, s.siteSec, false⟩]
  let s := s.withFau { f with
    copy := some c.fuel
    lastPrice := c.openingPrice
    lots := lots
    dryReported := if c.openingStock = 0 then f.dryReported else false
    flow := nth 0 c.curve 0 * 250
    nextCheck := some (s.now + 60 * second) }
  recomputeFuel (takeHeldPulses c.pulsesPerLitre s)

/-- A later COMMIT in the GENSET role: the working copy replaced, the carries cleared with a new K
(R66, R84). -/
def laterFuelCommit (old new : FuelConfig) (f : Fau) : Fau :=
  if old.pulsesPerLitre = new.pulsesPerLitre then { f with copy := some new }
  else { f with copy := some new, strayCarry := 0, delivery := f.delivery.map fun d => { d with carry := 0 } }

/-- The unit at COMMIT, of either role (R66, R84). -/
def fuelCommit (c : ConfigRecord) (s : State) : State :=
  match c.role, s.fau.copy with
  | .board, _ => s.withFau .reset
  | .genset, none => firstFuelCommit c s
  | .genset, some old => s.withFau (laterFuelCommit old c.fuel s.fau)

/-! ### The commands -/

/-- A fuel command: GENSET role, every node state, and a working copy held (R66, R189). -/
def fuelCommand (tag : Byte) (act : FuelConfig → State → State) (s : State) : State :=
  gated (some .genset) [.config, .run, .mute] tag (fun s => match s.fau.copy with
    | none => refuse tag .state s
    | some c => act c s) s

/-- DELIVERY_OPEN (R76), its conditions in the order of the table. -/
def openDelivery (tag : Byte) (ticket : Word) (price litres : Half) (s : State) : State :=
  if s.fau.delivery.isSome then refuse tag .busy s
  else if ticket.toNat = 0 ∨ 0x80000000 ≤ ticket.toNat then badField tag 0 s
  else if litres.toNat = 0 then badField tag 2 s
  else if s.fau.lots.any (fun l => l.ticket == ticket.toNat) then refuse tag .inUse s
  else respond tag .ok [] (s.withFau { s.fau with
    delivery := some ⟨ticket.toNat, price.toNat, litres.toNat, 0, 0, s.siteSec, s.siteSec,
      s.now + autoCloseTime⟩
    strayLast := none })

/-- DELIVERY_OPEN (R76). -/
def execDeliveryOpen (tag : Byte) (ticket : Word) (price litres : Half) (s : State) :
    Host.Outcome State Fault Refusal :=
  .next (fuelCommand tag (fun _ s => openDelivery tag ticket price litres s) s)

/-- DELIVERY_CLOSE (R78). -/
def execDeliveryClose (tag : Byte) (s : State) : Host.Outcome State Fault Refusal :=
  .next (fuelCommand tag (fun c s => match s.fau.delivery with
    | none => refuse tag .state s
    | some d =>
      let r := closeDelivery false d c s
      respond tag .ok (be32 d.metered ++ [byte r.1]) r.2) s)

/-- DELIVERY_AUTO_CLOSE (R78): no command; the end of the auto-close timer. -/
def execDeliveryAutoClose (s : State) : Host.Outcome State Fault Refusal :=
  .next (match s.fau.copy, s.fau.delivery with
    | some c, some d => if d.autoClose ≤ s.now then (closeDelivery true d c s).2 else s
    | _, _ => s)

/-- DELIVERY_CANCEL (R80). -/
def execDeliveryCancel (tag : Byte) (s : State) : Host.Outcome State Fault Refusal :=
  .next (fuelCommand tag (fun _ s => match s.fau.delivery with
    | none => refuse tag .state s
    | some d => respond tag .ok [] (s.withFau { s.fau with
        delivery := none, stray := sat32 (s.fau.stray + d.metered) })) s)

/-- A stray burst has run 60 s without a pulse (R81). -/
def Fau.burstOver (f : Fau) (now : Nat) : Bool := reached now (f.strayLast.map (· + burstTime))

/-- STRAY_BURST_END (R81). -/
def execStrayBurstEnd (s : State) : Host.Outcome State Fault Refusal :=
  .next (if s.fau.burstOver s.now then s.withFau { s.fau with strayLast := none } else s)

/-- LEVEL_CHECK (R82). -/
def execLevelCheck (s : State) : Host.Outcome State Fault Refusal := .next (levelCheck s)

/-- RESYNC_TANK (R83), its conditions in the order of the table. The difference in the answer saturates at the bounds
of a signed 32-bit number (log entry 7). -/
def execResyncTank (tag : Byte) (s : State) : Host.Outcome State Fault Refusal :=
  .next (fuelCommand tag (fun c s =>
    if s.fau.delivery.isSome then refuse tag .busy s
    else match s.fau.level with
      | none => refuse tag .state s
      | some l =>
        if s.fpc.lost then refuse tag .state s
        else
          let r := resync l c s
          respond tag .ok (be32 (signed32 r.1)) r.2) s)

/-- Whole seconds since a delivery's opening or last pulse, from its auto-close timer (R78, R85). -/
def Delivery.sincePulse (d : Delivery) (now : Nat) : Nat := (now + autoCloseTime - d.autoClose) / second

/-- The delivery part of the tank record (R85). -/
def Delivery.bytes (d : Delivery) (now : Nat) : List Byte :=
  be32 d.ticket ++ be16 d.price ++ be16 d.litres ++ be32 d.metered ++ be32 d.openedAt
    ++ be16 (d.sincePulse now)

/-- The tank record (R85). -/
def tankBody (s : State) : List Byte :=
  let f := s.fau
  be64 f.tank ++ [byte f.lots.length] ++ be16 f.minutes ++ be16 f.factor ++ be16 (divergenceFactor s)
    ++ be32 f.flow ++ [mask8 [f.refuelWanted, f.diverge, f.dryReported, f.overload, f.delivery.isSome]]
    ++ optional 4 (f.level.map be32) ++ be64 f.burned ++ be64 f.burnedCost ++ be16 f.costResidue
    ++ be32 f.unlotted ++ be32 f.shrinkage ++ be32 f.stray ++ be16 f.lastPrice ++ be16 f.burnResidue
    ++ [byte f.outCount, byte f.inCount] ++ optional 18 (f.delivery.map (·.bytes s.now))

/-- READ_TANK (R85). -/
def execReadTank (tag : Byte) (s : State) : Host.Outcome State Fault Refusal :=
  .next (fuelCommand tag (fun _ s => respond tag .ok (tankBody s) s) s)

/-- A lot as READ_LOTS returns it (R209). -/
def Lot.bytes (l : Lot) : List Byte :=
  be32 l.ticket ++ [byte l.merged, byte l.origin.code] ++ be32 l.delivered ++ be32 l.remaining
    ++ be16 l.price ++ be32 l.deliveredAt ++ [flagByte l.disputed]

/-- READ_LOTS (R85). -/
def execReadLots (tag : Byte) (s : State) : Host.Outcome State Fault Refusal :=
  .next (fuelCommand tag (fun _ s =>
    respond tag .ok (byte s.fau.lots.length :: (s.fau.lots.map Lot.bytes).flatten) s) s)

end Sys2Proof.Machine
end

