-- ==== Sys2Proof/Machine/Metering.lean ====
section
/-! DEFINITION. The Metering Unit (sections 8.1 to 8.4): channels and relays, capacity requests, tariffs
and pending records, group cost indices, and the charging of a sample with its credit tests. -/

namespace Sys2Proof.Machine

/-! ### Relays (R153) -/

/-- A channel of the table. -/
def State.channel (s : State) (i : Nat) : Channel := nth .reset s.mtr.channels i

/-- The reason set of a channel: CREDIT, CAPACITY, HOST (R151). -/
def Channel.reasons (c : Channel) : Nat := maskNat [c.credit, c.capacity, c.host]

/-- The relay rule: the effective reasons are not empty (R153). -/
def Channel.wantsShed (c : Channel) : Bool :=
  if c.level = 0 then c.host else c.credit || c.capacity || c.host

/-- One channel replaced by a function of itself. -/
def changeChannel (i : Nat) (f : Channel → Channel) (s : State) : State :=
  s.withMtr { s.mtr with channels := adjust f i s.mtr.channels }

/-- The relay rule applied to one channel (R153): a changed state is asked of the field port and told. -/
def applyRelay (i : Nat) (s : State) : State :=
  let c := s.channel i
  let shed := c.wantsShed
  if shed = c.shed then s
  else
    let s := changeChannel i (fun c => { c with shed := shed }) s
    let s := s.withFpc { s.fpc with relays := adjust (fun _ => shed) i s.fpc.relays }
    postEvent .shedChange (.channel i) c.reasons (if shed then 0 else 1) s

/-- The relay rule applied to several channels, in the order given (R153: ascending). -/
def applyRelays (is : List Nat) (s : State) : State := is.foldl (fun s i => applyRelay i s) s

/-- The channels that satisfy `p`, ascending. -/
def channelsWhere (p : Channel → Bool) (s : State) : List Nat :=
  (List.range 16).filter fun i => p (s.channel i)

/-- An enabled channel points at an account slot. -/
def Channel.pointsAt (slot : Nat) (c : Channel) : Bool :=
  match c.mapping with
  | some (a, _) => a == slot
  | none => false

/-! ### Capacity requests (R154) -/

/-- A level is in the set. -/
def LevelSet.get (l : LevelSet) : Nat → Bool
  | 1 => l.l1 | 2 => l.l2 | 3 => l.l3 | _ => false

/-- A level put into the set or taken out of it. -/
def LevelSet.put (l : LevelSet) (n : Nat) (v : Bool) : LevelSet :=
  match n with
  | 1 => { l with l1 := v } | 2 => { l with l2 := v } | 3 => { l with l3 := v } | _ => l

/-- Requests "set level n" or "clear level n" for several levels, made as one action (R154): a level the
set already has as asked changes nothing. -/
def capacityRequest (v : Bool) (levels : List Nat) (s : State) : State :=
  let ns := levels.filter fun n => s.mtr.levels.get n != v
  let hit := channelsWhere (fun c => ns.contains c.level) s
  applyRelays hit (s.withMtr { s.mtr with
    levels := ns.foldl (fun l n => l.put n v) s.mtr.levels
    channels := s.mtr.channels.map fun c => if ns.contains c.level then { c with capacity := v } else c })

/-- The request "clear all" (R154). -/
def clearAllCapacity (s : State) : State :=
  if s.mtr.levels = ⟨false, false, false⟩ then s
  else applyRelays (List.range 16) (s.withMtr { s.mtr with
    levels := ⟨false, false, false⟩
    channels := s.mtr.channels.map fun c => { c with capacity := false } })

/-! ### Tariffs and pending records (R155 to R158) -/

/-- A tariff slot. -/
def State.tariff (s : State) (t : Nat) : Tariff := (nth ⟨.empty, none⟩ s.mtr.tariffs t).tariff

/-- The tariff is a REFERENCE. -/
def Tariff.isReference : Tariff → Bool
  | .reference _ => true
  | _ => false

/-- A pending record belongs to an account slot and a tariff slot. -/
def PendingRec.isFor (a t : Nat) (r : PendingRec) : Bool := r.account == a && r.tariff == t

/-- The pending record of a pair, if one is reserved (R156). -/
def Mtr.pendingOf (m : Mtr) (a t : Nat) : Option PendingRec := (m.pendings.filterMap id).find? (·.isFor a t)

/-- The places of the free pending records. -/
def Mtr.freePlaces (m : Mtr) : List Nat :=
  (List.range m.pendings.length).filter fun i => (nth none m.pendings i).isNone

/-- A tariff slot holds a pending record. -/
def Mtr.holdsPending (m : Mtr) (t : Nat) : Bool := m.pendings.any fun r => match r with
  | some r => r.tariff == t
  | none => false

/-- The pending record of a pair reserved, where it is not yet (R156). Which free record is taken the
manual does not say (log entry 8). -/
def reservePending (a t : Nat) (s : State) : State :=
  if (s.mtr.pendingOf a t).isSome then s
  else
    let free := s.mtr.freePlaces
    let place := nth 0 free (Config.pendingPlace s.choices % free.length)
    (s.withMtr { s.mtr with pendings := adjust (fun _ => some ⟨a, t, 0, 0, []⟩) place s.mtr.pendings }).withChoices
      (s.choices + 1)

/-- A channel leaves its old mapping (R152, step 1): the pair's pending record is freed when no other
enabled channel maps the pair and nothing pends. -/
def leavePair (i : Nat) (s : State) : State :=
  match (s.channel i).mapping with
  | none => s
  | some (a, t) =>
    let others := (List.range 16).any fun j => j != i && decide ((s.channel j).mapping = some (a, t))
    if (s.tariff t).isReference && !others then
      s.withMtr { s.mtr with pendings := s.mtr.pendings.map fun r => match r with
        | some r => if r.isFor a t && r.energy == 0 then none else some r
        | none => none }
    else s

/-- Two distinct groups are kept, in the order first seen (R161). -/
def seeGroup (g : Nat) (l : List Nat) : List Nat :=
  if l.contains g then l else if l.length < 2 then l ++ [g] else l

/-- A present group joins a list of groups seen. -/
def seePresent (g : Option Nat) (l : List Nat) : List Nat :=
  match g with
  | some g => seeGroup g l
  | none => l

/-- The resolve-request time (R157). -/
abbrev resolveTime : Nat := 600 * second

/-- Event RESOLVE_REQUEST and the slot's timer started (R157). -/
def requestResolve (t key : Nat) (s : State) : State :=
  postEvent .resolveRequest (.node s.eventId) key t (s.withMtr { s.mtr with
    tariffs := adjust (fun x => { x with timer := some (s.now + resolveTime) }) t s.mtr.tariffs })

/-! ### Pricing (R158, R162) -/

/-- An amount in millionths of a millicredit added to an account (R158, R162). -/
def Account.price (a : Account) (amount : Nat) : Account :=
  let r := a.residue + amount
  { a with
    residue := r % 1000000
    charge := add64 a.charge (r / 1000000)
    intCharge := add64 a.intCharge (r / 1000000) }

/-- An account slot. -/
def State.account (s : State) (i : Nat) : Account := nth .reset s.bil.accounts i

/-- One account replaced by a function of itself. -/
def changeAccount (i : Nat) (f : Account → Account) (s : State) : State :=
  s.withBil { s.bil with accounts := adjust f i s.bil.accounts }

/-- The account is charged above its limit (R166). -/
def Account.exceeds (a : Account) : Bool := decide (0 < a.limit) && decide (a.limit < a.charge)

/-- An OPEN account above its limit becomes OVER (R166): its event, and CREDIT on its channels. The relay
rule is applied by the caller. -/
def becomeOver (slot : Nat) (s : State) : State :=
  let s := changeAccount slot (fun a => { a with state := .over }) s
  let s := postEvent .accountOver (.slot slot) (s.account slot).id 0 s
  s.withMtr { s.mtr with
    channels := s.mtr.channels.map fun c => if c.pointsAt slot then { c with credit := true } else c }

/-- The credit tests of an action, over the accounts charged, ascending; then the relay rule on the
channels of the accounts that became OVER, ascending (R153, R166). -/
def creditTests (slots : List Nat) (s : State) : State :=
  let newly := slots.filter fun i => decide ((s.account i).state = .opened) && (s.account i).exceeds
  let hit := channelsWhere (fun c => newly.any fun i => c.pointsAt i) s
  applyRelays hit (newly.foldl (fun s i => becomeOver i s) s)

/-! ### Group cost indices (R159, R160) -/

/-- A feeder record. -/
def Chs.feeder (c : Chs) : Feeder → FeederRec
  | .a => c.feederA
  | .b => c.feederB

/-- The billing group (R159, R133). -/
def billingGroup (s : State) : Option Nat :=
  match s.hpt.role with
  | some .board => s.chs.billing.map fun f => (s.chs.feeder f).group
  | some .genset => some s.cfg.groupA
  | none => none

/-- The billing groups a node may bill from (R159). -/
def billingGroups (s : State) : List Nat :=
  match s.hpt.role with
  | some .board => [s.chs.feederA.group, s.chs.feederB.group]
  | some .genset => [s.cfg.groupA]
  | none => []

/-- The group cost index the inputs give, `none` where no set qualifies (R160). -/
def CostInputs.groupCi (c : CostInputs) : Option Nat :=
  if 0 < c.weight then some (roundDiv c.weighted c.weight)
  else if 0 < c.count then some (roundDiv c.plain c.count)
  else none

/-- The held index of a group replaced by the index formed, if one is (R160). -/
def formGroupCi (g : Nat) (s : State) : State :=
  match (costInputs g s).groupCi with
  | some v => s.withMtr { s.mtr with heldCis := adjust (fun _ => ⟨v, true⟩) (g - 1) s.mtr.heldCis }
  | none => s

/-- The group indices formed at a sample: none in CONFIG (R160, R170). -/
def formGroupCis (s : State) : State :=
  if s.hpt.nodeState = .config then s
  else (billingGroups s).foldl (fun s g => formGroupCi g s) s

/-- What a sample is priced at: the billing group, its index, and whether the sample is stale (R160 to
R162). -/
structure Rate where
  group : Option Nat
  ci : Nat
  stale : Bool
  deriving DecidableEq, Repr

/-- The rate of a sample, once the indices have been formed (R159, R160). With the billing group absent the sample
is stale for no group, in CONFIG too (log entry 49). -/
def sampleRate (s : State) : Rate :=
  match billingGroup s with
  | none => ⟨none, 0, false⟩
  | some g =>
    ⟨some g, (nth ⟨0, false⟩ s.mtr.heldCis (g - 1)).value,
      decide (s.hpt.nodeState = .config) || (costInputs g s).groupCi.isNone⟩

/-! ### Charging a sample (R161 to R163) -/

/-- What a sample does to the account of an enabled channel, but for the price (R161). -/
def Account.meter (a : Account) (e : Nat) (r : Rate) (estimated : Bool) : Account :=
  { a with
    energy := add64 a.energy e
    intEnergy := add64 a.intEnergy e
    groups := if 0 < e then seePresent r.group a.groups else a.groups
    estimated := a.estimated || estimated
    staleRate := a.staleRate || (decide (0 < e) && r.stale)
    noSource := a.noSource || (decide (0 < e) && r.group.isNone) }

/-- Energy on a REFERENCE tariff joins its pending record (R163). -/
def addPending (a t e : Nat) (r : Rate) (s : State) : State :=
  s.withMtr { s.mtr with pendings := s.mtr.pendings.map fun p => match p with
    | some p => if p.isFor a t then
        some { p with energy := add64 p.energy e, weighted := add64 p.weighted (e * r.ci)
                      groups := seePresent r.group p.groups }
      else some p
    | none => none }

/-- Energy above 0 priced on the channel's tariff (R161, step 2). -/
def priceEnergy (a t e : Nat) (r : Rate) (s : State) : State :=
  match s.tariff t with
  | .resolved _ b p => changeAccount a (·.price (e * (b * 1000 + r.ci * p))) s
  | .reference key =>
    let s := addPending a t e r s
    if (nth ⟨.empty, none⟩ s.mtr.tariffs t).timer.isNone then requestResolve t key s else s
  | .empty => s

/-- One channel of a sample (R161). -/
def chargeChannel (r : Rate) (i : Nat) (s : State) : State :=
  let e := nth 0 s.fpc.sample.energies i
  let p := nth 0 s.fpc.sample.powers i
  let s := changeChannel i (fun c => { c with power := p, energy := add64 c.energy e }) s
  match (s.channel i).mapping with
  | none => s
  | some (a, t) =>
    let s := changeAccount a (·.meter e r s.fpc.sample.estimated) s
    if 0 < e then priceEnergy a t e r s else s

/-- The accounts a sample prices energy for, ascending (R161, R166). -/
def chargedAccounts (s : State) : List Nat :=
  (List.range 64).filter fun a => (List.range 16).any fun i =>
    match (s.channel i).mapping with
    | some (b, t) => b == a && decide (0 < nth 0 s.fpc.sample.energies i) && (match s.tariff t with
        | .resolved .. => true
        | _ => false)
    | none => false

/-- The unit's work on a sample (R160, R161). -/
def chargeSample (s : State) : State :=
  let s := formGroupCis s
  let r := sampleRate s
  creditTests (chargedAccounts s) ((List.range 16).foldl (fun s i => chargeChannel r i s) s)

/-! ### The commands -/

/-- Every node state. -/
abbrev allStates : List NodeState := [.config, .run, .mute]

/-- The first field of SET_CHANNEL out of its range (R152, R187). -/
def channelBadField (channel enabled account tariff level : Nat) : Option Nat :=
  if 15 < channel then some 0 else if 1 < enabled then some 1 else if 63 < account then some 2
  else if 15 < tariff then some 3 else if 3 < level then some 4 else none

/-- The refusal of an enabled SET_CHANNEL, if any (R152). -/
def channelRefusal (account tariff : Nat) (s : State) : Option Status :=
  let st := (s.account account).state
  if !(decide (st = .opened) || decide (st = .over)) then some .notFound
  else match s.tariff tariff with
    | .empty => some .notFound
    | .resolved .. => none
    | .reference _ =>
      if (s.mtr.pendingOf account tariff).isSome || !s.mtr.freePlaces.isEmpty then none else some .full

/-- A SET_CHANNEL that is taken (R152, steps 1 to 5). -/
def remapChannel (i : Nat) (mapping : Option (Nat × Nat)) (level : Nat) (s : State) : State :=
  let s := leavePair i s
  let s := match mapping with
    | some (a, t) => if (s.tariff t).isReference then reservePending a t s else s
    | none => s
  let credit := match mapping with
    | some (a, _) => decide ((s.account a).state = .over)
    | none => false
  applyRelay i (changeChannel i (fun c => { c with
    mapping := mapping, level := level, credit := credit, capacity := s.mtr.levels.get level }) s)

/-- SET_CHANNEL (R152). -/
def execSetChannel (tag channel enabled account tariff level : Byte) (s : State) :
    Host.Outcome State Fault Refusal :=
  .next (gated none [.config, .run] tag (fun s =>
    match channelBadField channel.toNat enabled.toNat account.toNat tariff.toNat level.toNat with
    | some f => badField tag f s
    | none =>
      if enabled.toNat = 1 then respond tag .ok [] (remapChannel channel.toNat none level.toNat s)
      else match channelRefusal account.toNat tariff.toNat s with
        | some st => refuse tag st s
        | none => respond tag .ok []
            (remapChannel channel.toNat (some (account.toNat, tariff.toNat)) level.toNat s)) s)

/-- SHED_HOST (R153). -/
def execShedHost (tag channel op : Byte) (s : State) : Host.Outcome State Fault Refusal :=
  .next (gated none allStates tag (fun s =>
    if 15 < channel.toNat then badField tag 0 s
    else if 1 < op.toNat then badField tag 1 s
    else respond tag .ok [] (applyRelay channel.toNat
      (changeChannel channel.toNat (fun c => { c with host := decide (op.toNat = 0) }) s))) s)

/-- The tariff a DEFINE_TARIFF writes (R155): EMPTY 0, REFERENCE 1, RESOLVED 2. -/
def tariffOf (form key base pass : Nat) : Tariff :=
  match form with
  | 1 => .reference key
  | 2 => .resolved key base (min pass 2000)
  | _ => .empty

/-- DEFINE_TARIFF (R155). -/
def execDefineTariff (tag slot form : Byte) (key : Word) (base pass : Half) (s : State) :
    Host.Outcome State Fault Refusal :=
  .next (gated none allStates tag (fun s =>
    let t := slot.toNat
    let inUse := (List.range 16).any fun i => match (s.channel i).mapping with
      | some (_, u) => u == t
      | none => false
    if 15 < t then badField tag 0 s
    else if 2 < form.toNat then badField tag 1 s
    else if s.mtr.holdsPending t || (inUse && decide (form.toNat ≠ 2)) then refuse tag .inUse s
    else respond tag (if form.toNat = 2 ∧ 2000 < pass.toNat then .clamped else .ok) [] (s.withMtr { s.mtr with
      tariffs := adjust (fun _ => ⟨tariffOf form.toNat key.toNat base.toNat pass.toNat, none⟩) t
        s.mtr.tariffs })) s)

/-- A REFERENCE slot holds a key. -/
def State.referenced (s : State) (key t : Nat) : Bool := decide (s.tariff t = .reference key)

/-- One pending record priced against its account (R158, steps 2 and 3). -/
def pricePending (base pass : Nat) (p : PendingRec) (s : State) : State :=
  changeAccount p.account (fun a =>
    let a := a.price (p.energy * base * 1000 + p.weighted * pass)
    { a with groups := p.groups.foldl (fun l g => seeGroup g l) a.groups }) s

/-- RESOLVE_TARIFF taken (R158), the records priced and their groups joined in the order of their places (log
entry 23). -/
def resolveKey (key base pass : Nat) (s : State) : State :=
  let recs := (s.mtr.pendings.filterMap id).filter fun p => s.referenced key p.tariff
  let s' := s.withMtr { s.mtr with
    tariffs := s.mtr.tariffs.map fun x =>
      if x.tariff = .reference key then ⟨.resolved key base pass, none⟩ else x
    pendings := s.mtr.pendings.map fun p => match p with
      | some p => if s.referenced key p.tariff then none else some p
      | none => none }
  creditTests ((List.range 64).filter fun a => recs.any fun p => p.account == a)
    (recs.foldl (fun s p => pricePending base pass p s) s')

/-- RESOLVE_TARIFF (R158). -/
def execResolveTariff (tag : Byte) (key : Word) (base pass : Half) (s : State) :
    Host.Outcome State Fault Refusal :=
  .next (gated none allStates tag (fun s =>
    let slots := (List.range 16).filter (s.referenced key.toNat)
    let recs := (s.mtr.pendings.filterMap id).filter fun p => s.referenced key.toNat p.tariff
    if slots.isEmpty then refuse tag .notFound s
    else respond tag (if 2000 < pass.toNat then .clamped else .ok) [byte slots.length, byte recs.length]
      (resolveKey key.toNat base.toNat (min pass.toNat 2000) s)) s)

/-- The end of a resolve-request timer (R157). -/
def resolveTimerEnd (t : Nat) (s : State) : State :=
  if reached s.now (nth ⟨.empty, none⟩ s.mtr.tariffs t).timer then
    let waiting := s.mtr.pendings.any fun r => match r with
      | some r => r.tariff == t && decide (0 < r.energy)
      | none => false
    match s.tariff t, waiting with
    | .reference key, true => requestResolve t key s
    | _, _ => s.withMtr { s.mtr with tariffs := adjust (fun x => { x with timer := none }) t s.mtr.tariffs }
  else s

/-- RESOLVE_REQUEST_TIMER (R157). -/
def execResolveRequestTimer (slot : Nat) (s : State) : Host.Outcome State Fault Refusal :=
  .next (resolveTimerEnd slot s)

end Sys2Proof.Machine
end

