-- ==== Sys2Proof/Machine/Billing.lean ====
section
/-! DEFINITION. The Billing Unit (section 8.5 and chapter 9): the account commands, interval records and
their closes, the carry, the billing log, and the host's reading of it. -/

namespace Sys2Proof.Machine

/-! ### Interval records (R174, R175, R178) -/

/-- The pending energy of an account slot: the sum of E_p over its pending records (R169, R174). -/
def Mtr.pendingEnergy (m : Mtr) (slot : Nat) : Nat :=
  (((m.pendings.filterMap id).filter fun p => p.account == slot).map (·.energy)).sum

/-- The number of pending records of an account slot (R169). -/
def Mtr.pendingCount (m : Mtr) (slot : Nat) : Nat :=
  ((m.pendings.filterMap id).filter fun p => p.account == slot).length

/-- The log has room (R176). -/
def Bil.hasRoom (b : Bil) : Bool := decide (b.log.length < 128)

/-- The producer position (R176): the consumer position advanced by the unread count. -/
def Bil.producer (b : Bil) : Nat := (b.consumer + b.log.length) % 128

/-- The totals te and tc of R175. -/
def Account.totals (a : Account) : Nat × Nat := (add64 a.intEnergy a.carryEnergy, add64 a.intCharge a.carryCharge)

/-- The production is the FINAL one: the account is closing and its totals fit a record (R178). -/
def Account.endsNow (a : Account) : Bool :=
  decide (a.state = .closing) && decide (a.totals.1 < 2 ^ 32) && decide (a.totals.2 < 2 ^ 32)

/-- The record an account produces (R174, R175). -/
def intervalRecord (slot : Nat) (timeset : Bool) (closedAt : Nat) (s : State) : IntervalRec :=
  let a := s.account slot
  let pend := sat32 (s.mtr.pendingEnergy slot)
  { account := a.id, slot := slot, serial := s.bil.serial, openedAt := s.bil.openedAt, closedAt := closedAt
    energy := sat32 a.totals.1, charge := sat32 a.totals.2, pendingEnergy := pend
    estimated := a.estimated, staleRate := a.staleRate, noSource := a.noSource
    pendingFlag := decide (0 < pend), carried := decide (0 < a.carryEnergy) || decide (0 < a.carryCharge)
    split := decide (a.groups.length = 2), final := a.endsNow, timeset := timeset, groups := a.groups }

/-- The account after a production (R175, R178). -/
def Account.produced (a : Account) : Account :=
  if a.endsNow then .reset
  else { a with
    intEnergy := 0, intCharge := 0, estimated := false, staleRate := false, noSource := false, groups := []
    carryEnergy := a.totals.1 - sat32 a.totals.1, carryCharge := a.totals.2 - sat32 a.totals.2 }

/-- A record produced for a slot; the log has room (R175, R176). -/
def produce (slot : Nat) (timeset : Bool) (closedAt : Nat) (s : State) : State :=
  let r := intervalRecord slot timeset closedAt s
  let s := changeAccount slot Account.produced s
  s.withBil { s.bil with log := s.bil.log ++ [r] }

/-- Productions of a CLOSING account until its FINAL record or a full log (R178); the 128 places of the
log bound them. -/
def serveClosing (slot : Nat) (timeset : Bool) (closedAt : Nat) : Nat → State → State
  | 0, s => s
  | n + 1, s =>
    if (s.account slot).state = .closing ∧ s.bil.hasRoom then
      serveClosing slot timeset closedAt n (produce slot timeset closedAt s)
    else s

/-! ### The carry (R177) -/

/-- The interval of an account carried (R177). -/
def Account.carry (a : Account) : Account :=
  { a with carryEnergy := add64 a.carryEnergy a.intEnergy, carryCharge := add64 a.carryCharge a.intCharge
           intEnergy := 0, intCharge := 0 }

/-- LOG_FULL, once per filling (R177). -/
def reportLogFull (slot : Nat) (s : State) : State :=
  if s.bil.fullReported then s
  else
    let s := s.withBil { s.bil with fullReported := true }
    reportFault .logFull [byte slot] (postEvent .logFull (.slot slot) s.bil.serial 0 s)

/-- An account carried because the log is full (R177). -/
def carryAccount (slot : Nat) (s : State) : State := reportLogFull slot (changeAccount slot Account.carry s)

/-! ### The close of an interval (R172, R173, R179) -/

/-- One of the four totals is above 0 (R173). -/
def Account.hasTotals (a : Account) : Bool :=
  decide (0 < a.intEnergy) || decide (0 < a.intCharge) || decide (0 < a.carryEnergy)
    || decide (0 < a.carryCharge)

/-- The flags and groups of an account emptied (R173). -/
def Account.emptied (a : Account) : Account :=
  { a with estimated := false, staleRate := false, noSource := false, groups := [] }

/-- The close of one slot (R173). -/
def closeSlot (timeset : Bool) (closedAt slot : Nat) (s : State) : State :=
  let a := s.account slot
  if a.state = .free then s
  else if a.hasTotals then
    if s.bil.hasRoom then
      if a.state = .closing then serveClosing slot timeset closedAt 128 s else produce slot timeset closedAt s
    else carryAccount slot s
  else
    serveClosing slot timeset closedAt 128 (changeAccount slot Account.emptied s)

/-- The close of the current interval but for its new times (R173): the slots ascending, then the
serial. -/
def closeInterval (timeset : Bool) (closedAt : Nat) (s : State) : State :=
  let s := (List.range 64).foldl (fun s i => closeSlot timeset closedAt i s) s
  s.withBil { s.bil with serial := (s.bil.serial + 1) % 2 ^ 32 }

/-- The next boundary: the smallest multiple of the length above a time (R172). -/
def nextBoundary (minutes sec : Nat) : Nat := (sec / (minutes * 60) + 1) * (minutes * 60)

/-- INTERVAL_BOUNDARY (R173). -/
def intervalBoundary (s : State) : State :=
  let b := s.bil.boundary
  if s.siteSec < b then s
  else
    let s := closeInterval false s.siteSec s
    s.withBil { s.bil with openedAt := b, boundary := nextBoundary s.bil.length b }

/-- The unit's part of a change of site time (R179), made at the old time. It compares the two intervals by
floor(time / length) alone, also where the boundary is due and its INTERVAL_BOUNDARY not yet taken (log
entry 44). -/
def timeChange (newSec : Nat) (s : State) : State :=
  let len := s.bil.length * 60
  if s.siteSec / len = newSec / len then
    s.withBil { s.bil with boundary := nextBoundary s.bil.length newSec }
  else
    let s := closeInterval true s.siteSec s
    s.withBil { s.bil with openedAt := newSec, boundary := nextBoundary s.bil.length newSec }

/-- The unit at COMMIT (R172): a new length moves the next boundary, past one that is due and not yet taken too
(log entry 44). -/
def billingCommit (minutes : Nat) (s : State) : State :=
  if s.bil.length = minutes then s
  else s.withBil { s.bil with length := minutes, boundary := nextBoundary minutes s.siteSec }

/-! ### Accounts (R164 to R169) -/

/-- The slot that holds an id and is not FREE. -/
def State.slotOf (s : State) (id : Nat) : Option Nat :=
  (List.range 64).find? fun i => decide ((s.account i).state ≠ .free) && (s.account i).id == id

/-- The lowest-numbered FREE slot (R165). -/
def State.freeSlot (s : State) : Option Nat :=
  (List.range 64).find? fun i => decide ((s.account i).state = .free)

/-- ACCOUNT_OPEN (R165). -/
def execAccountOpen (tag : Byte) (id limit : Word) (s : State) : Host.Outcome State Fault Refusal :=
  .next (gated none allStates tag (fun s =>
    if id.toNat = 0 then badField tag 0 s
    else if (s.slotOf id.toNat).isSome then refuse tag .inUse s
    else match s.freeSlot with
      | none => refuse tag .full s
      | some i => respond tag .ok [byte i] (changeAccount i (fun _ =>
          { Account.reset with id := id.toNat, state := .opened, limit := limit.toNat }) s)) s)

/-- An OVER account returns to OPEN (R167): CREDIT is cleared on its channels, with the relay rule. -/
def returnOpen (slot : Nat) (s : State) : State :=
  let hit := channelsWhere (Channel.pointsAt slot) s
  let s := changeAccount slot (fun a => { a with state := .opened }) s
  applyRelays hit (s.withMtr { s.mtr with
    channels := s.mtr.channels.map fun c => if c.pointsAt slot then { c with credit := false } else c })

/-- A new limit written and tested (R167). -/
def changeLimit (slot limit : Nat) (s : State) : State :=
  let s := changeAccount slot (fun a => { a with limit := limit }) s
  let a := s.account slot
  if a.state = .over then (if a.exceeds then s else returnOpen slot s) else creditTests [slot] s

/-- SET_LIMIT (R167). An id of 0, which no slot holds, is NOT_FOUND (log entry 50). -/
def execSetLimit (tag : Byte) (id limit : Word) (s : State) : Host.Outcome State Fault Refusal :=
  .next (gated none allStates tag (fun s => match s.slotOf id.toNat with
    | none => refuse tag .notFound s
    | some i =>
      if (s.account i).state = .closing then refuse tag .state s
      else respond tag .ok [] (changeLimit i limit.toNat s)) s)

/-- A close that is taken (R178): the FINAL record at once, or CLOSING with the account carried. Answers
the serial of the record, if one was produced. -/
def closeAccount (slot : Nat) (s : State) : Option Nat × State :=
  let room := s.bil.hasRoom
  let serial := s.bil.serial
  let s := changeAccount slot (fun a => { a with state := .closing }) s
  if room then (some serial, serveClosing slot false s.siteSec 128 s) else (none, carryAccount slot s)

/-- ACCOUNT_CLOSE (R168). An id of 0 is NOT_FOUND (log entry 50). -/
def execAccountClose (tag : Byte) (id : Word) (s : State) : Host.Outcome State Fault Refusal :=
  .next (gated none allStates tag (fun s => match s.slotOf id.toNat with
    | none => refuse tag .notFound s
    | some i =>
      if (s.account i).state = .closing then refuse tag .state s
      else if (channelsWhere (Channel.pointsAt i) s).isEmpty ∧ s.mtr.pendingCount i = 0 then
        let r := closeAccount i s
        respond tag .ok (optional 4 (r.1.map be32)) r.2
      else refuse tag .inUse s) s)

/-- Groups seen in one byte: the first in the high four bits, the second in the low. R209 gives this form to
the interval record; READ_ACCOUNT and the PENDING section use it too (log entry 7). -/
def groupsByte (l : List Nat) : Byte := byte (nth 0 l 0 * 16 + nth 0 l 1)

/-- A channel as READ_ACCOUNT returns it (R169). -/
def Channel.accountBytes (i : Nat) (c : Channel) : List Byte :=
  [byte i, byte ((c.mapping.map (·.2)).getD 0), byte c.level, byte c.reasons, flagByte (!c.shed)]
    ++ be16 c.power ++ be64 c.energy

/-- The body of a READ_ACCOUNT response (R169), the number of pending records in one byte (log entry 7). -/
def accountBody (slot : Nat) (s : State) : List Byte :=
  let a := s.account slot
  [byte slot, byte a.state.code] ++ be32 a.id ++ be32 a.limit ++ be64 a.charge ++ be32 a.residue
    ++ be64 a.energy ++ be64 a.intEnergy ++ be64 a.intCharge
    ++ [mask8 [a.estimated, a.staleRate, a.noSource], groupsByte a.groups]
    ++ be64 a.carryEnergy ++ be64 a.carryCharge ++ be64 (add64 (s.mtr.pendingEnergy slot) 0)
    ++ [byte (s.mtr.pendingCount slot)]
    ++ ((channelsWhere (Channel.pointsAt slot) s).map fun i => (s.channel i).accountBytes i).flatten

/-- READ_ACCOUNT (R169). An id of 0 is NOT_FOUND (log entry 50). -/
def execReadAccount (tag : Byte) (id : Word) (s : State) : Host.Outcome State Fault Refusal :=
  .next (gated none allStates tag (fun s => match s.slotOf id.toNat with
    | none => refuse tag .notFound s
    | some i => respond tag .ok (accountBody i s) s) s)

/-! ### The boundary and the log's commands -/

/-- INTERVAL_BOUNDARY (R173). -/
def execIntervalBoundary (s : State) : Host.Outcome State Fault Refusal := .next (intervalBoundary s)

/-- An interval record on the wire (R209). -/
def IntervalRec.bytes (r : IntervalRec) : List Byte :=
  be32 r.account ++ [byte r.slot] ++ be32 r.serial ++ be32 r.openedAt ++ be32 r.closedAt ++ be32 r.energy
    ++ be32 r.charge ++ be32 r.pendingEnergy
    ++ [mask8 [r.estimated, r.staleRate, r.noSource, r.pendingFlag, r.carried, r.split, r.final, r.timeset],
        groupsByte r.groups]

/-- The body of a READ_BILLING response (R180, R209). -/
def billingBody (b : Bil) : List Byte :=
  let recs := b.log.take 4
  [byte b.log.length, byte b.consumer, byte recs.length] ++ (recs.map IntervalRec.bytes).flatten

/-- READ_BILLING (R180). -/
def execReadBilling (tag : Byte) (s : State) : Host.Outcome State Fault Refusal :=
  .next (gated none allStates tag (fun s => respond tag .ok (billingBody s.bil) s) s)

/-- ACK_BILLING taken (R181, steps 1 to 3). -/
def ackBilling (n : Nat) (s : State) : State :=
  let s := s.withBil { s.bil with consumer := (s.bil.consumer + n) % 128, log := s.bil.log.drop n }
  let s := (List.range 64).foldl (fun s i => serveClosing i false s.siteSec 128 s) s
  if s.bil.hasRoom then s.withBil { s.bil with fullReported := false } else s

/-- ACK_BILLING (R181). -/
def execAckBilling (tag count : Byte) (s : State) : Host.Outcome State Fault Refusal :=
  .next (gated none allStates tag (fun s =>
    if s.bil.log.length < count.toNat then badField tag 0 s
    else
      let s := ackBilling count.toNat s
      respond tag .ok [byte s.bil.log.length] s) s)

end Sys2Proof.Machine
end

