-- ==== Sys2Proof/Machine/Changeover.lean ====
section
/-! DEFINITION. The Changeover Sequencer (chapter 6): contactor pulses, the claim record and its bulletins,
capacity shedding, the board states and their timers, and the host's recovery commands. -/

namespace Sys2Proof.Machine

/-! ### Feeders (R108, R109, R148) -/

/-- The other feeder. -/
def otherFeeder : Feeder → Feeder
  | .a => .b
  | .b => .a

/-- The filtered position of a feeder is CLOSED (R144). -/
def State.closed (s : State) : Feeder → Bool
  | .a => s.fpc.feederA.level
  | .b => s.fpc.feederB.level

/-- The source-live flag of a feeder, as delivered with the latest sample (R108). -/
def State.live (s : State) : Feeder → Bool
  | .a => s.fpc.sample.liveA
  | .b => s.fpc.sample.liveB

/-- A pulse to a feeder is in progress (R148). -/
def State.pulsing (s : State) : Feeder → Bool
  | .a => s.fpc.pulseA.isSome
  | .b => s.fpc.pulseB.isSome

/-- A pulse is asked of the field port: 200 ms from now, in place of any to the same feeder (R148). -/
def askPulse (f : Feeder) (line : PulseLine) (s : State) : State :=
  let p := some ⟨line, s.now + 200 * millisecond⟩
  match f with
  | .a => s.withFpc { s.fpc with pulseA := p }
  | .b => s.withFpc { s.fpc with pulseB := p }

/-- One feeder record replaced by a function of itself. -/
def changeFeeder (f : Feeder) (g : FeederRec → FeederRec) (s : State) : State :=
  match f with
  | .a => s.withChs { s.chs with feederA := g s.chs.feederA }
  | .b => s.withChs { s.chs with feederB := g s.chs.feederB }

/-- A feeder is live and not FAULTY. -/
def usable (f : Feeder) (s : State) : Bool := s.live f && !(s.chs.feeder f).faulty

/-- A feeder's source is confirmed lost: its watch has been set for the loss confirm time (R114). -/
def lossConfirmed (f : Feeder) (s : State) : Bool :=
  match (s.chs.feeder f).lossWatch with
  | some w => decide (w.since + s.cfg.lossConfirm * millisecond ≤ s.now)
  | none => false

/-! ### Contactor failures (R112, R121, R123, R203) -/

/-- The causes of CONTACTOR_FAULT, in the order of R209. -/
inductive ContactorCause where
  | uncommandedOpen | openTimeout | closeTimeout
  deriving DecidableEq, Repr

/-- UNCOMMANDED_OPEN 0, OPEN_TIMEOUT 1, CLOSE_TIMEOUT 2 (R209). -/
def ContactorCause.code : ContactorCause → Nat
  | .uncommandedOpen => 0 | .openTimeout => 1 | .closeTimeout => 2

/-- Event CONTACTOR_FAULT (R209). -/
def postContactor (f : Feeder) (cause : ContactorCause) (s : State) : State :=
  postEvent .contactorFault (.node s.eventId) 0 (feederMark (some f) * 256 + cause.code) s

/-- A contactor that did not move in time: the FAULTY mark, the event and the fault (R121, R123). -/
def contactorTimeout (f : Feeder) (cause : ContactorCause) (s : State) : State :=
  reportFault .contactorTimeout [byte s.eventId, byte (feederMark (some f))]
    (postContactor f cause (changeFeeder f (fun r => { r with faulty := true }) s))

/-! ### The claim record (R113, R117, R118) -/

/-- The requested kW of a load (R113). -/
def requestedKw (load margin : Nat) : Nat := min (max (ceilDiv (load * (1000 + margin)) 1000) 1) 65535

/-- The urgency class of a CLAIM (section 1.3). -/
def claimClass : ClaimKind → TxClass
  | .forced => .urgent
  | _ => .normal

/-- The end of collection: 1.5 s for FORCED, 4 s otherwise (R113). -/
def collectionTime : ClaimKind → Nat
  | .forced => 1500 * millisecond
  | _ => 4 * second

/-- A claim record is made and its CLAIM offered (R113). -/
def makeClaim (target : Feeder) (kind : ClaimKind) (cls : Nat) (origin : ClaimOrigin) (kw : Nat) (s : State) :
    State :=
  let serial := (s.chs.serial + 1) % 256
  let group := (s.chs.feeder target).group
  let rec' : ClaimRec := { serial := serial, target := target, group := group, kind := kind, cls := cls
                           origin := origin, requested := kw, pledges := [], confirmed := none
                           deadline := s.now + collectionTime kind }
  offer (.claim serial group kind cls kw) (claimClass kind)
    (s.withChs { s.chs with serial := serial, claim := some rec' })

/-- The claim id of a record of this board. -/
def State.claimSubject (s : State) (c : ClaimRec) : Subject := .claim ⟨s.eventId, c.serial⟩

/-- The record ends with the offer of its RELEASE (R113). -/
def endClaim (why : ReleaseReason) (s : State) : State :=
  match s.chs.claim with
  | none => s
  | some c => (offer (.release c.serial why) .urgent s).withChs { s.chs with claim := none }

/-- The record ends with a RELEASE and event CHANGEOVER_FAILED (R120). -/
def failClaim (why : ReleaseReason) (reason : FailReason) (s : State) : State :=
  match s.chs.claim with
  | none => s
  | some c => postEvent .changeoverFailed (s.claimSubject c) 0 reason.code (endClaim why s)

/-- The walk of the CONFIRM over the pledge list (R117). -/
def takeWalk : Nat → List PledgeItem → List PledgeItem
  | _, [] => []
  | need, e :: es => { e with taken := some (min e.kw need) } :: takeWalk (need - min e.kw need) es

/-- The taken kW of an entry. -/
def PledgeItem.got (e : PledgeItem) : Nat := e.taken.getD 0

/-- The record confirmed: the walk made and T held (R117). -/
def ClaimRec.confirm (c : ClaimRec) : ClaimRec :=
  let l := takeWalk c.requested c.pledges
  { c with pledges := l, confirmed := some (l.map (·.got)).sum }

/-- The taken total T. -/
def ClaimRec.total (c : ClaimRec) : Nat := c.confirmed.getD 0

/-- The CONFIRM is built and offered; a list without entries gives none (R117). -/
def buildConfirm (c : ClaimRec) (s : State) : State :=
  let c' := c.confirm
  let s := s.withChs { s.chs with claim := some c' }
  if c'.pledges.isEmpty then s
  else offer (.confirm c.serial (c'.pledges.map fun e => (e.node, e.got))) .urgent s

/-! ### Capacity shedding (R128) -/

/-- The capacity-shed state of a level. -/
def Chs.shedOf (c : Chs) : Nat → Option Nat
  | 1 => c.shed1 | 2 => c.shed2 | 3 => c.shed3 | _ => none

/-- A level's capacity-shed state written. -/
def Chs.setShed (c : Chs) (level : Nat) (v : Option Nat) : Chs :=
  match level with
  | 1 => { c with shed1 := v } | 2 => { c with shed2 := v } | 3 => { c with shed3 := v } | _ => c

/-- The set of levels under capacity shed, bit 0 for level 1 (R209). -/
def Chs.shedMask (c : Chs) : Nat := maskNat [c.shed1.isSome, c.shed2.isSome, c.shed3.isSome]

/-- The recorded power of a level: the snapshot powers of its enabled channels (R128). -/
def levelPower (level : Nat) (s : State) : Nat :=
  ((channelsWhere (fun c => c.level == level && c.mapping.isSome) s).map fun i => nth 0 s.chs.snapPowers i).sum

/-- A fitted load fits T (R128). -/
def fits (fitted : Int) (t margin : Nat) : Bool := decide (fitted.toNat * (1000 + margin) ≤ t * 1000)

/-- The walk over the levels (R128): the levels taken with their recorded powers, and the fitted load. -/
def shedWalk (t : Nat) (s : State) : List Nat → Int → List (Nat × Nat) × Int
  | [], fitted => ([], fitted)
  | n :: ns, fitted =>
    if fits fitted t s.cfg.margin then ([], fitted)
    else if (s.chs.shedOf n).isSome then shedWalk t s ns fitted
    else
      let p := levelPower n s
      let r := shedWalk t s ns (fitted - p)
      ((n, p) :: r.1, r.2)

/-- Capacity shedding at the CONFIRM of a FORCED claim (R128). -/
def shedCapacity (c : ClaimRec) (s : State) : State :=
  if c.kind = .forced ∧ c.total < c.requested then
    let w := shedWalk c.total s [3, 2, 1] s.chs.snapLoad
    let s := s.withChs (w.1.foldl (fun x l => x.setShed l.1 (some l.2)) s.chs)
    let s := if fits w.2 c.total s.cfg.margin then s
      else postEvent .overcommit (s.claimSubject c) (pair16 c.total w.2.toNat) 0 s
    capacityRequest true (w.1.map (·.1)) s
  else s

/-- The collection ends: CONFIRM, then shedding (R117, R126, R130). -/
def collect (c : ClaimRec) (s : State) : State := shedCapacity c.confirm (buildConfirm c s)

/-! ### Entry to the board states -/

/-- A board state is entered: the top-up timer runs in SETTLED alone (R129), and the change causes an
extra STATUS (R28). -/
def setBoard (st : BoardState) (s : State) : State :=
  extraCause (s.withChs { s.chs with state := st, topupTimer := none })

/-- Both return watches cleared. -/
def Chs.clearReturns (c : Chs) : Chs :=
  { c with feederA := { c.feederA with returnWatch := none }, feederB := { c.feederB with returnWatch := none } }

/-- Every timer, limit and watch stopped (R131, R134, R135). -/
def Chs.stopTimers (c : Chs) : Chs :=
  { c with
    feederA := { c.feederA with lossWatch := none, returnWatch := none }
    feederB := { c.feederB with lossWatch := none, returnWatch := none }
    openLimit := none, deadTimer := none, closeLimit := none, topupTimer := none }

/-- Entry to DARK (R130). An open limit goes on running. -/
def enterDark (s : State) : State :=
  setBoard .dark (s.withChs { s.chs.clearReturns with
    active := none, billing := none, deadTimer := none, closeLimit := none })

/-- Entry to ISOLATED (R131). -/
def enterIsolated (cause : IsolateCause) (s : State) : State :=
  let s := s.withChs { s.chs.stopTimers with active := none, billing := none }
  extraCause (postEvent .isolated (.node s.eventId) 0 cause.code
    (s.withChs { s.chs with state := .isolated }))

/-- The contactor of the feeder being left is welded (R126, R130): a forced claim fails with its event, a
return claim ends with its RELEASE. -/
def welded (f : Feeder) (s : State) : State :=
  let s := contactorTimeout f .openTimeout s
  let s := match s.chs.claim with
    | some c => if c.origin = .loss then failClaim .failed .openFail s else endClaim .failed s
    | none => s
  enterIsolated .welded s

/-- Entry to DEAD (R122). -/
def enterDead (s : State) : State :=
  setBoard .dead (s.withChs { s.chs with
    active := none, openLimit := none, deadTimer := some (s.now + s.cfg.deadTime * millisecond) })

/-- An OPEN pulse with its open limit of 500 ms (R121, R125). -/
def pulseOpen (f : Feeder) (s : State) : State :=
  (askPulse f .openLine s).withChs { s.chs with openLimit := some ⟨f, s.now + 500 * millisecond⟩ }

/-- The open limit has passed, or none runs. -/
def openPassed (s : State) : Bool :=
  match s.chs.openLimit with
  | some l => decide (l.deadline ≤ s.now)
  | none => true

/-- After the collection of a forced claim (R126): DEAD when the old feeder reads OPEN, else OPENING for
what remains of the open limit, and the welded path when nothing remains. -/
def leaveForced (old : Feeder) (s : State) : State :=
  if s.closed old then
    let s := setBoard .opening s
    if openPassed s then welded old s else s
  else enterDead s

/-- A forced claim just made: in MUTE its collection ends at once, with an empty list (R127). -/
def forcedMade (s : State) : State :=
  match s.chs.claim with
  | some c => if s.hpt.nodeState = .mute then leaveForced (otherFeeder c.target) (collect c s) else s
  | none => s

/-- The forced changeover away from feeder `f` (R125), the board being SETTLED on it. -/
def forcedChangeover (f : Feeder) (s : State) : State :=
  let s := pulseOpen f s
  let s := s.withChs { s.chs with active := none }
  let o := otherFeeder f
  if usable o s then
    forcedMade (setBoard .claiming
      (makeClaim o .forced 0 .loss (requestedKw s.chs.snapLoad s.cfg.margin) s))
  else enterDark s

/-- The top-up time (R129). -/
abbrev topupTime : Nat := 30 * second

/-- The top-up timer started with a capacity shed in force (R129). -/
def startTopup (s : State) : State :=
  if s.chs.anyShed then s.withChs { s.chs with topupTimer := some (s.now + topupTime) } else s

/-- Entry to SETTLED on feeder `f`, which also becomes the billing feeder where `billing` says so: the
top-up timer (R129), and a forced changeover at once where its loss watch has run (R125). -/
def enterSettled (f : Feeder) (billing : Bool) (s : State) : State :=
  let s := s.withChs { s.chs.clearReturns with
    active := some f
    billing := if billing then some f else s.chs.billing
    deadTimer := none, closeLimit := none }
  let s := startTopup (setBoard .settled s)
  if lossConfirmed f s then forcedChangeover f s else s

/-- The old feeder of a claim, or none for a return from DARK (R123). -/
def ClaimRec.oldFeeder (c : ClaimRec) : Option Feeder :=
  match c.origin with
  | .changeover | .loss => some (otherFeeder c.target)
  | .fromDark | .topup => none

/-- Confirmed closure of the target (R123). -/
def closure (c : ClaimRec) (s : State) : State :=
  let s := endClaim .done s
  let s := postEvent .changeoverDone (s.claimSubject c) (pair16 c.total s.chs.shedMask)
    (feederMark c.oldFeeder * 256 + feederMark (some c.target)) s
  enterSettled c.target true s

/-- The test of R109: the other feeder reads CLOSED, or a pulse to it is in progress. -/
def closeBlocked (f : Feeder) (s : State) : Bool := s.closed (otherFeeder f) || s.pulsing (otherFeeder f)

/-- A CLOSE is blocked (R109). The RELEASE is offered before the board enters ISOLATED (log entry 48). -/
def blockClose (s : State) : State := enterIsolated .closeBlocked (endClaim .failed s)

/-- A CLOSE pulse with its close limit of 500 ms (R123, R124). -/
def pulseClose (f : Feeder) (s : State) : State :=
  (askPulse f .closeLine s).withChs { s.chs with closeLimit := some (s.now + 500 * millisecond) }

/-- Entry to CLOSING (R123). -/
def enterClosing (c : ClaimRec) (s : State) : State :=
  let s := setBoard .closing (s.withChs { s.chs with deadTimer := none })
  if closeBlocked c.target s then blockClose s
  else
    let s := pulseClose c.target s
    if s.closed c.target then closure c s else s

/-- FALLBACK ends on the old feeder (R124). -/
def fallbackDone (c : ClaimRec) (s : State) : State :=
  enterSettled (otherFeeder c.target) false (failClaim .failed s.chs.fallbackReason s)

/-- FALLBACK fails (R124). -/
def fallbackFailed (s : State) : State :=
  enterIsolated .fallbackFailed (failClaim .failed s.chs.fallbackReason s)

/-- Entry to FALLBACK (R124). -/
def enterFallback (reason : FailReason) (c : ClaimRec) (s : State) : State :=
  let old := otherFeeder c.target
  let s := setBoard .fallback (s.withChs { s.chs with
    fallbackReason := reason, deadTimer := none, closeLimit := none })
  if usable old s then
    if closeBlocked old s then blockClose s
    else
      let s := pulseClose old s
      if s.closed old then fallbackDone c s else s
  else fallbackFailed s

/-- Entry to OPENING on a planned move (R121). -/
def enterOpening (c : ClaimRec) (s : State) : State :=
  let old := otherFeeder c.target
  let s := setBoard .opening (pulseOpen old s)
  if s.closed old then s else enterDead s

/-- After the collection of a return claim (R130). -/
def leaveReturn (c : ClaimRec) (s : State) : State :=
  if s.live c.target then enterClosing c s
  else enterDark (failClaim .failed .targetDead s)

/-- The lowest-numbered level in the capacity-shed state (R129). -/
def Chs.lowestShed (c : Chs) : Option (Nat × Nat) :=
  match c.shed1, c.shed2, c.shed3 with
  | some p, _, _ => some (1, p)
  | none, some p, _ => some (2, p)
  | none, none, some p => some (3, p)
  | none, none, none => none

/-- Cover of a top-up claim (R129), its CONFIRM built. -/
def leaveTopup (c : ClaimRec) (s : State) : State :=
  let s := match s.chs.lowestShed with
    | some (n, _) => capacityRequest false [n] (s.withChs (s.chs.setShed n none))
    | none => s
  enterSettled c.target false (endClaim .done s)

/-- The CONFIRM and what follows it, by origin (R117, R120, R126, R129, R130). -/
def confirmClaim (c : ClaimRec) (s : State) : State :=
  let s := collect c s
  match c.origin with
  | .changeover => enterOpening c.confirm s
  | .loss => leaveForced (otherFeeder c.target) s
  | .fromDark => leaveReturn c.confirm s
  | .topup => leaveTopup c.confirm s

/-! ### Bulletins and notices (R115, R116, R118) -/

/-- The pledge sum. -/
def ClaimRec.sum (c : ClaimRec) : Nat := (c.pledges.map (·.kw)).sum

/-- The pledge list after a PLEDGE (R115); `none` where it is ignored. -/
def ClaimRec.pledged (c : ClaimRec) (node kw : Nat) : Option ClaimRec :=
  if c.pledges.any (fun e => e.node == node) then
    some { c with pledges := c.pledges.map fun e => if e.node = node then { e with kw := kw } else e }
  else if c.pledges.length < 8 then some { c with pledges := c.pledges ++ [⟨node, kw, none⟩] }
  else none

/-- The record a PLEDGE or REVOKE names, if it is this board's (R115, R116). -/
def namedClaim (board serial : Nat) (s : State) : Option ClaimRec :=
  if s.boardWorks ∧ board = s.eventId then s.chs.claim.filter fun c => decide (c.serial = serial) else none

/-- A valid PLEDGE at the board (R115), with the test for cover (R117). -/
def takePledge (node board serial kw : Nat) (s : State) : State :=
  match namedClaim board serial s with
  | none => s
  | some c =>
    if c.confirmed.isSome then s
    else match c.pledged node kw with
      | none => s
      | some c' =>
        let s := s.withChs { s.chs with claim := some c' }
        if c'.requested ≤ c'.sum then confirmClaim c' s else s

/-- A valid REVOKE at the board (R116). It is never tested for cover (log entry 47). -/
def takeRevoke (node board serial revoked remaining : Nat) (s : State) : State :=
  match namedClaim board serial s with
  | none => s
  | some c =>
    if c.confirmed.isSome then
      postEvent .pledgeLostAfterConfirm (s.claimSubject c) (pair16 revoked remaining) node s
    else
      let l := if remaining = 0 then c.pledges.filter fun e => e.node != node
        else c.pledges.map fun e => if e.node = node then { e with kw := remaining } else e
      s.withChs { s.chs with claim := some { c with pledges := l } }

/-- The peer-gone notice at the board (R118). -/
def boardPeerGone (node : Nat) (s : State) : State :=
  s.withChs { s.chs with claim := s.chs.claim.map fun c =>
    { c with pledges := c.pledges.filter fun e => e.node != node } }

/-- Entry to MUTE ends a planned claim (R120). -/
def muteBoard (s : State) : State :=
  match s.chs.state, s.chs.claim with
  | .claiming, some c =>
    if c.origin = .changeover then enterSettled (otherFeeder c.target) false (failClaim .aborted .muted s) else s
  | _, _ => s

/-! ### Position changes (R111, R112) -/

/-- Both feeders read CLOSED (R111). -/
def feedbackConflict (s : State) : State :=
  let s := reportFault .feedbackConflict [byte s.eventId] s
  if s.chs.state = .isolated then s else enterIsolated .feedbackConflict (endClaim .failed s)

/-- The active feeder reads OPEN, not commanded (R112). -/
def uncommandedOpen (f : Feeder) (s : State) : State :=
  let s := postContactor f .uncommandedOpen s
  let s := match s.chs.claim with
    | some c => if c.origin = .changeover then failClaim .aborted .uncommandedOpen s else endClaim .aborted s
    | none => s
  enterDark s

/-- A feeder closed by hand in DARK or during a return claim (R112). -/
def closedByHand (f : Feeder) (s : State) : State := enterSettled f true (endClaim .aborted s)

/-- A change of filtered position at the board (R112, R121, R123, R124). -/
def positionChange (f : Feeder) (level : Bool) (s : State) : State :=
  if !s.boardWorks then s
  else if s.closed .a ∧ s.closed .b then feedbackConflict s
  else match s.chs.state, s.chs.claim, level with
    | .opening, some c, false => if f = (otherFeeder c.target) then enterDead s else s
    | .closing, some c, true => if f = c.target then closure c s else s
    | .fallback, some c, true => if f = (otherFeeder c.target) then fallbackDone c s else s
    | .claiming, some c, false =>
      if c.origin = .changeover ∧ s.chs.active = some f then uncommandedOpen f s else s
    | .claiming, some c, true => if c.origin = .fromDark then closedByHand f s else s
    | .settled, _, false => if s.chs.active = some f then uncommandedOpen f s else s
    | .topupClaiming, _, false => if s.chs.active = some f then uncommandedOpen f s else s
    | .dark, _, true => closedByHand f s
    | _, _, _ => s

/-! ### Samples (R114, R130) -/

/-- A loss watch after a sample (R114). -/
def lossWatchAfter (live : Bool) (now : Nat) (r : FeederRec) : FeederRec :=
  { r with lossWatch := if live then none else some (r.lossWatch.getD ⟨now, false⟩) }

/-- A return watch after a sample in DARK (R130). -/
def returnWatchAfter (live : Bool) (now : Nat) (r : FeederRec) : FeederRec :=
  if r.faulty then r else { r with returnWatch := if live then some (r.returnWatch.getD now) else none }

/-- The snapshot is replaced at this sample (R114). -/
def snapshotDue (s : State) : Bool :=
  (decide (s.chs.state = .settled) || decide (s.chs.state = .topupClaiming))
    && (match s.chs.active with
      | some f => s.live f
      | none => false)

/-- The board's work on a sample (R114, R130). -/
def boardSample (s : State) : State :=
  if !s.boardWorks then s
  else
    let s := if snapshotDue s then
        s.withChs { s.chs with snapLoad := s.fpc.sample.p, snapPowers := s.fpc.sample.powers }
      else s
    let s := if s.chs.state = .isolated then s else
      changeFeeder .a (lossWatchAfter (s.live .a) s.now) (changeFeeder .b (lossWatchAfter (s.live .b) s.now) s)
    if s.chs.state = .dark then
      changeFeeder .a (returnWatchAfter (s.live .a) s.now)
        (changeFeeder .b (returnWatchAfter (s.live .b) s.now) s)
    else s

/-! ### COMMIT and resets (R134, R135) -/

/-- The sequencer at COMMIT in the BOARD role (R134). -/
def deriveBoard (c : ConfigRecord) (s : State) : State :=
  let x := s.chs.stopTimers
  let s := s.withChs { x with
    claim := none
    feederA := { x.feederA with group := c.groupA }
    feederB := { x.feederB with group := c.groupB } }
  let settle (f : Feeder) (s : State) : State :=
    let s := startTopup (s.withChs { s.chs with state := .settled, active := some f, billing := some f })
    if s.live f then s
    else changeFeeder f (fun r => { r with lossWatch := some ⟨s.now, false⟩ }) s
  match s.closed .a, s.closed .b with
  | true, false => settle .a s
  | false, true => settle .b s
  | false, false => s.withChs { s.chs with state := .dark, active := none, billing := none }
  | true, true => enterIsolated .commit (reportFault .feedbackConflict [byte s.eventId] s)

/-- The sequencer after a soft reset (R135). -/
def Chs.softReset (c : Chs) : Chs := { c.stopTimers with claim := none }

/-! ### The commands -/

/-- The class of a CHANGEOVER is taken where the board may move (R119). -/
def mayChange (s : State) : Option Feeder :=
  match s.chs.state, s.chs.active with
  | .settled, some f => if usable (otherFeeder f) s then some (otherFeeder f) else none
  | _, _ => none

/-- CHANGEOVER (R119). -/
def execChangeover (tag cls : Byte) (s : State) : Host.Outcome State Fault Refusal :=
  .next (gated (some .board) [.run] tag (fun s =>
    if 7 < cls.toNat then badField tag 0 s
    else match mayChange s with
      | none => refuse tag .state s
      | some t =>
        let kw := requestedKw s.chs.snapLoad s.cfg.margin
        let s := setBoard .claiming (makeClaim t .planned cls.toNat .changeover kw s)
        respond tag .ok (byte s.chs.serial :: be16 kw) s) s)

/-- CANCEL_CHANGEOVER (R120). -/
def execCancelChangeover (tag : Byte) (s : State) : Host.Outcome State Fault Refusal :=
  .next (gated (some .board) [.run, .mute] tag (fun s =>
    match s.chs.state, s.chs.claim with
    | .claiming, some c =>
      if c.origin = .changeover then
        respond tag .ok [] (enterSettled (otherFeeder c.target) false (failClaim .aborted .cancelled s))
      else refuse tag .state s
    | _, _ => refuse tag .state s) s)

/-- The deadline of the claim being collected has come. -/
def claimDue (s : State) : Option ClaimRec :=
  if s.boardWorks then
    s.chs.claim.filter fun c => c.confirmed.isNone && decide (c.deadline ≤ s.now)
  else none

/-- CLAIM_DEADLINE (R120, R126, R129, R130). -/
def execClaimDeadline (s : State) : Host.Outcome State Fault Refusal :=
  .next (match claimDue s with
    | none => s
    | some c => match c.origin with
      | .changeover => enterSettled (otherFeeder c.target) false (failClaim .aborted .short s)
      | .topup => enterSettled c.target false (endClaim .aborted s)
      | .loss | .fromDark => confirmClaim c s)

/-- A planned claim becomes forced (R125). Its class stays the CHANGEOVER's (log entry 46). -/
def convertClaim (c : ClaimRec) (f : Feeder) (s : State) : State :=
  let s := pulseOpen f s
  s.withChs { s.chs with
    active := none
    claim := some { c with kind := .forced, origin := .loss
                           deadline := min c.deadline (s.now + collectionTime .forced) } }

/-- A feeder's confirmed loss acts on the board state (R120, R125, R126, R130). -/
def sourceLost (f : Feeder) (s : State) : State :=
  match s.chs.state, s.chs.claim with
  | .settled, _ => if s.chs.active = some f then forcedChangeover f s else s
  | .topupClaiming, _ => if s.chs.active = some f then forcedChangeover f (endClaim .aborted s) else s
  | .claiming, some c =>
    if c.target = f then
      let s := failClaim .aborted .sourceLost s
      if c.origin = .changeover then enterSettled (otherFeeder f) false s else enterDark s
    else if c.origin = .changeover then convertClaim c f s
    else s
  | _, _ => s

/-- A feeder's loss watch has run and its moment has not been taken (R114). -/
def lossDue (f : Feeder) (s : State) : Bool :=
  s.boardWorks && lossConfirmed f s && (match (s.chs.feeder f).lossWatch with
    | some w => !w.taken
    | none => false)

/-- SOURCE_LOSS_CONFIRMED (R114). -/
def execSourceLossConfirmed (feeder : Feeder) (s : State) : Host.Outcome State Fault Refusal :=
  .next (if lossDue feeder s then
      sourceLost feeder (changeFeeder feeder (fun r =>
        { r with lossWatch := r.lossWatch.map fun w => { w with taken := true } }) s)
    else s)

/-- The open limit has ended, in a node state in which the sequencer runs. -/
def openLimitDue (s : State) : Option Feeder :=
  match s.chs.openLimit with
  | some l => if s.boardWorks ∧ l.deadline ≤ s.now then some l.feeder else none
  | none => none

/-- The open limit passes with its feeder still CLOSED (R121, R126, R130). -/
def openLimitPassed (f : Feeder) (s : State) : State :=
  match s.chs.state, s.chs.claim with
  | .opening, some c =>
    if c.origin = .changeover then
      enterSettled f false (failClaim .failed .openFail (contactorTimeout f .openTimeout s))
    else welded f s
  | .claiming, some c => if c.origin = .changeover then s else welded f s
  | .dark, _ => welded f s
  | _, _ => s

/-- OPEN_LIMIT (R121, R126, R130). -/
def execOpenLimit (s : State) : Host.Outcome State Fault Refusal :=
  .next (match openLimitDue s with
    | none => s
    | some f =>
      let s := s.withChs { s.chs with openLimit := none }
      if s.closed f then openLimitPassed f s else s)

/-- DEAD_TIME_END (R122). -/
def execDeadTimeEnd (s : State) : Host.Outcome State Fault Refusal :=
  .next (if s.boardWorks && reached s.now s.chs.deadTimer then
      let s := s.withChs { s.chs with deadTimer := none }
      match s.chs.state, s.chs.claim with
      | .dead, some c =>
        if !s.live c.target then enterFallback .targetDead c s
        else if (s.chs.feeder c.target).faulty then enterFallback .closeFail c s
        else enterClosing c s
      | _, _ => s
    else s)

/-- The close limit passes in CLOSING (R123). -/
def closeFailed (c : ClaimRec) (s : State) : State :=
  let s := contactorTimeout c.target .closeTimeout s
  match c.oldFeeder with
  | some _ => enterFallback .closeFail c s
  | none => enterDark (failClaim .failed .closeFail s)

/-- CLOSE_LIMIT (R123, R124). -/
def execCloseLimit (s : State) : Host.Outcome State Fault Refusal :=
  .next (if s.boardWorks && reached s.now s.chs.closeLimit then
      let s := s.withChs { s.chs with closeLimit := none }
      match s.chs.state, s.chs.claim with
      | .closing, some c => closeFailed c s
      | .fallback, some c => fallbackFailed (contactorTimeout (otherFeeder c.target) .closeTimeout s)
      | _, _ => s
    else s)

/-- The top-up timer ends in SETTLED (R129): a claim for the lowest level, or a restart in MUTE. -/
def topUp (s : State) : State :=
  match s.chs.active, s.chs.lowestShed with
  | some f, some (_, p) =>
    if s.hpt.nodeState = .run then
      setBoard .topupClaiming (makeClaim f .topup 7 .topup (requestedKw p s.cfg.margin) s)
    else s.withChs { s.chs with topupTimer := some (s.now + topupTime) }
  | _, _ => s.withChs { s.chs with topupTimer := none }

/-- TOPUP_TIMER (R129). -/
def execTopupTimer (s : State) : Host.Outcome State Fault Refusal :=
  .next (if s.boardWorks && reached s.now s.chs.topupTimer && decide (s.chs.state = .settled) then topUp s
    else s)

/-- A feeder's return watch has been set for the return confirm time (R130). -/
def returnDue (f : Feeder) (s : State) : Bool :=
  s.boardWorks && decide (s.chs.state = .dark) && !(s.chs.feeder f).faulty
    && reached s.now ((s.chs.feeder f).returnWatch.map (· + s.cfg.returnConfirm * second))

/-- A return from DARK begins (R130); in MUTE its collection ends at once (R127). -/
def beginReturn (f : Feeder) (s : State) : State :=
  let s := s.withChs s.chs.clearReturns
  let s := setBoard .claiming (makeClaim f .forced 0 .fromDark (requestedKw s.chs.snapLoad s.cfg.margin) s)
  match s.chs.claim with
  | some c => if s.hpt.nodeState = .mute then confirmClaim c s else s
  | none => s

/-- RETURN_CONFIRMED (R130). -/
def execReturnConfirmed (feeder : Feeder) (s : State) : Host.Outcome State Fault Refusal :=
  .next (if returnDue feeder s then beginReturn feeder s else s)

/-- RESTORE taken (R131): DARK, and on to SETTLED where one feeder reads CLOSED. -/
def restore (f : Feeder) (s : State) : State :=
  let s := enterDark (changeFeeder f (fun r => { r with faulty := false }) s)
  if s.closed .a then enterSettled .a true s
  else if s.closed .b then enterSettled .b true s
  else s

/-- RESTORE (R131). -/
def execRestore (tag feeder : Byte) (s : State) : Host.Outcome State Fault Refusal :=
  .next (gated (some .board) [.run, .mute] tag (fun s => match feederOf feeder with
    | none => badField tag 0 s
    | some f =>
      if s.chs.state = .isolated ∧ !(s.closed .a && s.closed .b) then respond tag .ok [] (restore f s)
      else refuse tag .state s) s)

/-- CLEAR_FEEDER (R132). -/
def execClearFeeder (tag feeder : Byte) (s : State) : Host.Outcome State Fault Refusal :=
  .next (gated (some .board) [.run, .mute] tag (fun s => match feederOf feeder with
    | none => badField tag 0 s
    | some f =>
      if s.chs.state = .settled ∨ s.chs.state = .dark then
        respond tag .ok [] (changeFeeder f (fun r => { r with faulty := false }) s)
      else refuse tag .state s) s)

end Sys2Proof.Machine
end

