-- ==== Sys2Proof/Machine/FieldPort.lean ====
section
/-! DEFINITION. The Field Port Controller (chapter 7): the poll and its answer, good answers and misses,
the delivery of the sample, the feedback filters, the flow pulses and the ends of contactor pulses. -/

namespace Sys2Proof.Machine

/-! ### The sample record (R138, R207) -/

/-- The bytes of an answer (R207). -/
abbrev answerLength : Nat := 109

/-- The number in `width` bytes at an offset. -/
def fieldAt (bytes : List Byte) (offset width : Nat) : Nat := ofBytes ((bytes.drop offset).take width)

/-- The sequence of an answer (R207). -/
def answerSeq (bytes : List Byte) : Nat := fieldAt bytes 0 1

/-- The checks of R137 on an answer's bytes. -/
def answerGood (lastSeq : Option Nat) (bytes : List Byte) : Bool :=
  decide (bytes.length = answerLength) && decide (byteSum bytes = 0) && decide (lastSeq ≠ some (answerSeq bytes))

/-! ### Good answers (R139, R142) -/

/-- The answer's energy settled against an estimate balance (R139): the delivered energy and the balance
left. -/
def settleBalance (gapOne : Bool) (balance energy : Nat) : Nat × Nat :=
  if gapOne then (energy - balance, balance - energy) else (energy, 0)

/-- The gap is 1 (R139). -/
def gapIsOne (lastSeq : Option Nat) (seq : Nat) : Bool :=
  match lastSeq with
  | none => false
  | some l => decide ((seq + 256 - l) % 256 = 1)

/-- Any balance, of a channel or of the set, is above 0. -/
def Fpc.anyBalance (f : Fpc) : Bool := f.channels.any (fun e => decide (0 < e.balance)) || decide (0 < f.set.balance)

/-- The held sample a good answer gives (R138, R139). The check byte stays as received where settlement changes
the energies (log entry 43). -/
def answerSample (f : Fpc) (bytes : List Byte) : Sample :=
  let one := gapIsOne f.lastSeq (answerSeq bytes)
  let energy i := fieldAt bytes (35 + 4 * i) 4
  { seq := answerSeq bytes
    p := fieldAt bytes 1 2
    powers := (List.range 16).map fun i => fieldAt bytes (3 + 2 * i) 2
    energies := (List.range 16).map fun i => (settleBalance one (nth ⟨0, 0⟩ f.channels i).balance (energy i)).1
    setEnergy := (settleBalance one f.set.balance (fieldAt bytes 99 4)).1
    tank := fieldAt bytes 103 4
    liveA := (byte (fieldAt bytes 107 1)).getLsbD 0
    liveB := (byte (fieldAt bytes 107 1)).getLsbD 1
    check := byte (fieldAt bytes 108 1)
    answered := true
    estimated := f.anyBalance
    lostMark := false }

/-- The controller's own state after a good answer, but for LOST (R139). -/
def Fpc.goodAnswer (f : Fpc) (bytes : List Byte) : Fpc :=
  let one := gapIsOne f.lastSeq (answerSeq bytes)
  let sample := answerSample f bytes
  { f with
    sample := sample
    channels := (List.range 16).map fun i =>
      ⟨0, (settleBalance one (nth ⟨0, 0⟩ f.channels i).balance (fieldAt bytes (35 + 4 * i) 4)).2⟩
    set := ⟨0, (settleBalance one f.set.balance (fieldAt bytes 99 4)).2⟩
    setTotal := add64 f.setTotal sample.setEnergy
    lastSeq := some (answerSeq bytes)
    missCount := 0
    answers := sat32 (f.answers + 1) }

/-- A good answer (R139), and the end of LOST with its event, whose value is the number of polls since entry
to LOST, the answered one included (R142, R198; log entry 24). -/
def goodAnswer (bytes : List Byte) (s : State) : State :=
  let was := s.fpc.lost
  let polls := s.fpc.lostPolls + 1
  let s := s.withFpc { s.fpc.goodAnswer bytes with lost := false, lostPolls := 0 }
  if was then postEvent .frontEndBack (.node s.eventId) (fit32 polls) 0 s else s

/-! ### Misses (R140, R141) -/

/-- One second's estimate at a held power (R140): the delivered energy, and the carry and balance left. -/
def estimate (power : Nat) (e : Estimate) : Nat × Estimate :=
  let c := e.carry + power
  (c / 36, ⟨c % 36, sat32 (e.balance + c / 36)⟩)

/-- The energies of a miss while NORMAL (R140). -/
def Fpc.estimated (f : Fpc) : Fpc :=
  let each i := estimate (nth 0 f.sample.powers i) (nth ⟨0, 0⟩ f.channels i)
  let set := estimate f.sample.p f.set
  { f with
    sample := { f.sample with energies := (List.range 16).map fun i => (each i).1, setEnergy := set.1 }
    channels := (List.range 16).map fun i => (each i).2
    set := set.2
    setTotal := add64 f.setTotal set.1 }

/-- The energies of a miss while LOST (R140). -/
def Fpc.silent (f : Fpc) : Fpc :=
  { f with
    sample := { f.sample with energies := List.replicate 16 0, setEnergy := 0 }
    lostPolls := f.lostPolls + 1 }

/-- A miss of a kind with its answer bytes (R140, R141). The held sample keeps the sequence and the check byte of
the last good answer (log entry 43). -/
def miss (kind : FaultKind) (bytes : List Byte) (s : State) : State :=
  let lost := s.fpc.lost
  let s := s.withFpc { s.fpc with missCount := min (s.fpc.missCount + 1) 5, misses := sat32 (s.fpc.misses + 1) }
  let s := if lost then s else reportFault kind (byte s.eventId :: bytes.take 7) s
  let s := s.withFpc (if lost then s.fpc.silent else s.fpc.estimated)
  let enters := !lost && decide (s.fpc.missCount = 5)
  let s := if enters then
      postEvent .frontEndLost (.node s.eventId) 0 kind.code (s.withFpc { s.fpc with lost := true, lostPolls := 0 })
    else s
  s.withFpc { s.fpc with sample := { s.fpc.sample with
    answered := false, estimated := true, lostMark := s.fpc.lost } }

/-! ### The delivery of the sample (R143) -/

/-- The held sample delivered, in the order of R143's table, the pledges after the fuel and the metering
after the pledges as it requires. -/
def deliverSample (s : State) : State :=
  chargeSample (boardSample (groupCheck false (pledgeSample (fuelSample s))))

/-- The handling of a poll ends: the window closes and the sample is delivered (R136, R143). -/
def endPoll (s : State) : State := deliverSample (s.withFpc { s.fpc with window := none })

/-- An answer clocked in to its end is checked (R137). -/
def takeAnswer (bytes : List Byte) (s : State) : State :=
  endPoll (if answerGood s.fpc.lastSeq bytes then goodAnswer bytes s else miss .feBadCheck bytes s)

/-- Ready rises (R136): the answer is clocked in, to its end or in part; outside a window it is ignored. -/
def readyRises (bytes : List Byte) (ended : Bool) (s : State) : State :=
  match s.fpc.window with
  | none => s
  | some w =>
    let got := bytes.take answerLength
    match w.clocked with
    | some _ => s
    | none =>
      if ended || decide (got.length = answerLength) then takeAnswer got s
      else s.withFpc { s.fpc with window := some { w with clocked := some got } }

/-- The rest of an answer is clocked in (R207). -/
def clockedIn (bytes : List Byte) (s : State) : State :=
  match s.fpc.window with
  | none => s
  | some w => match w.clocked with
    | none => s
    | some l => takeAnswer ((l ++ bytes).take answerLength) s

/-- The window closes (R136): without ready, or with the answer incomplete (R207). -/
def closeWindow (s : State) : State :=
  match s.fpc.window with
  | none => s
  | some w =>
    if s.now < w.closeAt then s
    else endPoll (match w.clocked with
      | none => miss .feNoAnswer [] s
      | some l => miss .feBadCheck l s)

/-! ### Feedback filters (R144, R145) -/

/-- The filter of a line. -/
def Fpc.filter (f : Fpc) : FieldLine → Filter
  | .feederA => f.feederA | .feederB => f.feederB | .running => f.running
  | .breakerClosed => f.breaker | .setFault => f.setFault

/-- The filter of a line replaced. -/
def Fpc.setFilter (f : Fpc) (line : FieldLine) (x : Filter) : Fpc :=
  match line with
  | .feederA => { f with feederA := x }
  | .feederB => { f with feederB := x }
  | .running => { f with running := x }
  | .breakerClosed => { f with breaker := x }
  | .setFault => { f with setFault := x }

/-- A raw level reaches a filter (R144): the count runs while it differs from the filtered level. -/
def Filter.rawChange (x : Filter) (level : Bool) (now : Nat) : Filter :=
  if x.raw = level then x
  else { x with raw := level, since := if level = x.level then none else some now }

/-- A filter's count has reached the filter time (R144). -/
def Filter.stable (x : Filter) (filterTime now : Nat) : Bool :=
  reached now (x.since.map (· + filterTime * millisecond))

/-- A change of filtered level at the block that reads the line (R144, R145). -/
def levelEvent (line : FieldLine) (level : Bool) (s : State) : State :=
  match line with
  | .feederA => positionChange .a level s
  | .feederB => positionChange .b level s
  | .running => if s.gensetWorks then runningChange level s else s
  | .breakerClosed => if s.gensetWorks then breakerChange level s else s
  | .setFault => if s.gensetWorks then setFaultChange level s else s

/-- FILTERED_LEVEL_CHANGE (R144). -/
def filteredChange (line : FieldLine) (s : State) : State :=
  let x := s.fpc.filter line
  if x.stable s.fpc.filterTime s.now then
    levelEvent line x.raw (s.withFpc (s.fpc.setFilter line { x with level := x.raw, since := none }))
  else s

/-- The filter time of a COMMIT: a running count starts again (R144). -/
def filterCommit (ms : Nat) (s : State) : State :=
  let again (x : Filter) : Filter := { x with since := x.since.map fun _ => s.now }
  let f := s.fpc
  s.withFpc { f with
    filterTime := ms, feederA := again f.feederA, feederB := again f.feederB, running := again f.running
    breaker := again f.breaker, setFault := again f.setFault }

/-! ### Flow pulses (R146) -/

/-- A pulse that is counted (R146): the total, then the fuel unit or the held count. -/
def countPulse (s : State) : State :=
  let s := s.withFpc { s.fpc with pulses := (s.fpc.pulses + 1) % 2 ^ 32 }
  if s.fau.copy.isSome then fuelPulse s
  else s.withFpc { s.fpc with heldPulses := sat32 (s.fpc.heldPulses + 1) }

/-! ### The commands -/

/-- POLL (R136): the request goes out and the answer window of 100 ms opens. -/
def execPoll (s : State) : Host.Outcome State Fault Refusal :=
  .next (if s.now < s.fpc.nextPoll then s
    else s.withFpc { s.fpc with
      nextPoll := s.fpc.nextPoll + second
      window := some ⟨pollRequest, s.now + 100 * millisecond, none⟩ })

/-- FRONT_END_ANSWER (R136, R137). -/
def execFrontEndAnswer (bytes : List Byte) (ended : Bool) (s : State) : Host.Outcome State Fault Refusal :=
  .next (readyRises bytes ended s)

/-- ANSWER_CLOCKED_IN (R207). -/
def execAnswerClockedIn (bytes : List Byte) (s : State) : Host.Outcome State Fault Refusal :=
  .next (clockedIn bytes s)

/-- ANSWER_WINDOW_CLOSE (R136). -/
def execAnswerWindowClose (s : State) : Host.Outcome State Fault Refusal := .next (closeWindow s)

/-- FLOW_PULSE (R146): counted where both levels lasted at least 40 µs. -/
def execFlowPulse (lowUs highUs : Nat) (s : State) : Host.Outcome State Fault Refusal :=
  .next (if 40 ≤ lowUs ∧ 40 ≤ highUs then countPulse s else s)

/-- RAW_LEVEL_CHANGE (R144). -/
def execRawLevelChange (line : FieldLine) (level : Bool) (s : State) : Host.Outcome State Fault Refusal :=
  .next (s.withFpc (s.fpc.setFilter line ((s.fpc.filter line).rawChange level s.now)))

/-- FILTERED_LEVEL_CHANGE (R144). -/
def execFilteredLevelChange (line : FieldLine) (s : State) : Host.Outcome State Fault Refusal :=
  .next (filteredChange line s)

/-- The pulse to a feeder. -/
def Fpc.pulse (f : Fpc) : Feeder → Option Pulse
  | .a => f.pulseA
  | .b => f.pulseB

/-- The pulse to a feeder has run its 200 ms (R148). -/
def Fpc.pulseOver (f : Fpc) (x : Feeder) (now : Nat) : Bool := reached now ((f.pulse x).map (·.endAt))

/-- The pulse to a feeder ended: both its lines inactive (R148). -/
def Fpc.dropPulse (f : Fpc) : Feeder → Fpc
  | .a => { f with pulseA := none }
  | .b => { f with pulseB := none }

/-- PULSE_END (R148). -/
def execPulseEnd (feeder : Feeder) (s : State) : Host.Outcome State Fault Refusal :=
  .next (if s.fpc.pulseOver feeder s.now then s.withFpc (s.fpc.dropPulse feeder) else s)

end Sys2Proof.Machine
end

