-- ==== Sys2Proof/Machine/Reception.lean ====
section
/-! DEFINITION. What comes of a received frame (R5 to R7): the Peer View Table's records (R29 to R38), the
peer-gone notice, a CLAIM at the Pledge Unit (R91), the other deliveries, and the entry to MUTE. -/

namespace Sys2Proof.Machine

/-! ### Peer records (R29, R33) -/

/-- A peer's run tag (R29). -/
def StatusBody.runTag : StatusBody → Nat
  | .genset g => g.runTag
  | .board b => b.runTag

/-- A peer's role (R29). -/
def StatusBody.role : StatusBody → Role
  | .genset _ => .genset
  | .board _ => .board

/-- Site time in milliseconds, as the peer view counts it. -/
def State.stamp (s : State) : Int := (s.siteMillis : Int)

/-- The record of a node, if the view holds one. -/
def Pvt.peer (v : Pvt) (node : Nat) : Option Peer := v.peers.find? fun p => p.node == node

/-- The record of a node replaced by a function of itself. -/
def changePeer (node : Nat) (f : Peer → Peer) (s : State) : State :=
  s.withPvt { s.pvt with peers := s.pvt.peers.map fun p => if p.node = node then f p else p }

/-- A refresh of a record at a stamp (R33). -/
def Peer.refreshed (stamp : Int) (p : Peer) : Peer :=
  match p.freshness with
  | .lost => p
  | _ => { p with lastHeard := stamp, freshness := .fresh }

/-- A refresh of a sender's last-heard time (R33). -/
def refreshPeer (node : Nat) (s : State) : State := changePeer node (Peer.refreshed s.stamp) s

/-- The peer-gone notice (R35): to the Pledge Unit or the Changeover Sequencer, in CONFIG to neither. -/
def peerGone (node : Nat) (s : State) : State :=
  if s.gensetWorks then pledgePeerGone node s
  else if s.boardWorks then boardPeerGone node s
  else s

/-- The age of a record in milliseconds (R29). -/
def Peer.age (p : Peer) (stamp : Int) : Int := stamp - p.lastHeard

/-- A record's limit in milliseconds, `n` times the freshness base (R29). -/
def Pvt.limit (v : Pvt) (n : Nat) : Int := (n * v.base * 1000 : Nat)

/-- Entry to LOST (R29): lost-since, the event, the overflow flag (R32), and the notice. -/
def losePeer (node : Nat) (s : State) : State :=
  let s := changePeer node (fun p => { p with freshness := .lost, lostSince := some s.stamp }) s
  let s := s.withPvt { s.pvt with overflowReported := false }
  peerGone node (postEvent .peerLost (.node node) 0 0 s)

/-- PEER_STALE (R29): a FRESH record whose age has reached 3S. -/
def peerStale (node : Nat) (s : State) : State :=
  match s.pvt.peer node with
  | some p =>
    if p.freshness = .fresh ∧ s.pvt.limit 3 ≤ p.age s.stamp then
      changePeer node (fun p => { p with freshness := .stale }) s
    else s
  | none => s

/-- PEER_LOST (R29): a STALE record whose age has reached 10S. -/
def peerLost (node : Nat) (s : State) : State :=
  match s.pvt.peer node with
  | some p => if p.freshness = .stale ∧ s.pvt.limit 10 ≤ p.age s.stamp then losePeer node s else s
  | none => s

/-- A record has been LOST for 60S (R29). -/
def Pvt.removalDue (v : Pvt) (stamp : Int) (p : Peer) : Bool :=
  match p.freshness, p.lostSince with
  | .lost, some t => decide (v.limit 60 ≤ stamp - t)
  | _, _ => false

/-- PEER_REMOVED (R29). -/
def peerRemoved (node : Nat) (s : State) : State :=
  match s.pvt.peer node with
  | some p =>
    if s.pvt.removalDue s.stamp p then
      s.withPvt { s.pvt with peers := s.pvt.peers.filter fun p => p.node != node, overflowReported := false }
    else s
  | none => s

/-! ### A STATUS at the peer view (R30 to R32, R34) -/

/-- Event PEER_NEW: NEW 0, RETURNED 1 (R198). -/
def postPeerNew (node : Nat) (b : StatusBody) (returned : Bool) (s : State) : State :=
  postEvent .peerNew (.node node) (pair16 b.role.code b.runTag) (if returned then 1 else 0) s

/-- The record a STATUS makes or rebuilds: FRESH, at the refresh stamp (R30 to R32). -/
def freshPeer (node : Nat) (b : StatusBody) (stamp : Int) : Peer := ⟨node, stamp, b, .fresh, none⟩

/-- The LOST record that gives way to a newcomer: earliest lost-since, then lower node id (R32). -/
def oldestLost : List Peer → Option Peer
  | [] => none
  | p :: ps =>
    match p.freshness, p.lostSince, oldestLost ps with
    | .lost, some _, none => some p
    | .lost, some t, some q =>
      match q.lostSince with
      | some u => if t < u ∨ (t = u ∧ p.node < q.node) then some p else some q
      | none => some p
    | _, _, r => r

/-- A STATUS from a node without a record (R32). -/
def newPeer (node : Nat) (b : StatusBody) (s : State) : State :=
  let p := freshPeer node b s.stamp
  if s.pvt.peers.length < 32 then
    postPeerNew node b false (s.withPvt { s.pvt with peers := s.pvt.peers ++ [p] })
  else match oldestLost s.pvt.peers with
    | some q =>
      postPeerNew node b false (s.withPvt { s.pvt with
        peers := s.pvt.peers.map fun x => if x.node = q.node then p else x })
    | none =>
      if s.pvt.overflowReported then s
      else postEvent .peerOverflow (.node node) 0 0 (s.withPvt { s.pvt with overflowReported := true })

/-- A STATUS from another node (R30 to R32). -/
def takeStatus (node : Nat) (b : StatusBody) (s : State) : State :=
  match s.pvt.peer node with
  | none => newPeer node b s
  | some p =>
    let rebuild (s : State) : State := changePeer node (fun _ => freshPeer node b s.stamp) s
    if p.status.runTag = b.runTag ∧ p.status.role = b.role then
      if p.freshness = .lost then postPeerNew node b true (rebuild s) else rebuild s
    else
      let s := postEvent .peerRestart (.node node) (pair16 p.status.runTag b.runTag) 0 s
      rebuild (peerGone node s)

/-- Entry to MUTE (R18, R28, R88, R120): the queue emptied, a due extra cancelled, no headroom, and a
planned claim ended. -/
def enterMute (s : State) : State :=
  let s := s.withHpt { s.hpt with nodeState := .mute }
  let s := s.withSlc s.slc.emptied
  let s := s.withPvt { s.pvt with extraDue := false }
  let s := refreshHeadroom s
  if s.boardWorks then muteBoard s else s

/-- A STATUS carrying the own id (R34). -/
def duplicateId (capture : List Byte) (s : State) : State :=
  if s.hpt.nodeState = .run then
    enterMute (postEvent .dupId (.node s.eventId) 0 0 (reportFault .dupId capture s))
  else s

/-! ### A CLAIM at the Pledge Unit (R91) -/

/-- The time a claim of a kind waits (R91). -/
def waitTime : ClaimKind → Nat
  | .forced => 1500 * millisecond
  | _ => 4 * second

/-- The listing of a CLAIM for the node's group (R91). -/
def listClaim (c : ClaimId) (group : Nat) (kind : ClaimKind) (cls kw : Nat) (s : State) : State :=
  if kw = 0 ∨ s.plu.waits.any (fun w => decide (w.claim = c)) ∨ (s.plu.entry c).isSome then s
  else if 8 ≤ s.plu.waits.length then postEvent .claimOverflow (.claim c) kw kind.code s
  else settlePledges (s.withPlu { s.plu with waits := s.plu.waits ++
    [⟨c, group, kind, cls, kw, kw, s.siteSec, s.siteMs, s.now + waitTime kind⟩] })

/-- A valid CLAIM (R91): a claim notice, then the listing. -/
def takeClaim (c : ClaimId) (group : Nat) (kind : ClaimKind) (cls kw : Nat) (s : State) : State :=
  if group = s.cfg.groupA then listClaim c group kind cls kw (groupCheck true s) else s

/-! ### Delivery (R7) -/

/-- A valid bulletin other than STATUS at its block (R7). -/
def deliverOther (src : Nat) (b : Bulletin) (capture : List Byte) (s : State) : State :=
  match b with
  | .status _ => s
  | .intent group kind key _ => takeIntent src group kind key s
  | .claim serial group kind cls kw => if s.gensetWorks then takeClaim ⟨src, serial⟩ group kind cls kw s else s
  | .confirm serial entries => if s.gensetWorks then takeConfirm ⟨src, serial⟩ entries capture s else s
  | .release serial why => if s.gensetWorks then takeRelease ⟨src, serial⟩ why s else s
  | .pledge board serial kw => takePledge src board serial kw s
  | .revoke board serial revoked remaining => takeRevoke src board serial revoked remaining s

/-- A valid bulletin (R7): a STATUS to the peer view, any other as a refresh (R33) and then to its block
(log entry 40). -/
def deliver (src : Nat) (b : Bulletin) (capture : List Byte) (s : State) : State :=
  match b with
  | .status body => if s.hpt.ownId = some src then duplicateId capture s else takeStatus src body s
  | _ => deliverOther src b capture (refreshPeer src s)

/-- The receiver and the bus once a frame is complete (R1, R4). -/
def frameEnded (lineIdle : Bool) (s : State) : State :=
  let c := { s.slc with rx := .waiting }
  s.withSlc (if lineIdle then c.becomeIdle s.now else c)

/-- FRAME_RECEIVED (R5, R6): own frames are neither checked nor delivered. -/
def frameReceived (rest : List Byte) (lineIdle : Bool) (s : State) : State :=
  match s.slc.rx with
  | .frame own src kind len =>
    if rest.length = len.toNat + 2 then
      let s := frameEnded lineIdle s
      let payload := rest.take len.toNat
      let capture := [src, kind, len] ++ padTo 5 payload
      if own then s
      else match checkFrame src kind len payload (rest.drop len.toNat) with
        | .dropped k => reportFault k capture s
        | .valid b => deliver src.toNat b capture s
    else s
  | _ => s

/-! ### The peer view at COMMIT, resets and SET_TIME (R36, R37) -/

/-- One record recomputed from its age with the new base (R37). -/
def recomputePeer (node : Nat) (s : State) : State :=
  match s.pvt.peer node with
  | none => s
  | some p =>
    if p.freshness = .lost then s
    else
      let age := p.age s.stamp
      if age < s.pvt.limit 3 then changePeer node (fun p => { p with freshness := .fresh }) s
      else if age < s.pvt.limit 10 then changePeer node (fun p => { p with freshness := .stale }) s
      else losePeer node s

/-- The record carrying the newly committed own id is removed (R37). -/
def removeOwn (ownId : Nat) (v : Pvt) : Pvt :=
  if v.peers.any (fun p => p.node == ownId) then
    { v with peers := v.peers.filter fun p => p.node != ownId, overflowReported := false }
  else v

/-- The peer view at COMMIT, the node being in RUN (R27, R37): the base, the records in ascending node
order, the STATUS and its timer. -/
def peerCommit (period ownId : Nat) (s : State) : State :=
  let s := s.withPvt { removeOwn ownId s.pvt with base := period, lastHeadroom := s.plu.headroom }
  let s := (List.range 63).foldl (fun s node => recomputePeer node s) s
  let s := offerStatus s
  s.withPvt { s.pvt with statusNext := some (s.now + period * second), extraDue := false }

/-- The peer view after a soft reset (R37). -/
def Pvt.softReset (v : Pvt) : Pvt :=
  { v with peers := [], overflowReported := false, base := 2, statusNext := none, extraDue := false }

/-- Every last-heard and lost-since time moved by an amount (R36). -/
def Pvt.moved (v : Pvt) (delta : Int) : Pvt :=
  { v with peers := v.peers.map fun p =>
      { p with lastHeard := p.lastHeard + delta, lostSince := p.lostSince.map (· + delta) } }

/-! ### READ_PEERS (R38) -/

/-- The copy of the STATUS fields, each encoded under R208, but for role and run tag, which the record gives
once, before its freshness (R38; log entry 7). -/
def StatusBody.bytes : StatusBody → List Byte
  | .genset g =>
    [byte g.group, byte g.setState.code, mask8 [g.auto, g.refuelWanted, g.diverge, g.frontEndLost]]
      ++ be16 g.p ++ be16 g.r ++ be16 g.headroom ++ be16 g.held ++ be16 g.ci ++ be16 g.minutes
  | .board b =>
    [byte b.groupA, byte b.groupB, byte b.boardState.code, byte (feederSelCode b.active),
      mask8 [b.capacityShed, b.frontEndLost]] ++ be16 b.load ++ [byte b.serial]

/-- A number of milliseconds in four bytes, 0 where it is not above 0. -/
def milliBytes (d : Int) : List Byte := be32 (fit32 d.toNat)

/-- A record as READ_PEERS returns it (R38). -/
def Peer.bytes (stamp : Int) (p : Peer) : List Byte :=
  [byte p.node, byte p.status.role.code] ++ be16 p.status.runTag ++ [byte p.freshness.code]
    ++ milliBytes (p.age stamp) ++ p.status.bytes
    ++ optional 4 (p.lostSince.map fun t => milliBytes (stamp - t))

/-- The first four records from a node id on, in ascending order of node id (R38). -/
def peersFrom (node : Nat) (v : Pvt) : List Peer :=
  (((List.range 63).filter fun n => decide (node ≤ n)).filterMap v.peer).take 4

/-- The body of a READ_PEERS response (R38). -/
def peersBody (node : Nat) (s : State) : List Byte :=
  byte s.pvt.peers.length :: ((peersFrom node s.pvt).map (Peer.bytes s.stamp)).flatten

/-! ### The commands -/

/-- FRAME_RECEIVED. -/
def execFrameReceived (rest : List Byte) (lineIdle : Bool) (s : State) : Host.Outcome State Fault Refusal :=
  .next (frameReceived rest lineIdle s)

/-- PEER_STALE. -/
def execPeerStale (node : Nat) (s : State) : Host.Outcome State Fault Refusal := .next (peerStale node s)

/-- PEER_LOST. -/
def execPeerLost (node : Nat) (s : State) : Host.Outcome State Fault Refusal := .next (peerLost node s)

/-- PEER_REMOVED. -/
def execPeerRemoved (node : Nat) (s : State) : Host.Outcome State Fault Refusal := .next (peerRemoved node s)

/-- READ_PEERS (R38). -/
def execReadPeers (tag node : Byte) (s : State) : Host.Outcome State Fault Refusal :=
  .next (gated none allStates tag (fun s =>
    if nodeInRange node then respond tag .ok (peersBody node.toNat s) s else badField tag 0 s) s)

end Sys2Proof.Machine
end

