-- ==== Sys2Proof/Machine/EventUnit.lean ====
section
/-! DEFINITION. The Event and Fault Unit's commands (chapter 11); its postings and faults stand in
Machine/Ops.lean. -/

namespace Sys2Proof.Machine

/-! ### Records on the wire -/

/-- An event record (R209). -/
def EventRec.bytes (r : EventRec) : List Byte :=
  [byte r.kind.code, byte r.subject.code.1] ++ be32 r.subject.code.2 ++ be32 r.sec ++ be16 r.ms
    ++ be32 r.value ++ be16 r.qualifier ++ be16 r.lostBefore

/-- The body of a READ_EVENTS response (R199, R209). -/
def eventsBody (e : Evf) : List Byte :=
  let recs := e.ring.take 4
  [byte e.ring.length, byte e.consumer] ++ be16 e.lost ++ [byte e.mark, byte recs.length]
    ++ (recs.map EventRec.bytes).flatten

/-- A set of fault kinds in two bytes. -/
def kindSet (m : BitVec 16) : List Byte := be16 m.toNat

/-- The body of a READ_FAULTS response (R204), the first fault's site time in whole seconds. -/
def faultsBody (e : Evf) : List Byte :=
  kindSet e.sticky ++ kindSet e.mask ++ optional 1 (e.first.kind.map fun k => [byte k.code])
    ++ be32 e.first.sec ++ e.first.capture

/-! ### Acknowledgement and faults -/

/-- ACK_EVENTS taken (R199, R200): the oldest records go, ATTN falls when none is left, and is tested. -/
def ackEvents (n : Nat) (s : State) : State :=
  if n = 0 then s
  else
    let ring := s.evf.ring.drop n
    testAttn (s.withEvf { s.evf with
      ring := ring, consumer := (s.evf.consumer + n) % 64, attn := s.evf.attn && !ring.isEmpty })

/-- The first-fault record emptied (R204). -/
def FirstFault.empty : FirstFault := ⟨none, 0, 0, List.replicate 8 0⟩

/-- CLEAR_FAULTS taken (R204). -/
def Evf.cleared (e : Evf) (kinds : BitVec 16) : Evf :=
  { e with
    sticky := e.sticky &&& ~~~kinds
    first := match e.first.kind with
      | some k => if k.inSet kinds then .empty else e.first
      | none => e.first }

/-! ### The commands -/

/-- ATTN_DELAY (R200): the oldest unread record reaches the delay. -/
def execAttnDelay (s : State) : Host.Outcome State Fault Refusal := .next (testAttn s)

/-- READ_EVENTS (R199). -/
def execReadEvents (tag : Byte) (s : State) : Host.Outcome State Fault Refusal :=
  .next (gated none allStates tag (fun s => respond tag .ok (eventsBody s.evf) s) s)

/-- ACK_EVENTS (R199). -/
def execAckEvents (tag count : Byte) (s : State) : Host.Outcome State Fault Refusal :=
  .next (gated none allStates tag (fun s =>
    if s.evf.ring.length < count.toNat then badField tag 0 s
    else
      let s := ackEvents count.toNat s
      respond tag .ok [byte s.evf.ring.length] s) s)

/-- SERVICE_MARK (R201). -/
def execServiceMark (tag mark : Byte) (s : State) : Host.Outcome State Fault Refusal :=
  .next (gated none allStates tag (fun s =>
    respond tag .ok [byte s.evf.mark] (testAttn (s.withEvf { s.evf with mark := mark.toNat }))) s)

/-- READ_FAULTS (R204). -/
def execReadFaults (tag : Byte) (s : State) : Host.Outcome State Fault Refusal :=
  .next (gated none allStates tag (fun s => respond tag .ok (faultsBody s.evf) s) s)

/-- CLEAR_FAULTS (R204). -/
def execClearFaults (tag : Byte) (kinds : Half) (s : State) : Host.Outcome State Fault Refusal :=
  .next (gated none allStates tag (fun s =>
    respond tag .ok (kindSet s.evf.sticky) (s.withEvf (s.evf.cleared kinds))) s)

/-- SET_FAULT_MASK (R204). -/
def execSetFaultMask (tag : Byte) (kinds : Half) (s : State) : Host.Outcome State Fault Refusal :=
  .next (gated none allStates tag (fun s =>
    respond tag .ok (kindSet s.evf.mask) (s.withEvf { s.evf with mask := kinds })) s)

end Sys2Proof.Machine
end

