-- ==== Sys2Proof/Machine/HostPort.lean ====
section
/-! DEFINITION. The Host Port (chapter 10): transactions, the configuration record, COMMIT, the resets,
the site clock, and READ_NODE. -/

namespace Sys2Proof.Machine

/-! ### Transactions (R183 to R186) -/

/-- What a transaction that begins now shifts out (R183, R186): a pending record while a command is in
progress, else the response buffer. -/
def beginTransaction (h : Hpt) : Transaction :=
  match h.inProgress with
  | some c => ⟨Response.bytes ⟨c.tag, .pending, []⟩, true⟩
  | none => ⟨h.response.bytes, false⟩

/-- The first `n` bytes shifted out: the record, then bytes of 0x00 (R183). -/
def shiftOut (n : Nat) (out : List Byte) : List Byte := padTo n out

/-- The checks of R185 on a command record of at least a header, and its taking (R186). -/
def takeRecord (kind tag len : Byte) (rest : List Byte) (s : State) : State :=
  let body := rest.take len.toNat
  let capture := [kind, tag, len] ++ padTo 5 body
  if rest.length < len.toNat + 1 then refuse tag .badLength s
  else if byteSum ([kind, tag, len] ++ rest.take (len.toNat + 1)) ≠ 0 then
    reportFault .hostCheck capture (refuse tag .badCheck s)
  else if !commandKnown kind.toNat then reportFault .hostUnknown capture (refuse tag .unknown s)
  else match readCommand kind.toNat tag body with
    | none => refuse tag .badLength s
    | some c => s.withHpt { s.hpt with inProgress := some ⟨tag, c⟩ }

/-- Chip select rises (R183, R185, R186). -/
def endTransaction (bytes : List Byte) (s : State) : State :=
  let t := s.hpt.transaction.getD (beginTransaction s.hpt)
  let s := s.withHpt { s.hpt with transaction := none, shifted := shiftOut bytes.length t.out }
  if t.isPending then s
  else match bytes with
    | kind :: tag :: len :: rest => takeRecord kind tag len rest s
    | _ => s

/-! ### COMMIT (R191, R192) -/

/-- The set state derived from the filtered inputs (R62). -/
def derivedSet (f : Fpc) : SetState :=
  if f.setFault.level then .faulted
  else if f.running.level then (if f.breaker.level then .online else .warming)
  else .stopped

/-- The Set Controller at COMMIT (R62). The old state that SET_STATE names is the state held before: after a
COMMIT in the BOARD role, which discards it, STOPPED (log entry 38). -/
def setCommit (c : ConfigRecord) (s : State) : State :=
  match c.role with
  | .board => (askLines (false, false) s).withSetc .reset
  | .genset =>
    let s := s.withSetc { s.setc with
      mode := c.mode, attempts := 0, startWatch := none, stopWatch := none, intentKey := none
      intentSerial := 0 }
    match derivedSet s.fpc with
    | .faulted => enterFaulted .setFault s
    | .online => enterOnline s
    | .warming => enterWarming s
    | _ => enterStopped s

/-- The Pledge Unit at COMMIT (R93, R107). -/
def pledgeCommit (c : ConfigRecord) (s : State) : State :=
  match c.role with
  | .board => s.withPlu .reset
  | .genset => s.withPlu { s.plu with
      headroom := 0, ci := 0, waits := [], pledges := [], created := 0, profileA := c.profileA
      profileB := c.profileB, active := .a, pointer := 0, formed := false }

/-- The Changeover Sequencer at COMMIT (R134), with the request of R154 in the GENSET role. -/
def boardCommit (c : ConfigRecord) (s : State) : State :=
  match c.role with
  | .genset => clearAllCapacity (s.withChs .reset)
  | .board => deriveBoard c s

/-- The run tag drawn at a COMMIT (R191). -/
def drawTag (counter : BitVec 16) (previous : Option Nat) : Nat :=
  if previous = some counter.toNat then (counter.toNat + 1) % 65536 else counter.toNat

/-- The Host Port's own part of a COMMIT (R191). -/
def identityCommit (c : ConfigRecord) (s : State) : State :=
  s.withHpt { s.hpt with
    role := some c.role, ownId := some c.nodeId, runTag := some (drawTag s.hpt.tagCounter s.hpt.runTag)
    committed := some c, edited := false }

/-- The coalescing set B at COMMIT (R201). -/
def eventCommit (c : ConfigRecord) (s : State) : State :=
  testAttn (s.withEvf { s.evf with setBCount := c.setBCount, setBDelay := c.setBDelay })

/-- A COMMIT that passes its checks: every block takes the record (R192). -/
def commitRecord (c : ConfigRecord) (s : State) : State :=
  let s := identityCommit c s
  let s := s.withSlc { s.slc with backoffGen := backoffLoad c.seed c.nodeId }
  let s := pledgeCommit c s
  let s := setCommit c s
  let s := fuelCommit c s
  let s := boardCommit c s
  let s := filterCommit c.filterTime s
  let s := billingCommit c.intervalLength s
  let s := eventCommit c s
  let s := s.withHpt { s.hpt with nodeState := .run }
  peerCommit c.statusPeriod c.nodeId s

/-- The derived state a COMMIT answers with (R191). -/
def derivedCode (c : ConfigRecord) (before after : State) : Nat :=
  match c.role with
  | .genset => (derivedSet before.fpc).code
  | .board => after.chs.state.code

/-! ### Site time (R193) -/

/-- Site time set to a number of seconds: the interval at the old time, the peer view, then the clock. -/
def setSiteTime (newSec : Nat) (oldMillis : Int) (s : State) : State :=
  let s := timeChange newSec s
  let s := s.withPvt (s.pvt.moved ((newSec * 1000 : Nat) - oldMillis))
  s.withClock { s.clock with site := newSec * second }

/-- The moment before the wrap: the last microsecond of second 2^32 − 1. -/
def lastMoment (s : State) : State := s.withClock { s.clock with site := siteTimeEnd * second - 1 }

/-! ### Soft reset (R195) -/

/-- Every block's soft-reset state (R19, R37, R107, R135), the node being CONFIG. -/
def softReset (s : State) : State :=
  let left := s.hpt.nodeState
  let s := s.withHpt { s.hpt with nodeState := .config, ownId := none }
  let s := s.withSlc { s.slc.emptied with penalty := .clear }
  let s := s.withPvt s.pvt.softReset
  let s := s.withPlu { s.plu with waits := [], pledges := [], headroom := 0 }
  let s := s.withChs s.chs.softReset
  testAttn (postEvent .softReset (.node s.eventId) left.code 0 s)

/-! ### READ_NODE (R194) -/

/-- A watch of the changeover: the site time, in seconds, of the moment it holds, counted back on the present
clock and cut off at 0 (log entry 9). -/
def momentBytes (s : State) (since : Nat) : List Byte := be32 ((s.clock.site - (s.now - since)) / second)

/-- The NODE section. Whether a configuration record is present is a flag, 1 where it is (log entry 7). -/
def nodeSection (s : State) : List Byte :=
  let h := s.hpt
  [byte h.nodeState.code] ++ optional 1 (h.role.map fun r => [byte r.code])
    ++ optional 1 (h.ownId.map fun n => [byte n]) ++ optional 2 (h.runTag.map be16) ++ be32 s.siteSec
    ++ be16 s.siteMs ++ [byte s.slc.link.code, byte s.slc.queue.length, byte s.slc.hold.length,
      flagByte h.record.isSome, flagByte h.edited]

/-- The SET section. -/
def setSection (c : Setc) : List Byte :=
  [byte c.state.code, byte c.mode.code] ++ optional 1 (c.cause.map fun x => [byte x.code])
    ++ [byte c.attempts] ++ optional 4 (c.startWatch.map fun w => be32 w.stamp)
    ++ optional 4 (c.stopWatch.map fun w => be32 w.stamp) ++ [byte c.intentSerial]
    ++ optional 2 (c.intentKey.map be16)

/-- A feeder record in the BOARD section: position OPEN 0 and CLOSED 1, source present 0 and absent 1, both as
the field port has them now, in CONFIG too (R135; log entry 42). -/
def feederBytes (f : Feeder) (s : State) : List Byte :=
  let r := s.chs.feeder f
  [byte r.group, flagByte (s.closed f), flagByte (!s.live f), flagByte r.faulty]
    ++ optional 4 (r.lossWatch.map fun w => momentBytes s w.since)
    ++ optional 4 (r.returnWatch.map (momentBytes s))

/-- A pledge-list entry in the BOARD section. -/
def PledgeItem.bytes (e : PledgeItem) : List Byte := byte e.node :: be16 e.kw ++ optional 2 (e.taken.map be16)

/-- The claim record in the BOARD section (R113), with a one-byte count before its pledge list (log entry 7). -/
def ClaimRec.bytes (now : Nat) (c : ClaimRec) : List Byte :=
  [byte c.serial, byte (feederSelCode (some c.target)), byte c.group, byte c.kind.code, byte c.cls,
      byte c.origin.code] ++ be16 c.requested ++ [byte c.pledges.length]
    ++ (c.pledges.map PledgeItem.bytes).flatten ++ optional 2 (c.confirmed.map be16)
    ++ be16 (millisLeft now c.deadline)

/-- The BOARD section, in the order in which R194 names its parts: the capacity-shed state, the sizing snapshot and
the times left stand behind the feeder and claim records (log entry 7). -/
def boardSection (s : State) : List Byte :=
  let c := s.chs
  let left (t : Option Nat) : List Byte := optional 2 (t.map fun t => be16 (millisLeft s.now t))
  [byte c.state.code, byte (feederSelCode c.active), byte (feederSelCode c.billing)]
    ++ feederBytes .a s ++ feederBytes .b s ++ optional 14 (c.claim.map (ClaimRec.bytes s.now))
    ++ optional 4 (c.shed1.map be32) ++ optional 4 (c.shed2.map be32) ++ optional 4 (c.shed3.map be32)
    ++ be16 c.snapLoad ++ (c.snapPowers.map be16).flatten
    ++ left (c.openLimit.map (·.deadline)) ++ left c.deadTimer ++ left c.closeLimit ++ left c.topupTimer

/-- The held sample in the FIELD section (R138, R150). -/
def Sample.bytes (x : Sample) : List Byte :=
  [byte x.seq] ++ be16 x.p ++ (x.powers.map be16).flatten ++ (x.energies.map be32).flatten ++ be32 x.setEnergy
    ++ be32 x.tank ++ [flagByte (!x.liveA), flagByte (!x.liveB), x.check,
      mask8 [x.answered, x.estimated, x.lostMark]]

/-- A pulse in the FIELD section: OPEN 0, CLOSE 1, and the milliseconds left. -/
def pulseBytes (now : Nat) (p : Option Pulse) : List Byte :=
  optional 2 (p.map fun p => [byte (match p.line with
    | .openLine => 0
    | .closeLine => 1), byte (millisLeft now p.endAt)])

/-- The FIELD section (R150). -/
def fieldSection (s : State) : List Byte :=
  let f := s.fpc
  [flagByte f.lost, byte f.missCount] ++ optional 1 (f.lastSeq.map fun n => [byte n]) ++ be32 f.answers
    ++ be32 f.misses ++ f.sample.bytes ++ (f.channels.map fun e => be32 e.balance).flatten
    ++ be32 f.set.balance ++ be64 f.setTotal
    ++ [flagByte f.feederA.level, flagByte f.feederB.level, flagByte f.running.level, flagByte f.breaker.level,
        flagByte f.setFault.level, byte f.filterTime]
    ++ be32 f.pulses ++ be32 f.heldPulses ++ [flagByte f.runRequest, flagByte f.loadEnable]
    ++ be16 (maskNat f.relays) ++ pulseBytes s.now f.pulseA ++ pulseBytes s.now f.pulseB

/-- A channel record in the CHANNELS section (R151): enabled 0 and disabled 1, SHED 0 and ON 1. -/
def Channel.bytes (c : Channel) : List Byte :=
  [flagByte c.mapping.isNone] ++ optional 1 (c.mapping.map fun m => [byte m.1])
    ++ optional 1 (c.mapping.map fun m => [byte m.2]) ++ [byte c.level, byte c.reasons, flagByte (!c.shed)]
    ++ be16 c.power ++ be64 c.energy

/-- The CHANNELS section: the channel records and, behind them as R194 names them, the capacity-shed level set
(log entry 7). -/
def channelsSection (half : Nat) (m : Mtr) : List Byte :=
  (((m.channels.drop (8 * half)).take 8).map Channel.bytes).flatten ++ [mask8 [m.levels.l1, m.levels.l2, m.levels.l3]]

/-- A tariff slot in the TARIFFS section: its form, then key, base and pass-through, zeros where the form
has none, and the time left on its timer. -/
def TariffSlot.bytes (now : Nat) (t : TariffSlot) : List Byte :=
  (match t.tariff with
    | .empty => 0 :: List.replicate 8 0
    | .reference key => 1 :: be32 key ++ List.replicate 4 0
    | .resolved key base pass => 2 :: be32 key ++ be16 base ++ be16 pass)
    ++ optional 4 (t.timer.map fun x => be32 (millisLeft now x))

/-- A pending record in the PENDING section (R156). -/
def PendingRec.bytes (p : PendingRec) : List Byte :=
  [byte p.account, byte p.tariff] ++ be64 p.energy ++ be64 p.weighted ++ [groupsByte p.groups]

/-- The PENDING section. -/
def pendingSection (half : Nat) (m : Mtr) : List Byte :=
  (((m.pendings.drop (8 * half)).take 8).map fun p => optional 19 (p.map PendingRec.bytes)).flatten

/-- The GROUP_CI section. -/
def groupCiSection (m : Mtr) : List Byte := (m.heldCis.map fun c => be16 c.value ++ [flagByte c.computed]).flatten

/-- The role a section is allowed for, if it is not all (R194). -/
def sectionRole : Nat → Option Role
  | 2 => some .genset
  | 3 => some .board
  | _ => none

/-- The highest half of a section (R194). -/
def sectionHalves (part : Nat) : Nat := if part = 5 ∨ part = 7 then 1 else 0

/-- The body of a section, `none` for the CONFIG section without a record (R194). -/
def sectionBody (part half : Nat) (s : State) : Option (List Byte) :=
  match part with
  | 0 => some (nodeSection s)
  | 1 => s.hpt.record.map ConfigRecord.bytes
  | 2 => some (setSection s.setc)
  | 3 => some (boardSection s)
  | 4 => some (fieldSection s)
  | 5 => some (channelsSection half s.mtr)
  | 6 => some (s.mtr.tariffs.map (TariffSlot.bytes s.now)).flatten
  | 7 => some (pendingSection half s.mtr)
  | _ => some (groupCiSection s.mtr)

/-! ### The commands -/

/-- TRANSACTION_BEGINS (R186): chip select falls. -/
def execTransactionBegins (s : State) : Host.Outcome State Fault Refusal :=
  .next (if s.hpt.transaction.isSome then s
    else s.withHpt { s.hpt with transaction := some (beginTransaction s.hpt) })

/-- HOST_TRANSACTION (R183). -/
def execHostTransaction (bytes : List Byte) (s : State) : Host.Outcome State Fault Refusal :=
  .next (endTransaction bytes s)

/-- NOOP. -/
def execNoop (tag : Byte) (s : State) : Host.Outcome State Fault Refusal :=
  .next (gated none allStates tag (respond tag .ok []) s)

/-- CONFIGURE (R190). -/
def execConfigure (tag : Byte) (body : List Byte) (s : State) : Host.Outcome State Fault Refusal :=
  .next (gated none [.config] tag (fun s =>
    if body.length ≠ 4 ∧ body.length ≠ 83 then refuse tag .badLength s
    else match configBadField body with
      | some f => badField tag f s
      | none => respond tag .ok [] (s.withHpt { s.hpt with record := some (readConfig body), edited := true })) s)

/-- COMMIT (R191). -/
def execCommit (tag : Byte) (s : State) : Host.Outcome State Fault Refusal :=
  .next (gated none [.config] tag (fun s => match s.hpt.record with
    | none => refuse tag .state s
    | some c =>
      if c.mLow ≤ c.mCrit then badField tag 19 s
      else if c.capacity < c.openingStock then badField tag 13 s
      else
        let t := commitRecord c s
        respond tag .ok (be16 (t.hpt.runTag.getD 0) ++ [byte c.role.code, byte (derivedCode c s t)]) t) s)

/-- RESET_SOFT (R195). -/
def execResetSoft (tag : Byte) (s : State) : Host.Outcome State Fault Refusal :=
  .next (gated none allStates tag (fun s => respond tag .ok [] (softReset s)) s)

/-- SET_TIME (R193). -/
def execSetTime (tag : Byte) (time : Word) (s : State) : Host.Outcome State Fault Refusal :=
  .next (gated none allStates tag (fun s =>
    respond tag .ok (be32 s.siteSec) (setSiteTime time.toNat s.stamp s)) s)

/-- SITE_TIME_WRAP (R193): the wrap is taken as a SET_TIME to 0. A backoff end stays as it is (log entry 9). -/
def execSiteTimeWrap (s : State) : Host.Outcome State Fault Refusal :=
  .next (if siteTimeEnd * second ≤ s.clock.site then setSiteTime 0 s.stamp (lastMoment s) else s)

/-- READ_NODE (R194): the ranges of section and half, then the section's role, a condition of the command's
own (R187). -/
def execReadNode (tag part half : Byte) (s : State) : Host.Outcome State Fault Refusal :=
  .next (gated none allStates tag (fun s =>
    if 8 < part.toNat then badField tag 0 s
    else if sectionHalves part.toNat < half.toNat then badField tag 1 s
    else if !s.takes (sectionRole part.toNat) allStates then refuse tag .state s
    else match sectionBody part.toNat half.toNat s with
      | none => refuse tag .state s
      | some body => respond tag .ok body s) s)

/-- A filter at power-on, with the raw level its line has (R145). -/
def Filter.atPowerOn (x : Filter) : Filter :=
  ⟨x.raw, false, if x.raw then some 0 else none⟩

/-- POWER_ON_RESET (R196): every block's power-on state. The raw levels of the feedback lines are the
cabinet's, and the queue of waiting commands is not the part's. -/
def execPowerOnReset (s : State) : Host.Outcome State Fault Refusal :=
  let f := s.fpc
  .next (((State.reset.withFpc { Fpc.reset with
    feederA := f.feederA.atPowerOn, feederB := f.feederB.atPowerOn, running := f.running.atPowerOn
    breaker := f.breaker.atPowerOn, setFault := f.setFault.atPowerOn }).withPending s.pending).withChoices s.choices)

end Sys2Proof.Machine
end

