-- ==== Sys2Proof/Machine/Tick.lean ====
section
/-! DEFINITION. What the part does by itself: the timed events that are due, and the passing of time.
The table of commands has no row for a clock tick; a tick is what step does on an empty queue (log
entry 3). -/

namespace Sys2Proof.Machine

/-- The events of a list whose condition holds. -/
def whenDue (c : Bool) (i : Instr) : List Instr := if c then [i] else []

/-- The timed events of the site link that are due (R11, R12, R15, R17). -/
def dueLink (s : State) : List Instr :=
  whenDue (match s.slc.tx with
    | some t => decide (t.endAt ≤ s.now)
    | none => false) .frameSent
  ++ whenDue (toStart s).isSome .frameStart
  ++ whenDue (s.slc.queue.any fun e => e.backoffEnd.isSome && e.backoffPassed s.clock.site) .backoffEnd
  ++ whenDue (s.slc.hold.any fun h => decide (h.retryAt ≤ s.now)) .retryHoldRetry
  ++ whenDue (s.slc.stuckDue s.now) .linkStuck

/-- The next change of a peer record, where its time has come (R29). -/
def duePeer (s : State) (p : Peer) : List Instr :=
  match p.freshness with
  | .fresh => whenDue (decide (s.pvt.limit 3 ≤ p.age s.stamp)) (.peerStale p.node)
  | .stale => whenDue (decide (s.pvt.limit 10 ≤ p.age s.stamp)) (.peerLost p.node)
  | .lost => whenDue (s.pvt.removalDue s.stamp p) (.peerRemoved p.node)

/-- The timed events of the peer view that are due (R27 to R29). -/
def dueView (s : State) : List Instr :=
  whenDue (decide (s.hpt.nodeState ≠ .config) && reached s.now s.pvt.statusNext) .statusTimer
  ++ whenDue (decide (s.hpt.nodeState = .run) && s.pvt.extraDue && s.pvt.extraFree s.now) .extraStatusDue
  ++ (s.pvt.peers.map (duePeer s)).flatten

/-- The limits of the Set Controller that have ended (R46, R49, R51 to R53, R55, R56). -/
def dueSet (s : State) : List Instr :=
  whenDue (setTimerEnded .intending s || setTimerEnded .stopIntending s) .intentWindowEnd
  ++ whenDue (setTimerEnded .cranking s) .crankLimit
  ++ whenDue (setTimerEnded .resting s) .restTimeEnd
  ++ whenDue (setTimerEnded .warming s) .warmUpEnd
  ++ whenDue (setTimerEnded .syncing s) .syncLimit
  ++ whenDue (setTimerEnded .unloading s) .unloadLimit
  ++ whenDue (setTimerEnded .cooling s) .coolDownEnd

/-- The timed events of the field port that are due (R136, R144, R148). -/
def dueField (s : State) : List Instr :=
  whenDue (decide (s.fpc.nextPoll ≤ s.now)) .poll
  ++ whenDue (match s.fpc.window with
    | some w => decide (w.closeAt ≤ s.now)
    | none => false) .answerWindowClose
  ++ ([FieldLine.feederA, .feederB, .running, .breakerClosed, .setFault].map fun l =>
      whenDue ((s.fpc.filter l).stable s.fpc.filterTime s.now) (.filteredLevelChange l)).flatten
  ++ ([Feeder.a, .b].map fun f => whenDue (s.fpc.pulseOver f s.now) (.pulseEnd f)).flatten

/-- The timed events of the fuel accounts that are due (R78, R81, R82). -/
def dueFuel (s : State) : List Instr :=
  if s.fau.copy.isSome then
    whenDue (match s.fau.delivery with
      | some d => decide (d.autoClose ≤ s.now)
      | none => false) .deliveryAutoClose
    ++ whenDue (s.fau.burstOver s.now) .strayBurstEnd
    ++ whenDue (reached s.now s.fau.nextCheck) .levelCheck
  else []

/-- The timed events of the Pledge Unit that are due (R92, R100). -/
def duePledge (s : State) : List Instr :=
  if s.gensetWorks then
    (s.plu.waits.map fun w =>
      whenDue (decide (w.expiry ≤ s.now)) (.claimExpiry w.claim.board w.claim.serial)).flatten
    ++ (s.plu.pledges.map fun e =>
      whenDue (decide (e.deadline ≤ s.now)) (.pledgeDeadline e.claim.board e.claim.serial)).flatten
  else []

/-- The timed events of the Changeover Sequencer that are due (R114, R120 to R123, R129, R130). -/
def dueBoard (s : State) : List Instr :=
  if s.boardWorks then
    whenDue (claimDue s).isSome .claimDeadline
    ++ ([Feeder.a, .b].map fun f => whenDue (lossDue f s) (.sourceLossConfirmed f)).flatten
    ++ whenDue (openLimitDue s).isSome .openLimit
    ++ whenDue (reached s.now s.chs.deadTimer) .deadTimeEnd
    ++ whenDue (reached s.now s.chs.closeLimit) .closeLimit
    ++ whenDue (decide (s.chs.state = .settled) && reached s.now s.chs.topupTimer) .topupTimer
    ++ ([Feeder.a, .b].map fun f => whenDue (returnDue f s) (.returnConfirmed f)).flatten
  else []

/-- The timed events of metering, billing, events and the host port that are due (R157, R173, R186,
R200). -/
def dueAccounts (s : State) : List Instr :=
  ((List.range 16).map fun t =>
    whenDue (reached s.now (nth ⟨.empty, none⟩ s.mtr.tariffs t).timer) (.resolveRequestTimer t)).flatten
  ++ whenDue (decide (s.bil.boundary ≤ s.siteSec)) .intervalBoundary
  ++ whenDue (!s.evf.attn && s.evf.wantsAttn s.now) .attnDelay
  ++ (match s.hpt.inProgress with
    | some c => [c.command]
    | none => [])

/-- The events that are due now. A wrap of site time comes alone: what reads site time waits for it. -/
def dueEvents (s : State) : List Instr :=
  if siteTimeEnd * second ≤ s.clock.site then [.siteTimeWrap]
  else dueLink s ++ dueView s ++ dueSet s ++ dueField s ++ dueFuel s ++ duePledge s ++ dueBoard s ++ dueAccounts s

/-- One microsecond passes: both clocks and the run-tag counter advance (R191, R193). -/
def advance (s : State) : State :=
  (s.withClock ⟨s.clock.elapsed + 1, s.clock.site + 1⟩).withHpt
    { s.hpt with tagCounter := s.hpt.tagCounter + 1 }

/-- The event taken first among those that are due; where there are several the manual does not say which
(log entry 4). -/
def takenFirst (s : State) (l : List Instr) : List Instr :=
  (l.drop (Config.tieBreak s.choices % l.length)).take 1

/-- A tick: an event that is due is put into the queue, and time passes only where none is due. -/
def tick (s : State) : State :=
  match dueEvents s with
  | [] => advance s
  | [e] => s.withPending [e]
  | l => (s.withPending (takenFirst s l)).withChoices (s.choices + 1)

end Sys2Proof.Machine
end

