-- ==== Sys2Proof/Machine/Dispatch.lean ====
section
/-! DEFINITION. The dispatch of a command to its meaning: one arm for each row of the opcode table. -/

namespace Sys2Proof.Machine

def exec (i : Instr) (s : State) : Host.Outcome State Fault Refusal :=
  match i with
  | .powerOnReset => Sys2Proof.Machine.execPowerOnReset s
  | .busBusy => Sys2Proof.Machine.execBusBusy s
  | .busIdleTimeout taken => Sys2Proof.Machine.execBusIdleTimeout taken s
  | .frameHeaderReceived sync src kind len => Sys2Proof.Machine.execFrameHeaderReceived sync src kind len s
  | .frameReceived rest lineIdle => Sys2Proof.Machine.execFrameReceived rest lineIdle s
  | .frameStart => Sys2Proof.Machine.execFrameStart s
  | .collision => Sys2Proof.Machine.execCollision s
  | .backoffEnd => Sys2Proof.Machine.execBackoffEnd s
  | .frameSent => Sys2Proof.Machine.execFrameSent s
  | .retryHoldRetry => Sys2Proof.Machine.execRetryHoldRetry s
  | .linkStuck => Sys2Proof.Machine.execLinkStuck s
  | .statusTimer => Sys2Proof.Machine.execStatusTimer s
  | .extraStatusDue => Sys2Proof.Machine.execExtraStatusDue s
  | .peerStale node => Sys2Proof.Machine.execPeerStale node s
  | .peerLost node => Sys2Proof.Machine.execPeerLost node s
  | .peerRemoved node => Sys2Proof.Machine.execPeerRemoved node s
  | .readPeers tag node => Sys2Proof.Machine.execReadPeers tag node s
  | .filteredLevelChange line => Sys2Proof.Machine.execFilteredLevelChange line s
  | .intentWindowEnd => Sys2Proof.Machine.execIntentWindowEnd s
  | .crankLimit => Sys2Proof.Machine.execCrankLimit s
  | .restTimeEnd => Sys2Proof.Machine.execRestTimeEnd s
  | .warmUpEnd => Sys2Proof.Machine.execWarmUpEnd s
  | .syncLimit => Sys2Proof.Machine.execSyncLimit s
  | .unloadLimit => Sys2Proof.Machine.execUnloadLimit s
  | .coolDownEnd => Sys2Proof.Machine.execCoolDownEnd s
  | .setMode tag mode => Sys2Proof.Machine.execSetMode tag mode s
  | .setRun tag run => Sys2Proof.Machine.execSetRun tag run s
  | .clearSet tag => Sys2Proof.Machine.execClearSet tag s
  | .poll => Sys2Proof.Machine.execPoll s
  | .frontEndAnswer bytes ended => Sys2Proof.Machine.execFrontEndAnswer bytes ended s
  | .answerWindowClose => Sys2Proof.Machine.execAnswerWindowClose s
  | .flowPulse lowUs highUs => Sys2Proof.Machine.execFlowPulse lowUs highUs s
  | .deliveryOpen tag ticket price litres => Sys2Proof.Machine.execDeliveryOpen tag ticket price litres s
  | .deliveryClose tag => Sys2Proof.Machine.execDeliveryClose tag s
  | .deliveryAutoClose => Sys2Proof.Machine.execDeliveryAutoClose s
  | .deliveryCancel tag => Sys2Proof.Machine.execDeliveryCancel tag s
  | .strayBurstEnd => Sys2Proof.Machine.execStrayBurstEnd s
  | .levelCheck => Sys2Proof.Machine.execLevelCheck s
  | .resyncTank tag => Sys2Proof.Machine.execResyncTank tag s
  | .readTank tag => Sys2Proof.Machine.execReadTank tag s
  | .readLots tag => Sys2Proof.Machine.execReadLots tag s
  | .claimExpiry board serial => Sys2Proof.Machine.execClaimExpiry board serial s
  | .pledgeDeadline board serial => Sys2Proof.Machine.execPledgeDeadline board serial s
  | .selectProfile tag profile => Sys2Proof.Machine.execSelectProfile tag profile s
  | .readPledges tag => Sys2Proof.Machine.execReadPledges tag s
  | .changeover tag cls => Sys2Proof.Machine.execChangeover tag cls s
  | .cancelChangeover tag => Sys2Proof.Machine.execCancelChangeover tag s
  | .claimDeadline => Sys2Proof.Machine.execClaimDeadline s
  | .sourceLossConfirmed feeder => Sys2Proof.Machine.execSourceLossConfirmed feeder s
  | .openLimit => Sys2Proof.Machine.execOpenLimit s
  | .deadTimeEnd => Sys2Proof.Machine.execDeadTimeEnd s
  | .closeLimit => Sys2Proof.Machine.execCloseLimit s
  | .topupTimer => Sys2Proof.Machine.execTopupTimer s
  | .returnConfirmed feeder => Sys2Proof.Machine.execReturnConfirmed feeder s
  | .restore tag feeder => Sys2Proof.Machine.execRestore tag feeder s
  | .clearFeeder tag feeder => Sys2Proof.Machine.execClearFeeder tag feeder s
  | .pulseEnd feeder => Sys2Proof.Machine.execPulseEnd feeder s
  | .setChannel tag channel enabled account tariff level => Sys2Proof.Machine.execSetChannel tag channel enabled account tariff level s
  | .shedHost tag channel op => Sys2Proof.Machine.execShedHost tag channel op s
  | .defineTariff tag slot form key base pass => Sys2Proof.Machine.execDefineTariff tag slot form key base pass s
  | .resolveTariff tag key base pass => Sys2Proof.Machine.execResolveTariff tag key base pass s
  | .resolveRequestTimer slot => Sys2Proof.Machine.execResolveRequestTimer slot s
  | .accountOpen tag id limit => Sys2Proof.Machine.execAccountOpen tag id limit s
  | .setLimit tag id limit => Sys2Proof.Machine.execSetLimit tag id limit s
  | .accountClose tag id => Sys2Proof.Machine.execAccountClose tag id s
  | .readAccount tag id => Sys2Proof.Machine.execReadAccount tag id s
  | .intervalBoundary => Sys2Proof.Machine.execIntervalBoundary s
  | .readBilling tag => Sys2Proof.Machine.execReadBilling tag s
  | .ackBilling tag count => Sys2Proof.Machine.execAckBilling tag count s
  | .hostTransaction bytes => Sys2Proof.Machine.execHostTransaction bytes s
  | .noop tag => Sys2Proof.Machine.execNoop tag s
  | .configure tag body => Sys2Proof.Machine.execConfigure tag body s
  | .commit tag => Sys2Proof.Machine.execCommit tag s
  | .resetSoft tag => Sys2Proof.Machine.execResetSoft tag s
  | .setTime tag time => Sys2Proof.Machine.execSetTime tag time s
  | .siteTimeWrap => Sys2Proof.Machine.execSiteTimeWrap s
  | .readNode tag part half => Sys2Proof.Machine.execReadNode tag part half s
  | .attnDelay => Sys2Proof.Machine.execAttnDelay s
  | .readEvents tag => Sys2Proof.Machine.execReadEvents tag s
  | .ackEvents tag count => Sys2Proof.Machine.execAckEvents tag count s
  | .serviceMark tag mark => Sys2Proof.Machine.execServiceMark tag mark s
  | .readFaults tag => Sys2Proof.Machine.execReadFaults tag s
  | .clearFaults tag kinds => Sys2Proof.Machine.execClearFaults tag kinds s
  | .setFaultMask tag kinds => Sys2Proof.Machine.execSetFaultMask tag kinds s
  | .transactionBegins => Sys2Proof.Machine.execTransactionBegins s
  | .rawLevelChange line level => Sys2Proof.Machine.execRawLevelChange line level s
  | .answerClockedIn bytes => Sys2Proof.Machine.execAnswerClockedIn bytes s

end Sys2Proof.Machine
end

