-- ==== Sys2Proof/Safety.lean ====
section
/-! DEFINITION. What a safe run is: the bounds the manual gives the part's stores, which every step keeps,
and the laws of the device that the manual states about its contactors. -/

namespace Sys2Proof.Machine

/-- The manual's bounds on the stores that any step may touch: the queue of 16, the hold of 4 and the
backoff generator (section 1.3, R16), the ring of 64 (R197), and the billing log of 128 (R176). -/
structure Bounded (s : State) : Prop where
  queue : s.slc.queue.length ≤ 16
  hold : s.slc.hold.length ≤ 4
  ring : s.evf.ring.length ≤ 64
  log : s.bil.log.length ≤ 128

/-- A board with a contactor line being driven CLOSE to one feeder has the other feeder's lines at rest
and reading OPEN (the law of R109, at the moment of the request). -/
def CloseAllowed (f : Feeder) (s : State) : Prop :=
  s.closed (otherFeeder f) = false ∧ s.pulsing (otherFeeder f) = false

/-! ### Frames: which parts of the state a command may change -/

/-- The parts of the state: the eleven blocks, the clocks, the queue of waiting commands and the model's
count of free choices. -/
inductive Part where
  | clock | slc | pvt | setc | fau | plu | chs | fpc | mtr | bil | hpt | evf | pending | choices
  deriving DecidableEq, Repr

/-- One part reads the same in two states. -/
def Part.same (p : Part) (s t : State) : Prop :=
  match p with
  | .clock => t.clock = s.clock
  | .slc => t.slc = s.slc
  | .pvt => t.pvt = s.pvt
  | .setc => t.setc = s.setc
  | .fau => t.fau = s.fau
  | .plu => t.plu = s.plu
  | .chs => t.chs = s.chs
  | .fpc => t.fpc = s.fpc
  | .mtr => t.mtr = s.mtr
  | .bil => t.bil = s.bil
  | .hpt => t.hpt = s.hpt
  | .evf => t.evf = s.evf
  | .pending => t.pending = s.pending
  | .choices => t.choices = s.choices

/-- Every part outside the list reads in `t` as in `s`. -/
def KeepsAllBut (l : List Part) (s t : State) : Prop := ∀ p, p ∉ l → p.same s t

/-! ### What a command tells the host -/

/-- Event records stamped now, the first carrying the lost count (R197). -/
def stamped (s : State) : Nat → List (EventKind × Subject × Nat × Nat) → List EventRec
  | _, [] => []
  | lost, (k, u, v, q) :: rest => ⟨k, u, s.siteSec, s.siteMs, v, q, lost, s.now⟩ :: stamped s 0 rest

/-- The events posted, in this order, where the ring has room for all of them (R197). -/
def Posts (l : List (EventKind × Subject × Nat × Nat)) (s t : State) : Prop :=
  s.evf.ring.length + l.length ≤ 64 → t.evf.ring = s.evf.ring ++ stamped s s.evf.lost l

/-- A response put into the buffer, with no command left in progress (R186). -/
def State.answered (s : State) (tag : Byte) (status : Status) (body : List Byte) : State :=
  s.withHpt { s.hpt with response := ⟨tag, status, body⟩, inProgress := none }

/-! ### Fields in range (chapter 2) -/

/-- Every field of a bulletin lies in the range that R20 to R26 give it. -/
def Bulletin.inRange : Bulletin → Prop
  | .status (.genset g) =>
    1 ≤ g.group ∧ g.group ≤ 15 ∧ g.runTag < 65536 ∧ g.p < 65536 ∧ g.r < 65536 ∧ g.headroom < 65536
      ∧ g.held < 65536 ∧ g.ci < 65536 ∧ g.minutes < 65536
  | .status (.board b) =>
    1 ≤ b.groupA ∧ b.groupA ≤ 15 ∧ 1 ≤ b.groupB ∧ b.groupB ≤ 15 ∧ b.runTag < 65536 ∧ b.load < 65536
      ∧ b.serial < 256
  | .intent group _ key serial => 1 ≤ group ∧ group ≤ 15 ∧ key < 65536 ∧ serial < 256
  | .claim serial group _ cls kw => serial < 256 ∧ 1 ≤ group ∧ group ≤ 15 ∧ cls ≤ 7 ∧ kw < 65536
  | .pledge board serial kw => 1 ≤ board ∧ board ≤ 62 ∧ serial < 256 ∧ kw < 65536
  | .revoke board serial revoked remaining =>
    1 ≤ board ∧ board ≤ 62 ∧ serial < 256 ∧ revoked < 65536 ∧ remaining < 65536
  | .confirm serial entries =>
    serial < 256 ∧ 1 ≤ entries.length ∧ entries.length ≤ 8
      ∧ ∀ e ∈ entries, 1 ≤ e.1 ∧ e.1 ≤ 62 ∧ e.2 < 65536
  | .release serial _ => serial < 256

end Sys2Proof.Machine
end

