-- ==== Sys2Proof/Certificates/Slice0/Obligations.lean ====
section
/-! DEFINITION. The statements for the provers, from the manual's numbered rules, chapter by chapter. -/

namespace Sys2Proof.Claims
end Sys2Proof.Claims

open Sys2Proof Sys2Proof.Machine Sys2Proof.Claims

/-! ### The step, the resets and the gate -/

/-- A command at the front of the queue is carried out with the queue's rest (log entry 3). -/
def Obligations.StepRunsFront : Prop :=
  ∀ (c : Instr) (rest : List Instr) (s : State),
    step (s.withPending (c :: rest)) = exec c (s.withPending rest)

/-- On an empty queue a step is a tick (log entries 3 and 4: the model's choice): with nothing due one
microsecond of elapsed time, of site time and of the run-tag counter passes; with one event due it joins
the queue; with several, one of them does. -/
def Obligations.IdleStepTicks : Prop :=
  ∀ s : State, s.pending = [] →
    (dueEvents s = [] →
      step s = .next { s with
        clock := ⟨s.clock.elapsed + 1, s.clock.site + 1⟩
        hpt := { s.hpt with tagCounter := s.hpt.tagCounter + 1 } }) ∧
    (∀ e, dueEvents s = [e] → step s = .next { s with pending := [e] }) ∧
    (2 ≤ (dueEvents s).length →
      ∃ e ∈ dueEvents s, step s = .next { s with pending := [e], choices := s.choices + 1 })

/-- What power-on reset leaves, by the blocks' own tables (R19, R37, R63, R86, R107, R135, R149, R171,
R182, R196, R205); that no answer window is open is the model's choice (log entry 1: R149 gives none).

POWER_ON_RESET takes every block to its power-on state from any state. That the raw levels of the five
feedback lines stay, which are the cabinet's (R144, R145), and with them the queue of waiting commands and the
count of free choices, is the model's choice (log entry 21; the queue and the count are its own, log entries 3
and 4), as are the values it gives what no table names (log entry 1). The filtered levels are inactive. -/
def Obligations.PowerOn : Prop :=
  (let s := State.reset
   (s.slc.queue = [] ∧ s.slc.hold = [] ∧ s.slc.successor = none ∧ s.slc.tx = none
     ∧ s.slc.penalty = ⟨false, false, false⟩ ∧ s.slc.backoffGen = 0xACE1 ∧ s.slc.bus = .busy 0
     ∧ s.slc.link = .normal) ∧
   (s.pvt.peers = [] ∧ s.pvt.base = 2 ∧ s.pvt.statusNext = none ∧ s.pvt.extraDue = false
     ∧ s.pvt.overflowReported = false) ∧
   (s.setc.state = .stopped ∧ s.setc.mode = .auto ∧ s.setc.cause = none ∧ s.setc.attempts = 0
     ∧ s.setc.timer = none ∧ s.setc.startWatch = none ∧ s.setc.stopWatch = none ∧ s.setc.intentSerial = 0
     ∧ s.setc.intentKey = none) ∧
   (s.fau.copy = none ∧ s.fau.lots = [] ∧ s.fau.burnResidue = 0 ∧ s.fau.costResidue = 0 ∧ s.fau.burned = 0
     ∧ s.fau.burnedCost = 0 ∧ s.fau.unlotted = 0 ∧ s.fau.shrinkage = 0 ∧ s.fau.stray = 0
     ∧ s.fau.lastPrice = 0 ∧ s.fau.minutes = 0 ∧ s.fau.factor = 0 ∧ s.fau.refuelWanted = false
     ∧ s.fau.delivery = none ∧ s.fau.strayLast = none ∧ s.fau.strayCarry = 0 ∧ s.fau.diverge = false
     ∧ s.fau.outCount = 0 ∧ s.fau.inCount = 0 ∧ s.fau.nextCheck = none ∧ s.fau.adjustSerial = 0
     ∧ s.fau.dryReported = false) ∧
   (s.plu.pledges = [] ∧ s.plu.waits = [] ∧ s.plu.derated = 0 ∧ s.plu.headroom = 0 ∧ s.plu.ci = 0
     ∧ s.plu.active = .a ∧ s.plu.pointer = 0 ∧ s.plu.created = 0) ∧
   (s.chs.state = .dark ∧ s.chs.claim = none ∧ s.chs.active = none ∧ s.chs.billing = none
     ∧ s.chs.feederA.faulty = false ∧ s.chs.feederB.faulty = false ∧ s.chs.shed1 = none
     ∧ s.chs.shed2 = none ∧ s.chs.shed3 = none ∧ s.chs.snapLoad = 0 ∧ s.chs.serial = 0
     ∧ s.chs.openLimit = none ∧ s.chs.deadTimer = none ∧ s.chs.closeLimit = none
     ∧ s.chs.topupTimer = none) ∧
   (s.fpc.nextPoll = 0 ∧ s.fpc.sample.p = 0 ∧ s.fpc.sample.liveA = false ∧ s.fpc.sample.liveB = false
     ∧ s.fpc.sample.answered = false ∧ s.fpc.lastSeq = none ∧ s.fpc.lost = false ∧ s.fpc.missCount = 0
     ∧ s.fpc.channels = List.replicate 16 ⟨0, 0⟩ ∧ s.fpc.set = ⟨0, 0⟩ ∧ s.fpc.setTotal = 0
     ∧ s.fpc.answers = 0 ∧ s.fpc.misses = 0 ∧ s.fpc.filterTime = 16 ∧ s.fpc.pulses = 0
     ∧ s.fpc.heldPulses = 0 ∧ s.fpc.runRequest = false ∧ s.fpc.loadEnable = false
     ∧ s.fpc.relays = List.replicate 16 false ∧ s.fpc.pulseA = none ∧ s.fpc.pulseB = none
     ∧ ∀ l, (s.fpc.filter l).level = false) ∧
   (s.mtr.levels = ⟨false, false, false⟩ ∧ s.mtr.channels = List.replicate 16 .reset
     ∧ s.mtr.tariffs = List.replicate 16 ⟨.empty, none⟩ ∧ s.mtr.pendings = List.replicate 16 none
     ∧ s.mtr.heldCis = List.replicate 15 ⟨0, false⟩) ∧
   (s.bil.length = 15 ∧ s.bil.openedAt = 0 ∧ s.bil.boundary = 900 ∧ s.bil.serial = 1 ∧ s.bil.log = []
     ∧ s.bil.consumer = 0 ∧ s.bil.fullReported = false
     ∧ ∀ i, (s.account i).state = .free) ∧
   (s.hpt.nodeState = .config ∧ s.hpt.record = none ∧ s.hpt.edited = false ∧ s.hpt.role = none
     ∧ s.hpt.ownId = none ∧ s.hpt.runTag = none ∧ s.hpt.tagCounter = 0 ∧ s.hpt.inProgress = none
     ∧ s.hpt.response = ⟨0, .ok, []⟩ ∧ s.siteSec = 0 ∧ s.siteMs = 0) ∧
   (s.evf.ring = [] ∧ s.evf.consumer = 0 ∧ s.evf.lost = 0 ∧ s.evf.mark = 0 ∧ s.evf.setBCount = 8
     ∧ s.evf.setBDelay = 250 ∧ s.evf.attn = false ∧ s.evf.sticky = 0 ∧ s.evf.mask = 0
     ∧ s.evf.first = ⟨none, 0, 0, List.replicate 8 0⟩)) ∧
  (∀ s : State, ∃ t : State, exec .powerOnReset s = .next t ∧
     KeepsAllBut [.fpc, .pending, .choices] State.reset t ∧
     (∀ l, (t.fpc.filter l).level = false ∧ (t.fpc.filter l).raw = (s.fpc.filter l).raw) ∧
     t.fpc.nextPoll = 0 ∧ t.fpc.window = none ∧ t.fpc.sample = State.reset.fpc.sample ∧
     t.fpc.lastSeq = none ∧ t.fpc.missCount = 0 ∧ t.fpc.lost = false ∧
     t.fpc.channels = State.reset.fpc.channels ∧ t.fpc.set = ⟨0, 0⟩ ∧ t.fpc.setTotal = 0 ∧
     t.fpc.answers = 0 ∧ t.fpc.misses = 0 ∧ t.fpc.filterTime = 16 ∧ t.fpc.pulses = 0 ∧
     t.fpc.heldPulses = 0 ∧ t.fpc.runRequest = false ∧ t.fpc.loadEnable = false ∧
     t.fpc.relays = State.reset.fpc.relays ∧ t.fpc.pulseA = none ∧ t.fpc.pulseB = none)

/-- The rows that the host sends, each with its tag, the role it needs and the node states it is taken in:
the table of R189. -/
def Sys2Proof.Claims.hostGate : Instr → Option (Byte × Option Role × List NodeState)
  | .noop tag | .resetSoft tag | .setTime tag _ | .readNode tag _ _ | .readPeers tag _ =>
    some (tag, none, [.config, .run, .mute])
  | .configure tag _ | .commit tag => some (tag, none, [.config])
  | .setMode tag _ | .setRun tag _ | .clearSet tag | .selectProfile tag _ | .readPledges tag =>
    some (tag, some .genset, [.run, .mute])
  | .changeover tag _ => some (tag, some .board, [.run])
  | .cancelChangeover tag | .restore tag _ | .clearFeeder tag _ => some (tag, some .board, [.run, .mute])
  | .deliveryOpen tag _ _ _ | .deliveryClose tag | .deliveryCancel tag | .readTank tag | .readLots tag
  | .resyncTank tag => some (tag, some .genset, [.config, .run, .mute])
  | .setChannel tag _ _ _ _ _ => some (tag, none, [.config, .run])
  | .defineTariff tag _ _ _ _ _ | .resolveTariff tag _ _ _ | .shedHost tag _ _ | .accountOpen tag _ _
  | .accountClose tag _ | .setLimit tag _ _ | .readAccount tag _ | .readBilling tag | .ackBilling tag _
  | .readEvents tag | .ackEvents tag _ | .serviceMark tag _ | .readFaults tag | .clearFaults tag _
  | .setFaultMask tag _ => some (tag, none, [.config, .run, .mute])
  | _ => none

/-- A command outside the roles and node states of R189's table is refused with STATE and an empty body,
and nothing else changes (R187, R189). -/
def Obligations.GateRefuses : Prop :=
  ∀ (c : Instr) (s : State) (tag : Byte) (role : Option Role) (states : List NodeState),
    hostGate c = some (tag, role, states) →
    (s.hpt.nodeState ∉ states ∨ ∃ r, role = some r ∧ s.hpt.role ≠ some r) →
    exec c s = .next (s.answered tag .state [])

/-- The body each read command answers with, where it is taken (R38, R85, R105, R169, R180, R194, R199,
R204), and the empty body of a NOOP. -/
def Sys2Proof.Claims.readAnswer (s : State) : Instr → Option (Byte × List Byte)
  | .noop tag => some (tag, [])
  | .readPeers tag node => if nodeInRange node then some (tag, peersBody node.toNat s) else none
  | .readTank tag => if s.hpt.role = some .genset ∧ s.fau.copy.isSome then some (tag, tankBody s) else none
  | .readLots tag =>
    if s.hpt.role = some .genset ∧ s.fau.copy.isSome then
      some (tag, byte s.fau.lots.length :: (s.fau.lots.map Lot.bytes).flatten)
    else none
  | .readPledges tag => if s.gensetWorks then some (tag, pledgesBody s) else none
  | .readAccount tag id => (s.slotOf id.toNat).map fun i => (tag, accountBody i s)
  | .readBilling tag => some (tag, billingBody s.bil)
  | .readEvents tag => some (tag, eventsBody s.evf)
  | .readFaults tag => some (tag, faultsBody s.evf)
  | .readNode tag part half =>
    if part.toNat ≤ 8 ∧ (part.toNat = 2 → s.hpt.role = some .genset)
        ∧ (part.toNat = 3 → s.hpt.role = some .board) ∧ half.toNat ≤ sectionHalves part.toNat then
      (sectionBody part.toNat half.toNat s).map fun b => (tag, b)
    else none
  | _ => none

/-- A read that is taken answers OK with its body and changes nothing but the response buffer: it removes
nothing and moves nothing (R180, R194, R199).

The records of the principal reads have the lengths that R209 gives: 20 bytes an event, 31 an interval
record, 21 a lot; and a READ_EVENTS and a READ_BILLING body carries the oldest records, at most four,
behind its 6 and 3 other bytes. -/
def Obligations.ReadsChangeNothing : Prop :=
  (∀ (c : Instr) (s : State) (tag : Byte) (body : List Byte), readAnswer s c = some (tag, body) →
     exec c s = .next (s.answered tag .ok body)) ∧
  (∀ r : EventRec, r.bytes.length = 20) ∧ (∀ r : IntervalRec, r.bytes.length = 31) ∧
  (∀ l : Lot, l.bytes.length = 21) ∧
  (∀ e : Evf, (eventsBody e).length = 6 + 20 * min 4 e.ring.length ∧
    (eventsBody e).drop 6 = ((e.ring.take 4).map EventRec.bytes).flatten) ∧
  (∀ b : Bil, (billingBody b).length = 3 + 31 * min 4 b.log.length ∧
    (billingBody b).drop 3 = ((b.log.take 4).map IntervalRec.bytes).flatten)

/-- Frames of all the commands: the parts of the state each may change. -/
def Sys2Proof.Claims.mayTouch : Instr → List Part
  | .busBusy | .frameStart | .frameSent | .backoffEnd => [.slc]
  | .busIdleTimeout _ | .frameHeaderReceived _ _ _ _ | .collision | .retryHoldRetry | .linkStuck => [.slc, .evf]
  | .frameReceived _ _ => [.slc, .evf, .pvt, .plu, .setc, .fpc, .chs, .mtr, .hpt]
  | .statusTimer | .extraStatusDue => [.slc, .evf, .pvt]
  | .peerStale _ | .peerRemoved _ => [.pvt]
  | .peerLost _ => [.slc, .evf, .pvt, .plu, .chs]
  | .filteredLevelChange _ => [.setc, .fpc, .evf, .plu, .slc, .pvt, .chs, .mtr]
  | .intentWindowEnd | .crankLimit | .restTimeEnd | .warmUpEnd | .syncLimit | .unloadLimit
  | .coolDownEnd => [.setc, .fpc, .evf, .plu, .slc, .pvt]
  | .setMode _ _ | .setRun _ _ | .clearSet _ => [.setc, .fpc, .evf, .plu, .slc, .pvt, .hpt]
  | .poll | .rawLevelChange _ _ | .pulseEnd _ => [.fpc]
  | .frontEndAnswer _ _ | .answerWindowClose | .answerClockedIn _ =>
    [.fpc, .evf, .fau, .plu, .setc, .chs, .mtr, .bil, .slc, .pvt]
  | .flowPulse _ _ => [.fpc, .fau, .evf]
  | .deliveryOpen _ _ _ _ | .deliveryCancel _ => [.fau, .hpt]
  | .deliveryClose _ | .resyncTank _ => [.fau, .evf, .plu, .slc, .pvt, .hpt]
  | .deliveryAutoClose | .levelCheck => [.fau, .evf, .plu, .slc, .pvt]
  | .strayBurstEnd => [.fau]
  | .claimExpiry _ _ => [.plu]
  | .pledgeDeadline _ _ => [.plu, .slc, .evf, .pvt]
  | .selectProfile _ _ => [.plu, .hpt]
  | .changeover _ _ => [.chs, .slc, .evf, .pvt, .hpt]
  | .cancelChangeover _ | .restore _ _ => [.chs, .slc, .evf, .mtr, .fpc, .pvt, .hpt]
  | .claimDeadline | .sourceLossConfirmed _ | .openLimit | .deadTimeEnd | .closeLimit | .topupTimer
  | .returnConfirmed _ => [.chs, .slc, .evf, .mtr, .fpc, .pvt]
  | .clearFeeder _ _ => [.chs, .hpt]
  | .setChannel _ _ _ _ _ _ => [.mtr, .fpc, .evf, .choices, .hpt]
  | .shedHost _ _ _ => [.mtr, .fpc, .evf, .hpt]
  | .defineTariff _ _ _ _ _ _ => [.mtr, .hpt]
  | .resolveTariff _ _ _ _ | .setLimit _ _ _ => [.mtr, .bil, .fpc, .evf, .hpt]
  | .resolveRequestTimer _ => [.mtr, .evf]
  | .accountOpen _ _ _ | .ackBilling _ _ => [.bil, .hpt]
  | .accountClose _ _ => [.bil, .evf, .hpt]
  | .intervalBoundary => [.bil, .evf]
  | .hostTransaction _ => [.hpt, .evf]
  | .transactionBegins | .configure _ _ | .noop _ | .readNode _ _ _ | .readPeers _ _ | .readTank _
  | .readLots _ | .readPledges _ | .readAccount _ _ | .readBilling _ | .readEvents _ | .readFaults _ => [.hpt]
  | .commit _ => [.hpt, .slc, .pvt, .setc, .fau, .plu, .chs, .fpc, .mtr, .bil, .evf]
  | .resetSoft _ => [.hpt, .slc, .pvt, .plu, .chs, .evf]
  | .setTime _ _ => [.clock, .pvt, .bil, .evf, .hpt]
  | .siteTimeWrap => [.clock, .pvt, .bil, .evf]
  | .attnDelay => [.evf]
  | .ackEvents _ _ | .serviceMark _ _ | .clearFaults _ _ | .setFaultMask _ _ => [.evf, .hpt]
  | .powerOnReset =>
    [.clock, .slc, .pvt, .setc, .fau, .plu, .chs, .fpc, .mtr, .bil, .hpt, .evf]

/-- The frame of every command: the parts that `mayTouch` does not list are unchanged, on every path; the
queue of waiting commands by none of them, and the clocks by SET_TIME, the wrap and power-on reset alone. -/
def Obligations.FrameOfEveryCommand : Prop :=
  ∀ (c : Instr) (s t : State), exec c s = .next t → KeepsAllBut (mayTouch c) s t

/-! ### What the statements of several chapters speak of -/

/-- The FAULT event of an occurrence of a fault kind: none while the kind is masked, and marked as the one
that filled the first-fault record where that record was empty (R202, R209). -/
def Sys2Proof.Claims.faultPosts (k : FaultKind) (s : State) : List (EventKind × Subject × Nat × Nat) :=
  if k.inSet s.evf.mask then []
  else [(.fault, .node s.eventId, if s.evf.first.kind.isNone then 1 else 0, k.code)]

/-- A fault kind reported: its sticky status and no other, and its event behind the events `l` (R202). -/
def Sys2Proof.Claims.Reports (k : FaultKind) (l : List (EventKind × Subject × Nat × Nat)) (s t : State) : Prop :=
  t.evf.sticky = s.evf.sticky ||| k.bit ∧ Posts (l ++ faultPosts k s) s t

/-- The events `l` are the first that are posted, where the ring has room for them (R197). -/
def Sys2Proof.Claims.PostsFirst (l : List (EventKind × Subject × Nat × Nat)) (s t : State) : Prop :=
  s.evf.ring.length + l.length ≤ 64 → s.evf.ring ++ stamped s s.evf.lost l <+: t.evf.ring

/-- A GENSET in RUN or MUTE. -/
def Sys2Proof.Claims.Running (s : State) : Prop := s.hpt.role = some .genset ∧ s.hpt.nodeState ≠ .config

/-- A BOARD in RUN or MUTE. -/
def Sys2Proof.Claims.OnBoard (s : State) : Prop := s.hpt.role = some .board ∧ s.hpt.nodeState ≠ .config

/-- An offer finds room in the queue, or is discarded outside RUN: no TX_DROP comes of it. -/
def Sys2Proof.Claims.Room (s : State) : Prop := s.hpt.nodeState ≠ .run ∨ s.slc.queue.length < 16

/-- A feeder's source is not confirmed lost (R114). -/
def Sys2Proof.Claims.NotLost (f : Feeder) (s : State) : Prop :=
  ∀ w, (s.chs.feeder f).lossWatch = some w → s.now < w.since + s.cfg.lossConfirm * millisecond

/-- SETTLED on feeder `f` (R110, R125, R129): with no record, the top-up timer at 30 s while a level is under
capacity shed, and no contactor asked to move; or, where the source of `f` is already confirmed lost, its
forced changeover begun with an OPEN pulse of 200 ms. -/
def Sys2Proof.Claims.Settles (f : Feeder) (billing : Option Feeder) (s t : State) : Prop :=
  (NotLost f s → t.chs.state = .settled ∧ t.chs.active = some f ∧ t.chs.billing = billing ∧
    t.chs.claim = none ∧ t.fpc = s.fpc ∧ t.chs.topupTimer =
      if t.chs.shed1.isSome ∨ t.chs.shed2.isSome ∨ t.chs.shed3.isSome then some (s.now + 30 * second)
      else none) ∧
  (¬NotLost f s → t.fpc.pulse f = some ⟨.openLine, s.now + 200 * millisecond⟩)

/-- The claim id of this board's record. -/
def Sys2Proof.Claims.ownClaim (s : State) (c : ClaimRec) : Subject := .claim ⟨s.eventId, c.serial⟩

/-! ### Chapter 1: the site link -/

/-- The data bits of a byte, most significant first. -/
def Sys2Proof.Claims.bitsOf (b : Byte) : List Bool := (List.range 8).map fun i => b.getLsbD (7 - i)

/-- The CRC register after one data bit, as R3 words it: shifted one place toward its high end, XORed with
0x1021 after the shift when the bit shifted out of the top differs from the data bit. -/
def Sys2Proof.Claims.crcAfter (reg : BitVec 16) (bit : Bool) : BitVec 16 :=
  if reg.getLsbD 15 = bit then reg <<< 1 else (reg <<< 1) ^^^ 0x1021#16

/-- R3, the frame check: the register over header and payload, bit by bit from 0xFFFF; the check value of
"1" to "9"; sent high byte first behind what it covers, the sync byte not included; and the receiver's
comparison over the header and payload it received. -/
def Obligations.FrameCheck : Prop :=
  (∀ bytes : List Byte, crc16 bytes = (bytes.flatMap bitsOf).foldl crcAfter 0xFFFF#16) ∧
  crc16 [0x31, 0x32, 0x33, 0x34, 0x35, 0x36, 0x37, 0x38, 0x39] = 0x29B1#16 ∧
  (∀ (src : Nat) (b : Bulletin), ∃ h l : Byte,
    b.frame src = [syncByte] ++ ([byte src, byte b.kindCode, byte b.payload.length] ++ b.payload) ++ [h, l] ∧
    h ++ l = crc16 ([byte src, byte b.kindCode, byte b.payload.length] ++ b.payload)) ∧
  (∀ (src kind len h l : Byte) (payload : List Byte),
    checkFrame src kind len payload [h, l] = .dropped .crcBad ↔ h ++ l ≠ crc16 ([src, kind, len] ++ payload))

/-- R16, the backoff generator: one step; the register is never led to 0; the draw of R14 at a collision;
what COMMIT, power-on and soft reset leave in it; that no other command moves it; and that a COLLISION
without a draw leaves it: at the eighth of any entry, at a frame that is not retried, with nothing sent. -/
def Obligations.BackoffGenerator : Prop :=
  (∀ g : BitVec 16, (∀ i, i < 15 → (backoffStep g).getLsbD i = g.getLsbD (i + 1)) ∧
    (backoffStep g).getLsbD 15 = (g.getLsbD 0 ^^ g.getLsbD 2 ^^ g.getLsbD 3 ^^ g.getLsbD 5) ∧
    (g ≠ 0 → backoffStep g ≠ 0)) ∧
  (∀ (s : State) (f : TxFrame) (pre post : List TxEntry) (e : TxEntry),
    s.slc.tx = some f → f.orphan = false → s.slc.queue = pre ++ e :: post → e.sending = true →
    (∀ x ∈ pre, x.sending = false) → e.attempts < 7 →
    ∃ t x, exec .collision s = .next t ∧ t.slc.backoffGen = backoffStep s.slc.backoffGen ∧
      t.slc.queue = pre ++ x :: post ∧ x.attempts = e.attempts + 1 ∧
      x.backoffEnd = some (s.clock.site
        + (backoffStep s.slc.backoffGen).toNat % 2 ^ min (e.attempts + 1) 5 * backoffSlot)) ∧
  (∀ (s t : State) (tag : Byte) (c : ConfigRecord), exec (.commit tag) s = .next t →
    s.hpt.nodeState = .config → s.hpt.record = some c → c.mCrit < c.mLow → c.openingStock ≤ c.capacity →
    t.slc.backoffGen =
      (let v := BitVec.ofNat 16 c.seed ^^^ BitVec.ofNat 16 (c.nodeId * 257)
       if v = 0 then 0xACE1#16 else v)) ∧
  State.reset.slc.backoffGen = 0xACE1#16 ∧
  (∀ (c : Instr) (s t : State), exec c s = .next t → (∀ tag, c ≠ .commit tag) → c ≠ .collision →
    c ≠ .powerOnReset → t.slc.backoffGen = s.slc.backoffGen) ∧
  (∀ s : State, s.slc.tx = none ∨ (∃ f, s.slc.tx = some f ∧ f.orphan = true) ∨
    (∀ e, s.slc.queue.find? (·.sending) = some e → 7 ≤ e.attempts) →
    ∃ t, exec .collision s = .next t ∧ t.slc.backoffGen = s.slc.backoffGen)

/-- Every bulletin whose fields are in range goes through a frame unchanged: its payload has the length R5
expects of its kind code, the receiver reads back the same bulletin from it, and the frame that the node
`src` sends passes every check of R5 (R2, R3, R5, R206). That a kW or a rating of 0 is in range here, which check 4
of R5 does not list, is the model's reading (log entry 41). -/
def Obligations.BulletinsRoundTrip : Prop :=
  ∀ (b : Bulletin) (src : Nat), b.inRange → 1 ≤ src → src ≤ 62 →
    b.payload.length ≤ 32 ∧ lengthOk b.kindCode b.payload.length = true ∧
    readPayload b.kindCode b.payload = some b ∧
    checkFrame (byte src) (byte b.kindCode) (byte b.payload.length) b.payload
      (crcBytes (b.covered src)) = .valid b

/-- The receiver and the bus right after a complete frame (R1, R4, R17): the receiver waits again, and with
the line at the idle level the bus is IDLE and the link NORMAL. -/
def Sys2Proof.Claims.heard (lineIdle : Bool) (s : State) : State :=
  { s with slc := { s.slc with
    rx := .waiting
    bus := if lineIdle then .idle s.now else s.slc.bus
    link := if lineIdle then .normal else s.slc.link } }

/-- The refresh of a node's record at this moment (R33): last heard now and FRESH, but for a LOST one. -/
def Sys2Proof.Claims.refreshed (node : Nat) (s : State) : State :=
  { s with pvt := { s.pvt with peers := s.pvt.peers.map fun p =>
    if p.node = node ∧ p.freshness ≠ .lost then { p with lastHeard := s.siteMillis, freshness := .fresh }
    else p } }

/-- The block that a valid bulletin other than a STATUS reaches, by node state and role, and what that block
does with it (R7): on a GENSET the Set Controller and the Pledge Unit, on a BOARD the sequencer. -/
def Sys2Proof.Claims.reaches (src : Nat) (b : Bulletin) (capture : List Byte) (s : State) : State :=
  if s.hpt.nodeState = .config then s
  else match s.hpt.role, b with
    | some .genset, .intent group kind key _ => takeIntent src group kind key s
    | some .genset, .claim serial group kind cls kw => takeClaim ⟨src, serial⟩ group kind cls kw s
    | some .genset, .confirm serial entries => takeConfirm ⟨src, serial⟩ entries capture s
    | some .genset, .release serial why => takeRelease ⟨src, serial⟩ why s
    | some .board, .pledge board serial kw => takePledge src board serial kw s
    | some .board, .revoke board serial revoked remaining => takeRevoke src board serial revoked remaining s
    | _, _ => s

/-- A frame complete at the receiver (R4 to R7): in every case the receiver waits again and the bus is IDLE
at that moment if the line is at the idle level. The node's own frame heard back goes no further (R6). A
frame that fails a check of R5 is dropped with its fault, whose capture is the header and five payload bytes,
refreshes nothing and reaches no block. A valid STATUS of another node goes to the peer view, and one
without a record makes a FRESH one, stamped with the site time, while the view has room, with PEER_NEW (R32).
A valid bulletin of another kind refreshes its sender's record and reaches the block that its kind, the node
state and the role name (R7, R33); that the refresh comes first is the model's choice (log entry 40). A STATUS
with the own id is DUP_ID in RUN and takes the node to MUTE (R18, R34): queue, hold and successor are emptied, a
frame being sent runs out (log entry 11), no extra is due, the headroom is 0 and a planned claim ends (R120, log
entry 29); in MUTE it does nothing. -/
def Obligations.FramesReceived : Prop :=
  ∀ (s : State) (own : Bool) (src kind len : Byte) (rest : List Byte) (lineIdle : Bool),
    s.slc.rx = .frame own src kind len → rest.length = len.toNat + 2 →
    let u := heard lineIdle s
    let found := checkFrame src kind len (rest.take len.toNat) (rest.drop len.toNat)
    let capture := ([src, kind, len] ++ rest.take len.toNat ++ List.replicate 5 0).take 8
    ∃ t, exec (.frameReceived rest lineIdle) s = .next t ∧
      (own = true → t = u) ∧
      (∀ k, own = false → found = .dropped k →
        KeepsAllBut [.slc, .evf] s t ∧ Reports k [] s t ∧ t.slc = u.slc ∧
        (s.evf.first.kind = none → k.inSet s.evf.mask = false →
          t.evf.first = ⟨some k, s.siteSec, s.siteMs, capture⟩)) ∧
      (∀ b, own = false → found = .valid b → b.isStatus = false →
        t = reaches src.toNat b capture (refreshed src.toNat u)) ∧
      (∀ body, own = false → found = .valid (.status body) → s.hpt.ownId ≠ some src.toNat →
        t = takeStatus src.toNat body u ∧
        (s.pvt.peer src.toNat = none → s.pvt.peers.length < 32 →
          KeepsAllBut [.slc, .evf, .pvt] s t ∧ t.slc = u.slc ∧
          t.pvt = { s.pvt with peers := s.pvt.peers ++ [⟨src.toNat, s.siteMillis, body, .fresh, none⟩] } ∧
          Posts [(.peerNew, .node src.toNat, pair16 body.role.code body.runTag, 0)] s t)) ∧
      (∀ body, own = false → found = .valid (.status body) → s.hpt.ownId = some src.toNat →
        let planned (c : ClaimRec) := s.hpt.role = some .board ∧ s.chs.state = .claiming ∧
          s.chs.claim = some c ∧ c.origin = .changeover
        (s.hpt.nodeState ≠ .run → t = u) ∧
        (s.hpt.nodeState = .run →
          t.hpt = { s.hpt with nodeState := .mute } ∧
          t.slc = { u.slc with
            queue := [], hold := [], successor := none
            tx := s.slc.tx.map fun f => { f with orphan := true } } ∧
          t.pvt = { s.pvt with extraDue := false } ∧ t.plu = { s.plu with headroom := 0 } ∧
          FaultKind.dupId.inSet t.evf.sticky = true ∧
          PostsFirst (faultPosts .dupId s ++ [(.dupId, .node s.eventId, 0, 0)]) s t ∧
          ((∀ c, ¬planned c) → KeepsAllBut [.slc, .evf, .pvt, .plu, .hpt] s t) ∧
          (∀ c, planned c → Settles (otherFeeder c.target) s.chs.billing s t ∧
            PostsFirst (faultPosts .dupId s
              ++ [(.dupId, .node s.eventId, 0, 0), (.changeoverFailed, ownClaim s c, 0, 3)]) s t)))

/-- A frame starts (R2, R12): in RUN on a NORMAL link with nothing being sent, the first entry of a queue in
service order whose backoff end has passed starts once the bus has been IDLE for its class gap, 3, 6 or 9 gap
units and 4 more with the penalty flag of its class (R13). The entry is SENDING and the frame that goes out is
the sync byte, the header, the payload and the CRC of its bulletin.

A collision (R14) of an entry that is not a STATUS: driving stops; the new count 1 to 7 leaves the entry in its
place, not SENDING, with its backoff end r slots of 16 gap units away (past the end of site time too, unwrapped:
log entry 9); the eighth takes it from the queue, with TX_DROP (COLLISION_LIMIT) and fault COLLISION_LIMIT.
Nothing but the link and the event unit changes.

A frame sent to its last CRC bit (R9, R13, R15): the entry leaves the queue, or a kept successor takes its slot
as a fresh entry, and the penalty flag of its class is set; and the end of a backoff (R12): the entries whose
backoff end has passed are in backoff no longer, and the others as they were (after a SET_TIME back before the end
too: log entry 9). -/
def Obligations.Transmission : Prop :=
  (∀ (s : State) (e : TxEntry) (rest : List TxEntry) (since : Nat),
     s.hpt.nodeState = .run → s.slc.link = .normal → s.slc.tx = none → s.slc.bus = .idle since →
     s.slc.queue = e :: rest → e.sending = false → (∀ x ∈ rest, e.cls.code ≤ x.cls.code) →
     (∀ b, e.backoffEnd = some b → b ≤ s.clock.site) →
     since + ((match e.cls with
       | .urgent => 3 + if s.slc.penalty.urgent then 4 else 0
       | .normal => 6 + if s.slc.penalty.normal then 4 else 0
       | .bulk => 9 + if s.slc.penalty.bulk then 4 else 0) * gapUnit) ≤ s.now →
     exec .frameStart s = .next { s with slc := { s.slc with
       queue := { e with sending := true } :: rest
       bus := .busy s.now
       rx := .candidate true
       tx := some ⟨e.bulletin.frame s.cfg.nodeId, e.cls, s.now, false⟩ } }) ∧
  (∀ (s : State) (f : TxFrame) (pre post : List TxEntry) (e : TxEntry),
     s.slc.tx = some f → f.orphan = false → s.slc.queue = pre ++ e :: post → e.sending = true →
     (∀ x ∈ pre, x.sending = false) → e.bulletin.isStatus = false →
     ∃ t, exec .collision s = .next t ∧ KeepsAllBut [.slc, .evf] s t ∧ t.slc.tx = none ∧
       (e.attempts < 7 → t.evf = s.evf ∧ t.slc.queue = pre ++ { e with
         attempts := e.attempts + 1
         sending := false
         backoffEnd := some (s.clock.site + (backoffStep s.slc.backoffGen).toNat
           % 2 ^ min (e.attempts + 1) 5 * (16 * gapUnit)) } :: post) ∧
       (7 ≤ e.attempts → t.slc.queue = pre ++ post ∧ t.slc.backoffGen = s.slc.backoffGen ∧
         Reports .collisionLimit
           [(.txDrop, e.bulletin.dropSubject s, pair16 e.bulletin.kindCode e.cls.code, 2)] s t)) ∧
  (∀ (s : State) (f : TxFrame) (pre post : List TxEntry) (e : TxEntry),
    s.slc.tx = some f → f.orphan = false → f.startedAt + f.bytes.length * gapUnit ≤ s.now →
    s.slc.queue = pre ++ e :: post → e.sending = true → (∀ x ∈ pre, x.sending = false) →
    (s.slc.successor.isSome → e.bulletin.isStatus = true) →
    ∃ t, exec .frameSent s = .next t ∧ KeepsAllBut [.slc] s t ∧ t.slc.tx = none ∧
      t.slc.successor = none ∧ t.slc.penalty = s.slc.penalty.set f.cls ∧
      t.slc.queue = pre ++ (match s.slc.successor with
        | some b => [⟨b, e.cls, 0, none, false⟩]
        | none => []) ++ post) ∧
  (∀ s : State, ∃ t, exec .backoffEnd s = .next t ∧ KeepsAllBut [.slc] s t ∧
    t.slc.queue.length = s.slc.queue.length ∧ ∀ (i : Nat) (e : TxEntry), s.slc.queue[i]? = some e →
      t.slc.queue[i]? = some (match e.backoffEnd with
        | some b => if b ≤ s.clock.site then { e with backoffEnd := none } else e
        | none => e))

/-- No STATUS waits where a STATUS is offered (R9). -/
def Sys2Proof.Claims.NoneWaits (b : Bulletin) (s : State) : Prop :=
  b.isStatus = true → (∀ e ∈ s.slc.queue, e.bulletin.isStatus = false) ∧
    ∀ h ∈ s.slc.hold, h.bulletin.isStatus = false

/-- An offer in RUN (R8 to R11), elsewhere discarded. A STATUS offered while one waits replaces it, in its
place in the queue or the hold, or as the successor of one that is SENDING. Any other offer joins a queue of
fewer than 16 at the tail of its class with no attempt and no backoff. At 16 an URGENT one takes the place of
the newest BULK entry that is not SENDING, or of the newest NORMAL one where no BULK can go, told by TX_DROP
(EVICTED); a NORMAL or BULK one goes to a retry hold with room for 50 ms; and where nothing can go, or the
hold is full, the offer is dropped with TX_DROP (QUEUE_FULL) and fault QUEUE_DROP.

The retry of the first held bulletin (R11): with fewer than 16 entries it joins the queue at the tail of
its class; with 16 it is dropped with TX_DROP (QUEUE_FULL) and fault QUEUE_DROP. And the collision of a STATUS
with a successor (R9, R14): the successor takes over the entry with its new count and backoff, or the slot of
one that is dropped at the eighth. (That the 50 ms are elapsed time is log entry 9.) -/
def Obligations.OffersAndRetry : Prop :=
  (∀ (s : State) (b : Bulletin) (cls : TxClass), s.hpt.nodeState ≠ .run → offer b cls s = s) ∧
  (∀ (s : State) (b : Bulletin) (cls : TxClass), s.hpt.nodeState = .run → b.isStatus = true →
     (∀ (pre post : List TxEntry) (e : TxEntry), s.slc.queue = pre ++ e :: post →
       e.bulletin.isStatus = true → (∀ x ∈ pre, x.bulletin.isStatus = false) →
       (e.sending = false → offer b cls s = { s with slc := { s.slc with
         queue := pre ++ { e with bulletin := b } :: post } }) ∧
       (e.sending = true → offer b cls s = { s with slc := { s.slc with successor := some b } })) ∧
     (∀ (pre post : List HeldBulletin) (h : HeldBulletin), s.slc.hold = pre ++ h :: post →
       h.bulletin.isStatus = true → (∀ x ∈ pre ++ post, x.bulletin.isStatus = false) →
       (∀ e ∈ s.slc.queue, e.bulletin.isStatus = false) →
       offer b cls s = { s with slc := { s.slc with hold := pre ++ { h with bulletin := b } :: post } })) ∧
  (∀ (s : State) (b : Bulletin) (cls : TxClass), s.hpt.nodeState = .run → NoneWaits b s →
     (∀ as bs : List TxEntry, s.slc.queue = as ++ bs → s.slc.queue.length < 16 →
       (∀ x ∈ as, x.cls.code ≤ cls.code) → (∀ x ∈ bs, cls.code < x.cls.code) →
       offer b cls s = { s with slc := { s.slc with queue := as ++ ⟨b, cls, 0, none, false⟩ :: bs } }) ∧
     (∀ (as bs post : List TxEntry) (e : TxEntry), cls = .urgent →
       s.slc.queue = as ++ bs ++ e :: post → 16 ≤ s.slc.queue.length → (∀ x ∈ as, x.cls = .urgent) →
       (∀ x ∈ bs, x.cls ≠ .urgent) → e.cls ≠ .urgent → e.sending = false →
       (∀ x ∈ post, x.cls ≠ .urgent ∧ (x.cls = e.cls → x.sending = true)) →
       (e.cls = .normal → ∀ x ∈ bs ++ post, x.cls = .bulk → x.sending = true) →
       (offer b cls s).slc = { s.slc with queue := as ++ ⟨b, cls, 0, none, false⟩ :: (bs ++ post) } ∧
       KeepsAllBut [.slc, .evf] s (offer b cls s) ∧
       Posts [(.txDrop, e.bulletin.dropSubject s, pair16 e.bulletin.kindCode e.cls.code, 0)] s
         (offer b cls s)) ∧
     (cls ≠ .urgent → 16 ≤ s.slc.queue.length → s.slc.hold.length < 4 →
       offer b cls s = { s with slc := { s.slc with
         hold := s.slc.hold ++ [⟨b, cls, s.now + 50 * millisecond⟩] } }) ∧
     (16 ≤ s.slc.queue.length → (cls ≠ .urgent ∧ 4 ≤ s.slc.hold.length) ∨
       (cls = .urgent ∧ ∀ x ∈ s.slc.queue, x.cls = .urgent ∨ x.sending = true) →
       KeepsAllBut [.evf] s (offer b cls s) ∧
       Reports .queueDrop [(.txDrop, b.dropSubject s, pair16 b.kindCode cls.code, 1)] s (offer b cls s))) ∧
  (∀ (s : State) (h : HeldBulletin) (rest : List HeldBulletin), s.slc.hold = h :: rest → h.retryAt ≤ s.now →
     ∃ t, exec .retryHoldRetry s = .next t ∧ KeepsAllBut [.slc, .evf] s t ∧ t.slc.hold = rest ∧
       (∀ as bs : List TxEntry, s.slc.queue = as ++ bs → s.slc.queue.length < 16 →
         (∀ x ∈ as, x.cls.code ≤ h.cls.code) → (∀ x ∈ bs, h.cls.code < x.cls.code) →
         t.evf = s.evf ∧ t.slc.queue = as ++ ⟨h.bulletin, h.cls, 0, none, false⟩ :: bs) ∧
       (16 ≤ s.slc.queue.length → t.slc.queue = s.slc.queue ∧
         Reports .queueDrop
           [(.txDrop, h.bulletin.dropSubject s, pair16 h.bulletin.kindCode h.cls.code, 1)] s t)) ∧
  (∀ (s : State) (f : TxFrame) (pre post : List TxEntry) (e : TxEntry) (b : Bulletin),
     s.slc.tx = some f → f.orphan = false → s.slc.queue = pre ++ e :: post → e.sending = true →
     (∀ x ∈ pre, x.sending = false) → e.bulletin.isStatus = true → s.slc.successor = some b →
     ∃ t, exec .collision s = .next t ∧ KeepsAllBut [.slc, .evf] s t ∧ t.slc.tx = none ∧
       t.slc.successor = none ∧
       (e.attempts < 7 → ∃ x, t.slc.queue = pre ++ x :: post ∧ x = { e with
         bulletin := b, attempts := e.attempts + 1, sending := false, backoffEnd := x.backoffEnd } ∧
         x.backoffEnd.isSome = true) ∧
       (7 ≤ e.attempts → t.slc.queue = pre ++ ⟨b, e.cls, 0, none, false⟩ :: post ∧
         Reports .collisionLimit
           [(.txDrop, e.bulletin.dropSubject s, pair16 e.bulletin.kindCode e.cls.code, 2)] s t))

/-- Another station's activity makes an IDLE bus BUSY, which discards the idle time and clears all penalty flags
(R1, R13), also while the node is sending (log entry 45), and the receiver begins a candidate sync byte (R4); a
BUSY bus becomes IDLE at one gap unit of rest, with the idle time at 0, the link NORMAL (R17) and the receiver
waiting. What the receiver had of a frame is abandoned with FRAME_LEN, and unframed activity without a fault
(R4).

The receiver's header (R4): a candidate that is not the sync byte is unframed activity, discarded without a
fault; behind the sync byte a length above 32 abandons the frame with FRAME_LEN, and any other length makes a
frame in assembly.

The bus BUSY for 20 ms on a NORMAL link (R17): the link is STUCK, LINK_STUCK is reported, and the queue and the
hold keep their entries; while it is STUCK no frame starts. -/
def Obligations.BusAndReceiver : Prop :=
  (∀ (s : State) (since : Nat), s.slc.bus = .idle since →
    exec .busBusy s = .next { s with slc := { s.slc with
      bus := .busy s.now, penalty := ⟨false, false, false⟩, rx := .candidate false } }) ∧
  (∀ (s : State) (since : Nat) (taken : List Byte), s.slc.bus = .busy since →
    ∃ t, exec (.busIdleTimeout taken) s = .next t ∧
      t.slc = { s.slc with bus := .idle s.now, link := .normal, rx := .waiting } ∧
      KeepsAllBut [.slc, .evf] s t ∧
      (s.slc.rx = .waiting → t.evf = s.evf) ∧
      (∀ own, s.slc.rx = .candidate own → taken.head? ≠ some syncByte → t.evf = s.evf) ∧
      (∀ own, s.slc.rx = .candidate own → taken.head? = some syncByte →
        Reports .frameLen [] s t) ∧
      (∀ own src kind len, s.slc.rx = .frame own src kind len →
        Reports .frameLen [] s t)) ∧
  (∀ (s : State) (own : Bool) (sync src kind len : Byte), s.slc.rx = .candidate own →
     (sync ≠ syncByte → exec (.frameHeaderReceived sync src kind len) s
       = .next { s with slc := { s.slc with rx := .waiting } }) ∧
     (sync = syncByte → len.toNat ≤ 32 → exec (.frameHeaderReceived sync src kind len) s
       = .next { s with slc := { s.slc with rx := .frame own src kind len } }) ∧
     (sync = syncByte → 32 < len.toNat → ∃ t, exec (.frameHeaderReceived sync src kind len) s = .next t ∧
       t.slc = { s.slc with rx := .waiting } ∧ KeepsAllBut [.slc, .evf] s t ∧
       Reports .frameLen [] s t)) ∧
  (∀ (s : State) (since : Nat), s.slc.bus = .busy since → s.slc.link = .normal →
    since + 20 * millisecond ≤ s.now →
    ∃ t, exec .linkStuck s = .next t ∧ KeepsAllBut [.slc, .evf] s t ∧
      t.slc = { s.slc with link := .stuck } ∧
      Reports .linkStuck [] s t) ∧
  (∀ s : State, s.slc.link = .stuck → exec .frameStart s = .next s)

/-! ### Chapter 2: the peer view -/

/-- The STATUS that the node's role gives it at this moment, field by field (R20, R21). -/
def Sys2Proof.Claims.statusNow (s : State) (body : StatusBody) : Prop :=
  (s.hpt.role = some .genset ∧ body = .genset ⟨s.cfg.groupA, s.setc.state, decide (s.setc.mode = .auto),
    s.fau.refuelWanted, s.fau.diverge, s.fpc.lost, s.hpt.runTag.getD 0, s.fpc.sample.p, s.cfg.rating,
    s.plu.headroom, (s.plu.pledges.map (·.kw)).sum, s.plu.ci, s.fau.minutes⟩) ∨
  (s.hpt.role = some .board ∧ body = .board ⟨s.cfg.groupA, s.cfg.groupB, s.chs.state, s.chs.active,
    s.chs.shed1.isSome || s.chs.shed2.isSome || s.chs.shed3.isSome, s.fpc.lost, s.hpt.runTag.getD 0,
    s.fpc.sample.p, s.chs.serial⟩)

/-- STATUS offers (R20, R21, R27, R28), with no bulletin waiting: at a periodic instant in RUN a STATUS of
this moment is offered, BULK, the next instant is S later and a due extra is cancelled; a due extra is
offered in RUN once 250 ms have passed since the last. In MUTE the instant passes without an offer. -/
def Obligations.StatusOffered : Prop :=
  (∀ (s : State) (due : Nat) (body : StatusBody), s.pvt.statusNext = some due → due ≤ s.now →
    s.hpt.nodeState = .run → s.slc.queue = [] → s.slc.hold = [] → statusNow s body →
    exec .statusTimer s = .next { s with
      slc := { s.slc with queue := [⟨.status body, .bulk, 0, none, false⟩] }
      pvt := { s.pvt with
        statusNext := some (due + s.pvt.base * second), extraDue := false
        lastHeadroom := s.plu.headroom } }) ∧
  (∀ (s : State) (body : StatusBody), s.pvt.extraDue = true →
    (∀ x, s.pvt.lastExtra = some x → x + 250 * millisecond ≤ s.now) →
    s.hpt.nodeState = .run → s.slc.queue = [] → s.slc.hold = [] → statusNow s body →
    exec .extraStatusDue s = .next { s with
      slc := { s.slc with queue := [⟨.status body, .bulk, 0, none, false⟩] }
      pvt := { s.pvt with lastExtra := some s.now, extraDue := false, lastHeadroom := s.plu.headroom } }) ∧
  (∀ (s : State) (due : Nat), s.pvt.statusNext = some due → due ≤ s.now → s.hpt.nodeState = .mute →
    exec .statusTimer s = .next { s with pvt := { s.pvt with
      statusNext := some (due + s.pvt.base * second) } })

/-- A record ages (R29): FRESH becomes STALE at 3 S without event, STALE becomes LOST at 10 S with its
lost-since time, event PEER_LOST and the overflow flag cleared (R32), and a record LOST for 60 S leaves the
view without event, in every node state; every other record stands. The notice of R35 takes the lost node's
claims from a GENSET's tables and its pledge from a BOARD's list, in RUN and MUTE, and goes nowhere in CONFIG.

A valid STATUS at the peer view (R30 to R32). Of a known node with the run tag and role recorded it rebuilds
the record FRESH, with PEER_NEW RETURNED where that was LOST and without an event elsewhere. With another run
tag or role it is a restart: PEER_RESTART first, then the peer-gone notice, which takes the node's claims from
a GENSET's tables and its pledge from a BOARD's list (R35), then the record rebuilt. Of a node without a
record it makes one with PEER_NEW while the view has room; in a full view it replaces the record LOST longest,
of equals the lower node id; where none is LOST it is told once as PEER_OVERFLOW and not recorded. (The codes NEW
0 and RETURNED 1 are the model's, log entry 7.) -/
def Obligations.PeersAge : Prop :=
  (∀ (s : State) (n : Nat) (p : Peer), s.pvt.peer n = some p →
    (p.freshness = .fresh → (3 * s.pvt.base * 1000 : Int) ≤ s.siteMillis - p.lastHeard →
      ∃ t, exec (.peerStale n) s = .next t ∧ KeepsAllBut [.pvt] s t ∧
        t.pvt.peers = s.pvt.peers.map fun x => if x.node = n then { x with freshness := .stale } else x) ∧
    (p.freshness = .stale → (10 * s.pvt.base * 1000 : Int) ≤ s.siteMillis - p.lastHeard →
      ∃ t, exec (.peerLost n) s = .next t ∧
        t.pvt.peers = (s.pvt.peers.map fun x =>
          if x.node = n then { x with freshness := .lost, lostSince := some (s.siteMillis : Int) } else x) ∧
        t.pvt.overflowReported = false ∧
        PostsFirst [(.peerLost, .node n, 0, 0)] s t ∧
        (s.hpt.nodeState = .config → KeepsAllBut [.pvt, .evf] s t ∧ Posts [(.peerLost, .node n, 0, 0)] s t) ∧
        (Running s → KeepsAllBut [.pvt, .evf, .plu, .slc] s t ∧ (∀ w ∈ t.plu.waits, w.claim.board ≠ n) ∧
          (∀ e ∈ t.plu.pledges, e.claim.board ≠ n) ∧
          ∀ e ∈ s.plu.pledges, e.claim.board ≠ n →
            ∃ e' ∈ t.plu.pledges, e.kw ≤ e'.kw ∧ e' = { e with kw := e'.kw }) ∧
        (OnBoard s → KeepsAllBut [.pvt, .evf, .chs] s t ∧ Posts [(.peerLost, .node n, 0, 0)] s t ∧
          t.chs = { s.chs with claim := s.chs.claim.map fun c =>
            { c with pledges := c.pledges.filter fun e => e.node != n } })) ∧
    (∀ since, p.freshness = .lost → p.lostSince = some since →
      (60 * s.pvt.base * 1000 : Int) ≤ s.siteMillis - since →
      ∃ t, exec (.peerRemoved n) s = .next t ∧ KeepsAllBut [.pvt] s t ∧
        t.pvt.peers = (s.pvt.peers.filter fun x => x.node != n) ∧ t.pvt.overflowReported = false)) ∧
  (∀ (s : State) (n : Nat) (body : StatusBody),
    let t := takeStatus n body s
    let new : Peer := ⟨n, s.siteMillis, body, .fresh, none⟩
    let inPlaceOf (node : Nat) := { s with pvt := { s.pvt with
      peers := s.pvt.peers.map fun x => if x.node = node then new else x } }
    let isNew : EventKind × Subject × Nat × Nat := (.peerNew, .node n, pair16 body.role.code body.runTag, 0)
    (∀ p, s.pvt.peer n = some p → p.status.runTag = body.runTag → p.status.role = body.role →
      (p.freshness ≠ .lost → t = inPlaceOf n) ∧
      (p.freshness = .lost → KeepsAllBut [.evf] (inPlaceOf n) t ∧
        Posts [(.peerNew, .node n, pair16 body.role.code body.runTag, 1)] s t)) ∧
    (∀ p, s.pvt.peer n = some p → p.status.runTag ≠ body.runTag ∨ p.status.role ≠ body.role →
      t.pvt.peers = (inPlaceOf n).pvt.peers ∧
      PostsFirst [(.peerRestart, .node n, pair16 p.status.runTag body.runTag, 0)] s t ∧
      (s.hpt.nodeState = .config → KeepsAllBut [.evf] (inPlaceOf n) t) ∧
      (Running s → KeepsAllBut [.pvt, .evf, .plu, .slc] s t ∧ (∀ w ∈ t.plu.waits, w.claim.board ≠ n) ∧
        ∀ e ∈ t.plu.pledges, e.claim.board ≠ n) ∧
      (OnBoard s → KeepsAllBut [.evf, .chs] (inPlaceOf n) t ∧ t.chs = { s.chs with
        claim := s.chs.claim.map fun c => { c with pledges := c.pledges.filter fun e => e.node != n } })) ∧
    (s.pvt.peer n = none →
      (s.pvt.peers.length < 32 → KeepsAllBut [.pvt, .evf] s t ∧ Posts [isNew] s t ∧
        t.pvt = { s.pvt with peers := s.pvt.peers ++ [new] }) ∧
      (∀ q since, 32 ≤ s.pvt.peers.length → q ∈ s.pvt.peers → q.freshness = .lost → q.lostSince = some since →
        (∀ r ∈ s.pvt.peers, ∀ x, r.freshness = .lost → r.lostSince = some x →
          since < x ∨ since = x ∧ q.node ≤ r.node) →
        KeepsAllBut [.evf] (inPlaceOf q.node) t ∧ Posts [isNew] s t) ∧
      (32 ≤ s.pvt.peers.length → (∀ r ∈ s.pvt.peers, r.freshness ≠ .lost) →
        (s.pvt.overflowReported = true → t = s) ∧
        (s.pvt.overflowReported = false → KeepsAllBut [.pvt, .evf] s t ∧
          t.pvt = { s.pvt with overflowReported := true } ∧ Posts [(.peerOverflow, .node n, 0, 0)] s t))))

/-- An online set of group `g` (R39): a FRESH GENSET record of the group whose set state is ONLINE. -/
def Sys2Proof.Claims.onlinePeer (g : Nat) (p : Peer) : Option GensetStatus :=
  match p.freshness, p.status with
  | .fresh, .genset st => if st.group = g ∧ st.setState = .online then some st else none
  | _, _ => none

/-- The node itself is an online set of group `g` (R39). -/
def Sys2Proof.Claims.onlineSelf (g : Nat) (s : State) : Bool :=
  decide (s.hpt.role = some .genset ∧ s.cfg.groupA = g ∧ s.setc.state = .online)

/-- A node with its fuel minutes that the worst ranking of group `g` chooses among (R40). -/
def Sys2Proof.Claims.OnlineSet (g : Nat) (s : State) (node minutes : Nat) : Prop :=
  (∃ p ∈ s.pvt.peers, ∃ st, onlinePeer g p = some st ∧ p.node = node ∧ st.minutes = minutes) ∨
  onlineSelf g s = true ∧ node = s.eventId ∧ minutes = s.fau.minutes

/-- A node with its fuel minutes that the best ranking of group `g` chooses among (R40): STOPPED and in AUTO. -/
def Sys2Proof.Claims.StoppedSet (g : Nat) (s : State) (node minutes : Nat) : Prop :=
  (∃ p ∈ s.pvt.peers, ∃ st, p.freshness = .fresh ∧ p.status = .genset st ∧ st.group = g ∧
    st.setState = .stopped ∧ st.auto = true ∧ p.node = node ∧ st.minutes = minutes) ∨
  s.hpt.role = some .genset ∧ s.cfg.groupA = g ∧ s.setc.state = .stopped ∧ s.setc.mode = .auto ∧
    node = s.eventId ∧ minutes = s.fau.minutes

/-- What the peer view says of a group. Online load, capacity and count are the sums of P and of R over, and the
number of, its online sets: the FRESH ONLINE records of the group and the node itself (R39). The best-ranked
stopped set is one of the STOPPED sets in AUTO that no other outranks, by more fuel minutes or, on equal ones, a
lower node id; the worst-ranked online set one that none is worse than, by fewer minutes or a higher id; each
is NONE only where no set qualifies (R40). And the law of the device that R160 gives: a group cost index computed
by weighting lies between the smallest and the largest CI of the sets that contributed to it (R41). -/
def Obligations.GroupCostBetween : Prop :=
  (∀ (s : State) (g : Nat),
    let peers := s.pvt.peers.filterMap (onlinePeer g)
    let self (x : Nat) := if onlineSelf g s then x else 0
    onlineLoad g s = (peers.map (·.p)).sum + self s.fpc.sample.p ∧
    onlineCapacity g s = (peers.map (·.r)).sum + self s.cfg.rating ∧
    onlineCount g s = peers.length + self 1) ∧
  (∀ (s : State) (g : Nat),
    (bestStopped g s = none ↔ ∀ n m, ¬StoppedSet g s n m) ∧
    (∀ v, bestStopped g s = some v → StoppedSet g s v.node v.minutes ∧ ∀ n m, StoppedSet g s n m →
      m < v.minutes ∨ m = v.minutes ∧ v.node ≤ n) ∧
    (worstOnline g s = none ↔ ∀ n m, ¬OnlineSet g s n m) ∧
    (∀ v, worstOnline g s = some v → OnlineSet g s v.node v.minutes ∧ ∀ n m, OnlineSet g s n m →
      v.minutes < m ∨ m = v.minutes ∧ n ≤ v.node)) ∧
  (∀ (sets : List SetView) (v : Nat), (costInputsOf sets).groupCi = some v → 0 < (costInputsOf sets).weight →
    ∃ lo hi, (costInputsOf sets).lowest = some lo ∧ (costInputsOf sets).highest = some hi ∧ lo ≤ v ∧ v ≤ hi)

/-! ### Chapter 3: set control -/

/-- The set has come to rest in state `st` with RUN_REQUEST and LOAD_ENABLE at the levels named: its state
timer, cause and attempt count are these, the watches a rule clears are clear and the other as it was (the
start watch also behind STOPPED, the stop watch also in UNLOADING: log entry 36), mode,
key and serial as they were, the other lines and inputs untouched; no headroom is offered outside ONLINE. -/
def Sys2Proof.Claims.Enters (st : SetState) (run load : Bool) (timer : Option Nat) (cause : Option SetCause)
    (attempts : Nat) (s t : State) : Prop :=
  t.setc = { s.setc with
    state := st, timer := timer, cause := cause, attempts := attempts
    startWatch := if st = .stopped ∨ st = .faulted then none else s.setc.startWatch
    stopWatch := if st = .online ∨ st = .faulted then none else s.setc.stopWatch } ∧
  t.fpc = { s.fpc with runRequest := run, loadEnable := load } ∧
  KeepsAllBut [.setc, .fpc, .evf, .plu, .slc, .pvt] s t ∧
  (st ≠ .online → t.plu.headroom = 0)

/-- Event SET_STATE from the present state to `st` with a cause code (R61). -/
def Sys2Proof.Claims.setEvent (s : State) (st : SetState) (cause : Nat) : EventKind × Subject × Nat × Nat :=
  (.setState, .node s.eventId, pair16 s.setc.state.code st.code, cause)

/-- SYNCING entered (R53): with the breaker closed ONLINE at once. -/
def Sys2Proof.Claims.Syncs (attempts : Nat) (s t : State) : Prop :=
  (s.fpc.breaker.level = false → Enters .syncing true true (some (s.now + 60 * second)) none attempts s t) ∧
  (s.fpc.breaker.level = true → Enters .online true true none none attempts s t)

/-- WARMING entered (R51, R52): with the attempt count 0, and through SYNCING at once where the warm-up time
is 0. -/
def Sys2Proof.Claims.Warms (s t : State) : Prop :=
  (s.cfg.warmUp ≠ 0 → Enters .warming true false (some (s.now + s.cfg.warmUp * second)) none 0 s t) ∧
  (s.cfg.warmUp = 0 → Syncs 0 s t)

/-- CRANKING entered (R51): for 15 s, or with RUNNING active on to WARMING at once. -/
def Sys2Proof.Claims.Cranks (s t : State) : Prop :=
  (s.fpc.running.level = false →
    Enters .cranking true false (some (s.now + 15 * second)) none s.setc.attempts s t) ∧
  (s.fpc.running.level = true → Warms s t) ∧ PostsFirst [setEvent s .cranking 0] s t

/-- UNLOADING entered (R55): for 60 s, or with the breaker open on to COOLING for 180 s at once. -/
def Sys2Proof.Claims.Unloads (s t : State) : Prop :=
  (s.fpc.breaker.level = true →
    Enters .unloading true false (some (s.now + 60 * second)) none s.setc.attempts s t) ∧
  (s.fpc.breaker.level = false →
    Enters .cooling true false (some (s.now + 180 * second)) none s.setc.attempts s t) ∧
  PostsFirst [setEvent s .unloading 0] s t

/-- FAULTED entered (R57): both lines off, the cause held, the timer stopped and both watches clear, and the
trip notice has emptied the pledge table (R103). The code of a cause is the model's (log entry 7). -/
def Sys2Proof.Claims.Faults (cause : SetCause) (attempts : Nat) (s t : State) : Prop :=
  Enters .faulted false false none (some cause) attempts s t ∧ t.plu.pledges = []

/-- The present set state's limit has run out. -/
def Sys2Proof.Claims.TimedOut (st : SetState) (s : State) : Prop :=
  Running s ∧ s.setc.state = st ∧ ∃ d, s.setc.timer = some d ∧ d ≤ s.now

/-- The ends of the set's limits (R47, R50 to R53, R55, R56): each state with a limit goes on as its rule
says, with SET_STATE, and a failed crank with START_FAIL and the new attempt count before it, RESTING for
20 s or FAULTED at the third. (The watches behind the states that form them are log entry 36.) -/
def Obligations.SetLimitsEnd : Prop :=
  ∀ s : State,
    (TimedOut .intending s → ∃ t, exec .intentWindowEnd s = .next t ∧ Cranks s t) ∧
    (TimedOut .stopIntending s → ∃ t, exec .intentWindowEnd s = .next t ∧ Unloads s t) ∧
    (TimedOut .resting s → ∃ t, exec .restTimeEnd s = .next t ∧ Cranks s t) ∧
    (TimedOut .cranking s → ∃ t, exec .crankLimit s = .next t ∧
      (s.setc.attempts ≠ 2 →
        Enters .resting false false (some (s.now + 20 * second)) none (s.setc.attempts + 1) s t ∧
        PostsFirst [(.startFail, .node s.eventId, s.setc.attempts + 1, 0), setEvent s .resting 0] s t) ∧
      (s.setc.attempts = 2 → Faults .startFail 3 s t ∧
        PostsFirst [(.startFail, .node s.eventId, 3, 0), setEvent s .faulted 0] s t)) ∧
    (TimedOut .warming s → ∃ t, exec .warmUpEnd s = .next t ∧ Syncs s.setc.attempts s t ∧
      PostsFirst [setEvent s .syncing 0] s t) ∧
    (TimedOut .syncing s → ∃ t, exec .syncLimit s = .next t ∧ Faults .syncFail s.setc.attempts s t ∧
      PostsFirst [setEvent s .faulted 1] s t) ∧
    (TimedOut .unloading s → ∃ t, exec .unloadLimit s = .next t ∧ Faults .unloadFail s.setc.attempts s t ∧
      PostsFirst [setEvent s .faulted 2] s t) ∧
    (TimedOut .cooling s → ∃ t, exec .coolDownEnd s = .next t ∧
      Enters .stopped false false none none s.setc.attempts s t ∧ PostsFirst [setEvent s .stopped 0] s t)

/-- A raw level that has been stable for the filter time has become the filtered level (R144). -/
def Sys2Proof.Claims.filtered (line : FieldLine) (s : State) : State :=
  s.withFpc (s.fpc.setFilter line ⟨(s.fpc.filter line).raw, (s.fpc.filter line).raw, none⟩)

/-- The raw level of a line has differed from its filtered level for the filter time. -/
def Sys2Proof.Claims.Stable (line : FieldLine) (level : Bool) (s : State) : Prop :=
  (s.fpc.filter line).raw = level ∧
    ∃ d, (s.fpc.filter line).since = some d ∧ d + s.fpc.filterTime * millisecond ≤ s.now

/-- What a rise or fall of an input does in each set state (R43, R50 to R57): `none` where no rule names it.
A breaker trip goes to SYNCING with a trip notice, which empties the pledge table (R54, R103). -/
def Sys2Proof.Claims.inputEffect (line : FieldLine) (level : Bool) (st : SetState) :
    Option (State → State → Prop) :=
  match line, level, st with
  | .running, true, .cranking => some Warms
  | .running, false, .warming | .running, false, .syncing | .running, false, .online
  | .running, false, .stopIntending | .running, false, .unloading | .running, false, .cooling =>
    some fun s t => Faults .unexpectedStop s.setc.attempts s t
  | .breakerClosed, true, .syncing => some fun s t => Enters .online true true none none s.setc.attempts s t
  | .breakerClosed, false, .online | .breakerClosed, false, .stopIntending => some fun s t =>
    Enters .syncing true true (some (s.now + 60 * second)) none s.setc.attempts s t ∧ t.plu.pledges = []
  | .breakerClosed, false, .unloading => some fun s t =>
    Enters .cooling true false (some (s.now + 180 * second)) none s.setc.attempts s t
  | .setFault, true, .faulted => none
  | .setFault, true, _ => some fun s t => Faults .setFault s.setc.attempts s t
  | _, _, _ => none

/-- A change of a filtered input in RUN or MUTE (R43): what the rule of the present state names, from the
state with the new filtered level; a change that no rule names changes the filtered level alone. In CONFIG
the Set Controller acts on none. -/
def Obligations.SetInputs : Prop :=
  ∀ (s : State) (line : FieldLine) (level : Bool), line ∈ [.running, .breakerClosed, .setFault] →
    Stable line level s → ∃ t, exec (.filteredLevelChange line) s = .next t ∧
      (Running s → ∀ effect, inputEffect line level s.setc.state = some effect → effect (filtered line s) t) ∧
      (¬Running s ∨ inputEffect line level s.setc.state = none → t = filtered line s)

/-- R58, CLEAR_SET: taken when FAULTED with SET_FAULT inactive, it gives STOPPED without a cause, the attempt
count 0 and OK; refused with STATE when SET_FAULT is active, in any other set state, in CONFIG and on a
BOARD. A set left with RUNNING active is STOPPED with both outputs off, and a later CRANKING, in AUTO or by
SET_RUN in MANUAL, passes on to WARMING at once. -/
def Obligations.ClearSet : Prop :=
  (∀ (s : State) (tag : Byte), Running s → s.setc.state = .faulted → s.fpc.setFault.level = false →
    ∃ t, exec (.clearSet tag) s = .next (t.answered tag .ok []) ∧ Enters .stopped false false none none 0 s t) ∧
  (∀ (s : State) (tag : Byte), s.fpc.setFault.level = true ∨ s.setc.state ≠ .faulted ∨
    s.hpt.nodeState = .config ∨ s.hpt.role = some .board →
    exec (.clearSet tag) s = .next (s.answered tag .state [])) ∧
  (∀ s : State, s.fpc.running.level = true →
    (TimedOut .intending s → ∃ t, exec .intentWindowEnd s = .next t ∧ Warms s t) ∧
    (∀ tag, Running s → s.setc.mode = .manual → s.setc.state = .stopped →
      ∃ t, exec (.setRun tag 0) s = .next (t.answered tag .ok []) ∧ Warms s t))

/-- A SET_RUN that is taken in MANUAL (R60): the state that each row of its table leads to, `none` where the
answer is OK without a change or a refusal. -/
def Sys2Proof.Claims.runEffect (on : Bool) (st : SetState) : Option (State → State → Prop) :=
  match on, st with
  | true, .stopped => some Cranks
  | true, .unloading => some fun s t => Syncs s.setc.attempts s t
  | false, .cranking | false, .resting => some fun s t => Enters .stopped false false none none 0 s t
  | false, .warming => some fun s t =>
    Enters .cooling true false (some (s.now + 180 * second)) none s.setc.attempts s t
  | false, .syncing | false, .online => some Unloads
  | _, _ => none

/-- SET_MODE and SET_RUN (R59, R60). The present mode answers OK and changes nothing; a new mode clears both
watches, and MANUAL takes INTENDING back to STOPPED and STOP_INTENDING to ONLINE. SET_RUN is refused with
STATE in AUTO; in MANUAL it does what the table says, with ON refused in COOLING and FAULTED and OFF refused
with BUSY in ONLINE while the pledge table holds an entry. -/
def Obligations.SetModeAndRun : Prop :=
  (∀ (s : State) (tag m : Byte) (mode : RunMode), Running s → m.toNat = mode.code →
    (s.setc.mode = mode → exec (.setMode tag m) s = .next (s.answered tag .ok [])) ∧
    (s.setc.mode ≠ mode →
      ∃ t, exec (.setMode tag m) s = .next (t.answered tag .ok []) ∧
        (mode = .manual ∧ s.setc.state = .intending → Enters .stopped false false none none s.setc.attempts
          (s.withSetc { s.setc with mode := mode, startWatch := none, stopWatch := none }) t) ∧
        (mode = .manual ∧ s.setc.state = .stopIntending → Enters .online true true none none s.setc.attempts
          (s.withSetc { s.setc with mode := mode, startWatch := none, stopWatch := none }) t) ∧
        (mode = .auto ∨ s.setc.state ≠ .intending ∧ s.setc.state ≠ .stopIntending →
          t = { s with setc := { s.setc with mode := mode, startWatch := none, stopWatch := none } }))) ∧
  (∀ (s : State) (tag : Byte) (on : Bool), Running s →
    (s.setc.mode = .auto → exec (.setRun tag (if on then 0 else 1)) s = .next (s.answered tag .state [])) ∧
    (s.setc.mode = .manual →
      (∀ effect, runEffect on s.setc.state = some effect →
        (on = false → s.setc.state = .online → s.plu.pledges = []) →
        ∃ t, exec (.setRun tag (if on then 0 else 1)) s = .next (t.answered tag .ok []) ∧ effect s t) ∧
      (on = false → s.setc.state = .online → s.plu.pledges ≠ [] →
        exec (.setRun tag 1) s = .next (s.answered tag .busy [])) ∧
      (on = true → s.setc.state = .cooling ∨ s.setc.state = .faulted →
        exec (.setRun tag 0) s = .next (s.answered tag .state [])) ∧
      (runEffect on s.setc.state = none → on = false ∨ s.setc.state ≠ .cooling ∧ s.setc.state ≠ .faulted →
        exec (.setRun tag (if on then 0 else 1)) s = .next (s.answered tag .ok []))))

/-- The group checks of a set in AUTO (R44), with the group's sums and ranking as the peer view gives them; in
MANUAL, in CONFIG, on a BOARD and in every other set state a check changes nothing.

STOPPED (R45, R46): the start watch is set, left or cleared; a candidate whose fuel factor is 1000 and which
the ranking names enters INTENDING for 3 s with its fuel minutes as key, the next serial and an INTENT(START)
for the queue; any other stays. ONLINE (R48, R49): the stop watch follows the utilisation without self in the
same way; a candidate whose watch has run, with an empty pledge table, more sets online than the minimum and
the worst rank enters STOP_INTENDING likewise, with INTENT(STOP). UNLOADING (R55): it returns to SYNCING when
the utilisation is above the start threshold.

The contests. A heard INTENT(START) with a larger key, or an equal one from a lower node id, takes an INTENDING
set back to STOPPED, and any other leaves it (R47). A STOP_INTENDING set goes back to ONLINE at any INTENT(START)
of its group, and at an INTENT(STOP) with a smaller key, or an equal one from a higher node id; others leave it
(R50). -/
def Obligations.StartContest : Prop :=
  (∀ (s : State) (notice : Bool),
    ¬Running s ∨ s.setc.mode = .manual ∨
      (s.setc.state ≠ .stopped ∧ s.setc.state ≠ .online ∧ s.setc.state ≠ .unloading) →
    groupCheck notice s = s) ∧
  (∀ (s : State) (notice : Bool) (w : Option Watch), Running s → s.setc.mode = .auto →
    s.setc.state = .stopped →
    w = (if 0 < onlineCapacity s.cfg.groupA s ∧ s.cfg.startThreshold <
            min (1000 * onlineLoad s.cfg.groupA s / onlineCapacity s.cfg.groupA s) 1000
          then some (s.setc.startWatch.getD ⟨s.now, s.siteSec⟩) else none) →
    let candidate := (∃ x, w = some x ∧ x.since + s.cfg.startDelay * second ≤ s.now) ∨
      onlineCount s.cfg.groupA s < s.cfg.minOnline ∨ notice = true ∧ onlineCapacity s.cfg.groupA s = 0
    let named := ∃ v, bestStopped s.cfg.groupA s = some v ∧ v.node = s.eventId
    (¬(s.fau.factor = 1000 ∧ candidate ∧ named) →
      groupCheck notice s = { s with setc := { s.setc with startWatch := w } }) ∧
    (s.fau.factor = 1000 ∧ candidate ∧ named →
      (groupCheck notice s).setc = { s.setc with
        state := .intending, timer := some (s.now + 3 * second), cause := none, startWatch := w
        intentKey := some s.fau.minutes, intentSerial := (s.setc.intentSerial + 1) % 256 } ∧
      (s.hpt.nodeState = .run → s.slc.queue.length < 15 →
        ∃ e ∈ (groupCheck notice s).slc.queue, e.cls = .normal ∧ e.bulletin =
          .intent s.cfg.groupA .start s.fau.minutes ((s.setc.intentSerial + 1) % 256)))) ∧
  (∀ (s : State) (notice : Bool) (w : Option Watch), Running s → s.setc.mode = .auto →
    s.setc.state = .online →
    let load := onlineLoad s.cfg.groupA s
    let rest := onlineCapacity s.cfg.groupA s - s.cfg.rating
    w = (if 0 < rest ∧ min (1000 * load / rest) 1000 < s.cfg.stopThreshold ∨ rest = 0 ∧ load = 0
          then some (s.setc.stopWatch.getD ⟨s.now, s.siteSec⟩) else none) →
    let leaves := (∃ x, w = some x ∧ x.since + s.cfg.stopDelay * second ≤ s.now) ∧ s.plu.pledges = [] ∧
      s.cfg.minOnline < onlineCount s.cfg.groupA s ∧
      ∃ v, worstOnline s.cfg.groupA s = some v ∧ v.node = s.eventId
    (¬leaves → groupCheck notice s = { s with setc := { s.setc with stopWatch := w } }) ∧
    (leaves →
      let t := groupCheck notice s
      t.setc = { s.setc with
        state := .stopIntending, timer := some (s.now + 3 * second), cause := none, stopWatch := w
        intentKey := some s.fau.minutes, intentSerial := (s.setc.intentSerial + 1) % 256 } ∧
      t.fpc = { s.fpc with runRequest := true, loadEnable := true } ∧ t.plu.ci = 0 ∧ t.plu.headroom = 0 ∧
      (s.hpt.nodeState = .run → s.slc.queue.length < 15 →
        ∃ e ∈ t.slc.queue, e.cls = .normal ∧ e.bulletin =
          .intent s.cfg.groupA .stop s.fau.minutes ((s.setc.intentSerial + 1) % 256)))) ∧
  (∀ (s : State) (notice : Bool), Running s → s.setc.mode = .auto → s.setc.state = .unloading →
    let high := 0 < onlineCapacity s.cfg.groupA s ∧ s.cfg.startThreshold <
      min (1000 * onlineLoad s.cfg.groupA s / onlineCapacity s.cfg.groupA s) 1000
    (high → Syncs s.setc.attempts s (groupCheck notice s)) ∧ (¬high → groupCheck notice s = s)) ∧
  (∀ (s : State) (sender key own : Nat), Running s → s.setc.intentKey = some own →
    (∀ group kind, group ≠ s.cfg.groupA → takeIntent sender group kind key s = s) ∧
    (s.setc.state = .intending →
      let ahead := own < key ∨ key = own ∧ sender < s.eventId
      (ahead → Enters .stopped false false none none s.setc.attempts s
        (takeIntent sender s.cfg.groupA .start key s)) ∧
      (¬ahead → takeIntent sender s.cfg.groupA .start key s = s) ∧
      takeIntent sender s.cfg.groupA .stop key s = s) ∧
    (s.setc.state = .stopIntending →
      let worse := key < own ∨ key = own ∧ s.eventId < sender
      Enters .online true true none none s.setc.attempts s (takeIntent sender s.cfg.groupA .start key s) ∧
      (worse → Enters .online true true none none s.setc.attempts s
        (takeIntent sender s.cfg.groupA .stop key s)) ∧
      (¬worse → takeIntent sender s.cfg.groupA .stop key s = s)) ∧
    (s.setc.state ≠ .intending → s.setc.state ≠ .stopIntending →
      ∀ group kind, takeIntent sender group kind key s = s))

/-! ### Chapter 4: fuel accounting -/

/-- The flow numerator of a power on a rating and a curve (R67): the load in permille, its segment and place,
and the interpolation between the two curve points. -/
def Sys2Proof.Claims.flowAt (p rating : Nat) (curve : List Nat) : Nat :=
  let load := min (p * 1000 / rating) 1000
  let k := min (load / 250) 3
  let w := load - 250 * k
  curve.getD k 0 * (250 - w) + curve.getD (k + 1) 0 * w

/-- What some lots cost in thousandths of a millicredit. -/
def Sys2Proof.Claims.costOf (lots : List Lot) : Nat := (lots.map fun l => l.remaining * l.price).sum

/-- A sample's burn (R67 to R71) where the totals fit 64 bits. With RUNNING active the flow of the sample's
power is added to the residue, each 9000 a millilitre burned; the lots give it oldest first, an exhausted
lot leaving the list with its price as last exhausted price, and what they do not hold is unlotted, costed at
that price and told once with DRY_MODEL; every portion is costed without losing a fraction. With RUNNING
inactive nothing is burned and the flow is that of load 0. -/
def Obligations.SampleBurns : Prop :=
  ∀ (s : State) (c : FuelConfig), s.fau.copy = some c →
    let f := s.fau
    let t := (fuelSample s).fau
    let total := f.burnResidue + flowAt s.fpc.sample.p c.rating c.curve
    let b := total / 9000
    let cost := f.burnedCost * 1000 + f.costResidue
    t.overload = decide (c.rating < s.fpc.sample.p) ∧
    (s.fpc.running.level = false →
      t.lots = f.lots ∧ t.burnResidue = f.burnResidue ∧ t.burned = f.burned ∧ t.burnedCost = f.burnedCost ∧
      t.costResidue = f.costResidue ∧ t.unlotted = f.unlotted ∧ t.lastPrice = f.lastPrice ∧
      t.flow = c.curve.getD 0 0 * 250) ∧
    (s.fpc.running.level = true → f.costResidue < 1000 → f.burned + b < 2 ^ 64 →
      f.burnedCost + (f.costResidue + costOf f.lots + b * 65535) / 1000 < 2 ^ 64 → f.lastPrice ≤ 65535 →
      (∀ l ∈ f.lots, l.price ≤ 65535) →
      t.flow = flowAt s.fpc.sample.p c.rating c.curve ∧ t.burnResidue = total % 9000 ∧ t.burned = f.burned + b ∧
      (∀ (gone post : List Lot) (l : Lot), f.lots = gone ++ l :: post → (gone.map (·.remaining)).sum ≤ b →
        b < (gone.map (·.remaining)).sum + l.remaining →
        t.lots = { l with remaining := l.remaining - (b - (gone.map (·.remaining)).sum) } :: post ∧
        t.lastPrice = (gone.map (·.price)).getLastD f.lastPrice ∧ t.unlotted = f.unlotted ∧
        t.dryReported = f.dryReported ∧
        t.burnedCost * 1000 + t.costResidue = cost + costOf gone + (b - (gone.map (·.remaining)).sum) * l.price) ∧
      ((f.lots.map (·.remaining)).sum ≤ b →
        t.lots = [] ∧ t.lastPrice = (f.lots.map (·.price)).getLastD f.lastPrice ∧
        (b = (f.lots.map (·.remaining)).sum → t.unlotted = f.unlotted ∧ t.dryReported = f.dryReported) ∧
        ((f.lots.map (·.remaining)).sum < b →
          t.unlotted = min (f.unlotted + (b - (f.lots.map (·.remaining)).sum)) (2 ^ 32 - 1) ∧
          t.dryReported = true ∧ (f.dryReported = false →
            PostsFirst [(.dryModel, .node s.eventId, t.lastPrice, 0)] s (fuelSample s))) ∧
        t.burnedCost * 1000 + t.costResidue
          = cost + costOf f.lots + (b - (f.lots.map (·.remaining)).sum) * t.lastPrice))

/-- The figures of each sample (R72 to R74): minutes to empty on the tank model and the current flow, the
fuel factor between M_crit and M_low, and the refuel flag with its hysteresis of 30 minutes, each change
with event REFUEL. The same computation serves every sample and every change of the lot list (R72). -/
def Obligations.FuelFigures : Prop :=
  ∀ (s : State) (c : FuelConfig), s.fau.copy = some c →
    let t := recomputeFuel s
    let tank := (s.fau.lots.map (·.remaining)).sum
    let m := t.fau.minutes
    (tank = 0 → m = 0) ∧ (0 < tank → s.fau.flow = 0 → m = 65535) ∧
    (0 < tank → 0 < s.fau.flow → m = min (tank * 150 / s.fau.flow) 65535) ∧
    (c.mLow ≤ m → t.fau.factor = 1000) ∧ (m < c.mLow → m ≤ c.mCrit → t.fau.factor = 0) ∧
    (c.mCrit < m → m < c.mLow → t.fau.factor = 1000 * (m - c.mCrit) / (c.mLow - c.mCrit)) ∧
    (s.fau.refuelWanted = false → m < c.refuelAt → t.fau.refuelWanted = true ∧
      Posts [(.refuel, .node s.eventId, m, 0)] s t) ∧
    (s.fau.refuelWanted = true → min (c.refuelAt + 30) 65535 ≤ m → t.fau.refuelWanted = false ∧
      Posts [(.refuel, .node s.eventId, m, 1)] s t) ∧
    (s.fau.refuelWanted = false ∧ c.refuelAt ≤ m ∨
      s.fau.refuelWanted = true ∧ m < min (c.refuelAt + 30) 65535 →
      t.fau.refuelWanted = s.fau.refuelWanted ∧ t.evf = s.evf) ∧
    t.fau = { s.fau with minutes := m, factor := t.fau.factor, refuelWanted := t.fau.refuelWanted } ∧
    KeepsAllBut [.fau, .evf] s t

/-- The commands of a list carried out one after another, each answering a next state. -/
def Sys2Proof.Claims.RunsTo : List Instr → State → State → Prop
  | [], s, t => t = s
  | c :: cs, s, t => ∃ u, exec c s = .next u ∧ RunsTo cs u t

/-- Flow pulses (R77, R81, R146). Pulses with both levels of at least 40 µs are counted, and n of them meter
n × 1000 thousandths into an open delivery on top of the remainder carried, K thousandths a millilitre, so
that n pulses from its opening meter floor(n × 1000 / K) mL, the last of them at the site second of the command
(that unit is the model's reading, log entry 18); a shorter one counts nothing. With no delivery
they are stray, the first of a burst with event STRAY_FLOW and the volume before it, and the burst ends 60 s
after the last; without a working copy they are held. -/
def Obligations.PulsesMetered : Prop :=
  (∀ (s : State) (c : FuelConfig) (d : Delivery) (pulses : List (Nat × Nat)), s.fau.copy = some c →
    s.fau.delivery = some d → 0 < c.pulsesPerLitre → (∀ p ∈ pulses, 40 ≤ p.1 ∧ 40 ≤ p.2) → pulses ≠ [] →
    d.carry < c.pulsesPerLitre → s.fpc.pulses < 2 ^ 32 →
    d.metered + (d.carry + pulses.length * 1000) / c.pulsesPerLitre < 2 ^ 32 →
    RunsTo (pulses.map fun p => .flowPulse p.1 p.2) s { s with
      fpc := { s.fpc with pulses := (s.fpc.pulses + pulses.length) % 2 ^ 32 }
      fau := { s.fau with delivery := some { d with
        metered := d.metered + (d.carry + pulses.length * 1000) / c.pulsesPerLitre
        carry := (d.carry + pulses.length * 1000) % c.pulsesPerLitre
        lastPulse := s.siteSec
        autoClose := s.now + 600 * second } } }) ∧
  (∀ (s : State) (low high : Nat), low < 40 ∨ high < 40 → exec (.flowPulse low high) s = .next s) ∧
  (∀ (s : State) (c : FuelConfig) (low high : Nat), 40 ≤ low → 40 ≤ high → s.fau.copy = some c →
    s.fau.delivery = none → ∃ t, exec (.flowPulse low high) s = .next t ∧
      t.fpc = { s.fpc with pulses := (s.fpc.pulses + 1) % 2 ^ 32 } ∧
      t.fau = { s.fau with
        stray := min (s.fau.stray + (s.fau.strayCarry + 1000) / c.pulsesPerLitre) (2 ^ 32 - 1)
        strayCarry := (s.fau.strayCarry + 1000) % c.pulsesPerLitre
        strayLast := some s.now } ∧
      KeepsAllBut [.fpc, .fau, .evf] s t ∧ (s.fau.strayLast.isSome → t.evf = s.evf) ∧
      (s.fau.strayLast = none → Posts [(.strayFlow, .node s.eventId, s.fau.stray, 0)] s t)) ∧
  (∀ (s : State) (low high : Nat), 40 ≤ low → 40 ≤ high → s.fau.copy = none →
    exec (.flowPulse low high) s = .next { s with fpc := { s.fpc with
      pulses := (s.fpc.pulses + 1) % 2 ^ 32, heldPulses := min (s.fpc.heldPulses + 1) (2 ^ 32 - 1) } }) ∧
  (∀ (s : State) (last : Nat), s.fau.strayLast = some last → last + 60 * second ≤ s.now →
    exec .strayBurstEnd s = .next { s with fau := { s.fau with strayLast := none } })

/-- A GENSET whose Fuel Accounting Unit holds the working copy `c`. -/
def Sys2Proof.Claims.Fuelled (c : FuelConfig) (s : State) : Prop :=
  s.hpt.role = some .genset ∧ s.fau.copy = some c

/-- The flags of DELIVERY_DONE: AUTO, DISPUTED, EMPTY, MERGED and OVERFILL, bit 0 first (R78, R209). -/
def Sys2Proof.Claims.doneFlags (auto disputed empty merged overfill : Bool) : Nat :=
  (if auto then 1 else 0) + (if disputed then 2 else 0) + (if empty then 4 else 0) + (if merged then 8 else 0)
    + (if overfill then 16 else 0)

/-- The lots after a lot has joined them (R64, R79): at the newest end, or merged into the newest of eight
with the rounded price. -/
def Sys2Proof.Claims.Joined (l : Lot) (before after : List Lot) : Prop :=
  (before.length < 8 → after = before ++ [l]) ∧
  (∀ (others : List Lot) (n : Lot), before.length = 8 → before = others ++ [n] →
    ∃ (v2 price : Nat), v2 = min l.remaining (2 ^ 32 - 1 - n.remaining) ∧
      (let v := n.remaining + v2
       let cost := n.remaining * n.price + v2 * l.price
       0 < v → 2 * v * price ≤ 2 * cost + v ∧ 2 * cost + v < 2 * v * (price + 1)) ∧
      after = others ++ [{ n with
        delivered := n.delivered + v2, remaining := n.remaining + v2, price := price
        merged := min (n.merged + 1) 255, disputed := n.disputed || l.disputed }])

/-- R76 and R80: the delivery record that DELIVERY_OPEN makes, with the refusals in the order of the table;
and DELIVERY_CANCEL, which takes the metered volume into the stray volume and makes no lot, with its
refusal.

A delivery closed, by command or by its timer (R78, R79): with a metered volume of 0 no lot is made, and
otherwise its lot joins, DISPUTED when the metered volume is off the declared one by more than the tolerance;
DELIVERY_DONE carries the metered volume and the flags, which a command's answer repeats (in the form of log
entry 7); that LOT_MERGED stands before it is the model's order (log entry 17). Without a delivery the command
is refused, and before its time the timer does nothing. -/
def Obligations.Deliveries : Prop :=
  (∀ (s : State) (c : FuelConfig) (tag : Byte) (ticket : Word) (price litres : Half), Fuelled c s →
    (s.fau.delivery.isSome → exec (.deliveryOpen tag ticket price litres) s = .next (s.answered tag .busy [])) ∧
    (s.fau.delivery = none →
      (ticket.toNat = 0 ∨ 0x80000000 ≤ ticket.toNat →
        exec (.deliveryOpen tag ticket price litres) s = .next (s.answered tag .badField [0])) ∧
      (0 < ticket.toNat → ticket.toNat < 0x80000000 →
        (litres = 0 → exec (.deliveryOpen tag ticket price litres) s = .next (s.answered tag .badField [2])) ∧
        (litres ≠ 0 → (∃ l ∈ s.fau.lots, l.ticket = ticket.toNat) →
          exec (.deliveryOpen tag ticket price litres) s = .next (s.answered tag .inUse [])) ∧
        (litres ≠ 0 → (∀ l ∈ s.fau.lots, l.ticket ≠ ticket.toNat) →
          exec (.deliveryOpen tag ticket price litres) s = .next ({ s with fau := { s.fau with
            delivery := some ⟨ticket.toNat, price.toNat, litres.toNat, 0, 0, s.siteSec, s.siteSec,
              s.now + 600 * second⟩
            strayLast := none } }.answered tag .ok []))))) ∧
  (∀ (s : State) (c : FuelConfig) (tag : Byte), Fuelled c s →
    (s.fau.delivery = none → exec (.deliveryCancel tag) s = .next (s.answered tag .state [])) ∧
    (∀ d, s.fau.delivery = some d → exec (.deliveryCancel tag) s = .next ({ s with fau := { s.fau with
      delivery := none, stray := min (s.fau.stray + d.metered) (2 ^ 32 - 1) } }.answered tag .ok []))) ∧
  (∀ (s : State) (c : Instr) (tag : Byte), hostGate c = some (tag, some .genset, [.config, .run, .mute]) →
    s.fau.copy = none → exec c s = .next (s.answered tag .state [])) ∧
  (∀ (s : State) (c : FuelConfig) (d : Delivery) (tag : Byte), Fuelled c s →
     (s.fau.delivery = none → exec (.deliveryClose tag) s = .next (s.answered tag .state [])) ∧
     (s.fau.delivery = some d → s.now < d.autoClose → exec .deliveryAutoClose s = .next s) ∧
     (∀ auto : Bool, s.fau.delivery = some d → (auto = true → d.autoClose ≤ s.now) →
       let disputed := decide (0 < d.metered) && decide (c.deliveryTol * (d.litres * 1000)
         < 1000 * ((d.metered : Int) - (d.litres * 1000 : Nat)).natAbs)
       let merged := decide (0 < d.metered) && decide (8 ≤ s.fau.lots.length)
       ∃ (t : State) (flags : Nat),
         exec (if auto then .deliveryAutoClose else .deliveryClose tag) s
           = .next (if auto then t else t.answered tag .ok (be32 d.metered ++ [byte flags])) ∧
         t.fau.delivery = none ∧
         (d.metered = 0 → t.fau.lots = s.fau.lots) ∧
         (0 < d.metered → Joined ⟨d.ticket, 0, .delivery, d.metered, d.metered, d.price, s.siteSec, disputed⟩
           s.fau.lots t.fau.lots) ∧
         flags = doneFlags auto disputed (decide (d.metered = 0)) merged
           (decide (c.capacity < (t.fau.lots.map (·.remaining)).sum)) ∧
         (merged = false → PostsFirst [(.deliveryDone, .ticket d.ticket, d.metered, flags)] s t) ∧
         (∀ (others : List Lot) (n m : Lot), merged = true → s.fau.lots = others ++ [n] →
           t.fau.lots = others ++ [m] → s.fau.lots.length = 8 →
           PostsFirst [(.lotMerged, .ticket n.ticket, d.ticket, m.price),
             (.deliveryDone, .ticket d.ticket, d.metered, flags)] s t)))

/-- The level check (R82, R141): when its time has come the next is 60 s later; without an answered sample since the
last, and while the front end is LOST, it is skipped (that LOST skips it also where such a sample did come is log
entry 39). Otherwise the reading is held against the tank model with the open
delivery's volume, the counts move, and the third out of or within tolerance in a row sets or clears DIVERGE
with its event. RESYNC_TANK taken (R83): afterwards the tank model is the level reading, unless a merge into a
full list met the top of the 32-bit range; what was above it is shrinkage and not costed, what was below it an
ADJUST lot under the next adjust serial, at the newest lot's price or the opening price; DIVERGE and both counts
are clear. Its refusals, in the order of the table. The answer's form, the signed difference in four bytes,
saturating at their bounds, is the model's (log entry 7). -/
def Obligations.LevelCheckAndResync : Prop :=
  (∀ (s : State) (c : FuelConfig) (due level : Nat), s.fau.copy = some c → s.fau.nextCheck = some due →
     due ≤ s.now → s.fau.level = some level →
     ∃ t, exec .levelCheck s = .next t ∧
       (s.fau.levelFresh = false ∨ s.fpc.lost = true →
         t = { s with fau := { s.fau with nextCheck := some (due + 60 * second), levelFresh := false } }) ∧
       (s.fau.levelFresh = true → s.fpc.lost = false →
         let model := (s.fau.lots.map (·.remaining)).sum + (match s.fau.delivery with
           | some d => d.metered
           | none => 0)
         let out := decide (c.levelTol < ((level : Int) - (model : Nat)).natAbs)
         let nOut := if out then min (s.fau.outCount + 1) 255 else 0
         let nIn := if out then 0 else min (s.fau.inCount + 1) 255
         t.fau = { s.fau with
           nextCheck := some (due + 60 * second), levelFresh := false, outCount := nOut, inCount := nIn
           diverge := if nOut = 3 then true else if nIn = 3 then false else s.fau.diverge } ∧
         (nOut = 3 → s.fau.diverge = false → PostsFirst
           [(.diverge, .node s.eventId, signed32 ((level : Int) - (model : Nat)), 0)] s t) ∧
         (nIn = 3 → s.fau.diverge = true → PostsFirst [(.diverge, .node s.eventId, 0, 1)] s t) ∧
         (nOut ≠ 3 ∨ s.fau.diverge = true → nIn ≠ 3 ∨ s.fau.diverge = false → t.evf = s.evf ∧ t.plu = s.plu))) ∧
  (∀ (s : State) (c : FuelConfig) (tag : Byte), Fuelled c s →
     (s.fau.delivery.isSome → exec (.resyncTank tag) s = .next (s.answered tag .busy [])) ∧
     (s.fau.delivery = none → s.fau.level = none ∨ s.fpc.lost = true →
       exec (.resyncTank tag) s = .next (s.answered tag .state [])) ∧
     (∀ level, s.fau.delivery = none → s.fau.level = some level → s.fpc.lost = false →
       let tank := (s.fau.lots.map (·.remaining)).sum
       let serial := if s.fau.adjustSerial = 0x7FFFFFFF then 1 else s.fau.adjustSerial + 1
       ∃ t : State, exec (.resyncTank tag) s
           = .next (t.answered tag .ok (be32 (signed32 ((level : Int) - (tank : Nat))))) ∧
         t.fau.diverge = false ∧ t.fau.outCount = 0 ∧ t.fau.inCount = 0 ∧
         t.fau.burnResidue = s.fau.burnResidue ∧ t.fau.costResidue = s.fau.costResidue ∧
         t.fau.burnedCost = s.fau.burnedCost ∧ t.fau.unlotted = s.fau.unlotted ∧
         (level < tank → (t.fau.lots.map (·.remaining)).sum = level ∧
           t.fau.shrinkage = min (s.fau.shrinkage + (tank - level)) (2 ^ 32 - 1)) ∧
         (level = tank → t.fau.lots = s.fau.lots ∧ t.fau.shrinkage = s.fau.shrinkage) ∧
         (tank < level → t.fau.adjustSerial = serial ∧
           Joined ⟨0x80000000 + serial, 0, .adjust, level - tank, level - tank,
               (s.fau.lots.map (·.price)).getLastD c.openingPrice, s.siteSec, false⟩ s.fau.lots t.fau.lots ∧
           (s.fau.lots.length < 8 → (t.fau.lots.map (·.remaining)).sum = level))))

/-- R64, the laws of the lot list and of the unit's residues. -/
structure Sys2Proof.Claims.FuelOk (s : State) : Prop where
  few : s.fau.lots.length ≤ 8
  volumes : ∀ l ∈ s.fau.lots, 0 < l.remaining ∧ l.remaining ≤ l.delivered
  whole : ∀ l ∈ s.fau.lots.tail, l.remaining = l.delivered
  burn : s.fau.burnResidue < 9000
  cost : s.fau.costResidue < 1000
  factor : s.fau.factor ≤ 1000

/-- Every step keeps the laws of the lot list: at most 8 lots, each with a remaining volume above 0 and at
most what it was given, and every lot but the oldest still whole; the residues stay below a millilitre and a
millicredit, and the fuel factor at most 1000 (R64, R68, R70, R73). -/
def Obligations.LotListKept : Prop :=
  ∀ s t : State, FuelOk s → step s = .next t → FuelOk t

/-! ### Chapter 5: headroom, the cost index and pledges -/

/-- The cost index of a sample (R67, R75, R89, R90): price × N / (250 × P_eff) rounded to nearest, at most
65535, at an effective power of at least a tenth of the rating rounded up, and the price of the oldest lot or
the last exhausted price; 0 in every set state but ONLINE, and 0 at the moment the set leaves ONLINE. -/
def Obligations.CostIndex : Prop :=
  (∀ (s : State) (c : FuelConfig) (tenth price : Nat), Running s → s.fau.copy = some c → 0 < c.rating →
    s.setc.state = .online → c.rating ≤ 10 * tenth → 10 * tenth < c.rating + 10 →
    price = (s.fau.lots.map (·.price)).headD s.fau.lastPrice →
    let power := max s.fpc.sample.p tenth
    let n := flowAt power c.rating c.curve
    ∃ q, (pledgeSample s).plu.ci = min q 65535 ∧ 2 * (250 * power) * q ≤ 2 * (price * n) + 250 * power ∧
      2 * (price * n) + 250 * power < 2 * (250 * power) * (q + 1)) ∧
  (∀ s : State, Running s → s.setc.state ≠ .online → (pledgeSample s).plu.ci = 0) ∧
  (∀ (s : State) (st : SetState) (cause : Option SetCause) (trip : Bool), s.setc.state = .online → st ≠ .online →
    (enterSet st cause trip s).plu.ci = 0)

/-- The pledge entries of claims other than `c`, and of claims that wait for none, stand as they were. -/
def Sys2Proof.Claims.OthersStand (c : ClaimId) (s t : State) : Prop :=
  ∀ d : ClaimId, d ≠ c → (∀ w ∈ s.plu.waits, w.claim ≠ d) → t.plu.entry d = s.plu.entry d

/-- The kW of some pledge entries. -/
def Sys2Proof.Claims.kwOf (l : List PledgeEntry) : Nat := (l.map (·.kw)).sum

/-- CONFIRM at the Pledge Unit (R99): the wait-list entry goes; an OFFERED entry that is named with a taken kW
above 0 is CONFIRMED at the lesser of the two for 15 s, and any other OFFERED entry removed; a CONFIRMED or
SETTLING entry stands; a CONFIRM that names a node without an entry is CONFIRM_STRAY.

RELEASE at the Pledge Unit, and the ends of a claim's and a pledge's time (R92, R100, R101): an OFFERED
entry goes at any RELEASE; a CONFIRMED one becomes SETTLING for 10 s at DONE and goes at any other; a
SETTLING one stands. At its deadline an entry goes, with PLEDGE_EXPIRED if it was CONFIRMED, and at its
expiry a wait-list entry goes without an event.

A sample at the Pledge Unit (R87, R88): the derated capacity D from rating, fuel factor and DIVERGE, and at
the end the headroom max(0, D − P − held) of an ONLINE set in RUN whose front end answers, 0 elsewhere; between
them the derate check. The derate check (R102): a held total above the room max(0, D − P) is lowered to the
room, or to what CONFIRMED and SETTLING entries hold, by OFFERED entries alone, the newest first, the last of
them in part; each told with REVOKE and PLEDGE_REVOKED (DERATE). A trip notice (R103) empties the table, every
entry that is not SETTLING told with REVOKE and PLEDGE_REVOKED (TRIP), the newest first. (The codes DERATE 0 and
TRIP 1 are the model's, log entry 7.) -/
def Obligations.PledgesAtPledger : Prop :=
  (∀ (s : State) (c : ClaimId) (entries : List (Nat × Nat)) (capture : List Byte),
     let t := takeConfirm c entries capture s
     let named := entries.find? fun e => decide (e.1 = s.eventId)
     (∀ w ∈ t.plu.waits, w.claim ≠ c) ∧ OthersStand c s t ∧
     (∀ e, s.plu.entry c = some e → e.state = .offered →
       (∀ node kw, named = some (node, kw) → 0 < kw → t.plu.entry c = some { e with
         state := .confirmed, kw := min kw e.kw, deadline := s.now + 15 * second }) ∧
       (named = none ∨ (∃ node, named = some (node, 0)) → t.plu.entry c = none)) ∧
     (∀ e, s.plu.entry c = some e → e.state ≠ .offered →
       t = { s with plu := { s.plu with waits := s.plu.waits.filter fun w => decide (w.claim ≠ c) } }) ∧
     (s.plu.entry c = none → t.plu = { s.plu with waits := s.plu.waits.filter fun w => decide (w.claim ≠ c) } ∧
       KeepsAllBut [.plu, .evf] s t ∧ (named = none → t.evf = s.evf) ∧
       (named.isSome → Reports .confirmStray [] s t))) ∧
  (∀ (s : State) (c : ClaimId) (why : ReleaseReason),
    let t := takeRelease c why s
    (∀ w ∈ t.plu.waits, w.claim ≠ c) ∧ OthersStand c s t ∧
    (∀ e, s.plu.entry c = some e →
      (e.state = .offered ∨ e.state = .confirmed ∧ why ≠ .done → t.plu.entry c = none) ∧
      (e.state = .confirmed → why = .done →
        t.plu.entry c = some { e with state := .settling, deadline := s.now + 10 * second }) ∧
      (e.state = .settling → t.plu.entry c = some e)) ∧
    (s.plu.entry c = none →
      t = { s with plu := { s.plu with waits := s.plu.waits.filter fun w => decide (w.claim ≠ c) } })) ∧
  (∀ (s : State) (w : WaitEntry), Running s → w ∈ s.plu.waits → w.expiry ≤ s.now →
    exec (.claimExpiry w.claim.board w.claim.serial) s = .next { s with plu := { s.plu with
      waits := s.plu.waits.filter fun x => decide (x.claim ≠ w.claim) } }) ∧
  (∀ (s : State) (e : PledgeEntry), Running s → s.plu.entry e.claim = some e → e.deadline ≤ s.now →
    ∃ t, exec (.pledgeDeadline e.claim.board e.claim.serial) s = .next t ∧ OthersStand e.claim s t ∧
      ((∀ w ∈ s.plu.waits, w.claim ≠ e.claim) → t.plu.entry e.claim = none) ∧
      (e.state = .confirmed → PostsFirst [(.pledgeExpired, .claim e.claim, e.kw, 0)] s t) ∧
      (e.state ≠ .confirmed → s.hpt.nodeState = .mute → t.evf = s.evf)) ∧
  (∀ (s : State) (c : FuelConfig), Running s → s.fau.copy = some c →
    let t := pledgeSample s
    let d := c.rating * (s.fau.factor * (if s.fau.diverge then 900 else 1000) / 1000) / 1000
    t.plu.derated = d ∧
    t.plu.headroom = (if s.setc.state = .online ∧ s.fpc.lost = false ∧ s.hpt.nodeState = .run
      then d - s.fpc.sample.p - kwOf t.plu.pledges else 0) ∧
    ∃ ci, t = settlePledges (derateCheck { s with plu := { s.plu with
      derated := d, ci := ci, formed := true } })) ∧
  (∀ s : State, (s.plu.pledges.map (·.claim)).Nodup →
    let t := derateCheck s
    let room := s.plu.derated - s.fpc.sample.p
    let excess := kwOf s.plu.pledges - room
    (kwOf s.plu.pledges ≤ room → t = s) ∧
    (room < kwOf s.plu.pledges →
      kwOf t.plu.pledges = max room (kwOf (s.plu.pledges.filter fun e => decide (e.state ≠ .offered)))) ∧
    (∀ e ∈ s.plu.pledges, e.state ≠ .offered → e ∈ t.plu.pledges) ∧
    (∀ (pre post : List PledgeEntry) (e : PledgeEntry), s.plu.pledges = pre ++ e :: post →
      e.state = .offered →
      let newer := kwOf (post.filter fun x => decide (x.state = .offered))
      let standing := post.filter fun x => decide (x.state ≠ .offered)
      let r := min excess e.kw
      (newer < excess → excess < newer + e.kw →
        t.plu = { s.plu with
          pledges := pre ++ { e with kw := e.kw - (excess - newer) } :: standing }) ∧
      (newer < excess → excess = newer + e.kw → t.plu = { s.plu with pledges := pre ++ standing }) ∧
      (0 < excess → (∀ x ∈ post, x.state ≠ .offered) →
        (Room s → PostsFirst [(.pledgeRevoked, .claim e.claim, pair16 r (e.kw - r), 0)] s t) ∧
        (s.hpt.nodeState = .run → s.slc.queue.length < 16 → ∃ q ∈ t.slc.queue, q.cls = .urgent ∧
          q.bulletin = .revoke e.claim.board e.claim.serial r (e.kw - r))))) ∧
  (∀ s : State,
    let t := tripNotice s
    let told := s.plu.pledges.reverse.filter fun e => decide (e.state ≠ .settling)
    KeepsAllBut [.plu, .slc, .evf] s t ∧ t.plu = { s.plu with pledges := [] } ∧
    (s.hpt.nodeState ≠ .run ∨ s.slc.queue.length + told.length ≤ 16 →
      Posts (told.map fun e => (.pledgeRevoked, .claim e.claim, pair16 e.kw 0, 1)) s t) ∧
    (s.hpt.nodeState = .run → s.slc.queue.length + told.length ≤ 16 → ∀ e ∈ told, ∃ q ∈ t.slc.queue,
      q.cls = .urgent ∧ q.bulletin = .revoke e.claim.board e.claim.serial e.kw 0))

/-- The arbiter (R93 to R97). A SELECT_PROFILE makes a profile the active one, OK. The choice is an eligible
claim, none only where no claim is eligible: of the lowest level under the active profile, 4 where the kind
is not in its class's filter; of those from the smallest board above the pointer, or the smallest of all. A
serve of the choice makes a new OFFERED entry of min(H, remaining) for 6 s or raises the OFFERED one, lowers
what remains, moves the pointer to the board, and offers a PLEDGE of the entry's whole kW, URGENT for a
FORCED claim. Choices go on until the headroom is 0 or no waiting claim is eligible, from the headroom of that
moment (R88, R95): what they pledge is what the headroom falls by, no entry is lowered or removed, and no claim
is listed anew. That the R/20 test of R28 follows the last of them is the model's reading (log entry 37). -/
def Obligations.ArbiterChoosesAndServes : Prop :=
  (∀ (s : State) (tag profile : Byte) (name : ProfileName), Running s → profile.toNat = name.code →
    exec (.selectProfile tag profile) s
      = .next ({ s with plu := { s.plu with active := name } }.answered tag .ok [])) ∧
  (∀ p : Plu,
    let profile := if p.active = .a then p.profileA else p.profileB
    let admitted (w : WaitEntry) (e : ProfileEntry) : Bool := match w.kind with
      | .planned => e.planned
      | .forced => e.forced
      | .topup => e.topup
    let level (w : WaitEntry) : Nat := match profile[w.cls]? with
      | some e => if admitted w e then e.level else 4
      | none => 4
    let may (w : WaitEntry) : Prop := 0 < w.remaining ∧
      ((∃ e, p.entry w.claim = some e ∧ e.state = .offered) ∨ p.entry w.claim = none ∧ p.pledges.length < 8)
    (choose p = none ↔ ∀ w ∈ p.waits, ¬may w) ∧
    (∀ w, choose p = some w → w ∈ p.waits ∧ may w ∧ ∀ v ∈ p.waits, may v →
      level w ≤ level v ∧ (level v = level w →
        (p.pointer < w.claim.board → p.pointer < v.claim.board → w.claim.board ≤ v.claim.board) ∧
        (w.claim.board ≤ p.pointer → v.claim.board ≤ p.pointer ∧ w.claim.board ≤ v.claim.board)))) ∧
  (∀ (s : State) (w : WaitEntry), choose s.plu = some w →
    let pl := min s.plu.headroom w.remaining
    let kw := match s.plu.entry w.claim with
      | some e => e.kw + pl
      | none => pl
    ∃ u : State, KeepsAllBut [.plu] s u ∧
      serve w s = offer (.pledge w.claim.board w.claim.serial kw)
        (if w.kind = .forced then .urgent else .normal) u ∧
      u.plu.pointer = w.claim.board ∧
      (∀ e, s.plu.entry w.claim = some e → u.plu.entry w.claim = some { e with kw := e.kw + pl } ∧
        u.plu.created = s.plu.created) ∧
      (s.plu.entry w.claim = none → u.plu.created = s.plu.created + 1 ∧ u.plu.pledges = s.plu.pledges ++
        [⟨w.claim, pl, w.kind, .offered, s.plu.created + 1, s.now + 6 * second⟩]) ∧
      u.plu.waits = (s.plu.waits.map fun x =>
          if x.claim = w.claim then { x with remaining := x.remaining - pl } else x).filter
        fun x => decide (x.claim ≠ w.claim ∨ x.remaining ≠ 0)) ∧
  (∀ s : State,
    let t := servePledges s
    let held (p : Plu) : Nat := (p.pledges.map (·.kw)).sum
    let free := if s.hpt.role = some .genset ∧ s.hpt.nodeState = .run ∧ s.setc.state = .online ∧
        s.fpc.lost = false ∧ s.plu.formed = true then s.plu.derated - s.fpc.sample.p - held s.plu else 0
    KeepsAllBut [.plu, .slc, .evf] s t ∧
    (t.plu.headroom = 0 ∨ choose t.plu = none) ∧
    (free = 0 ∨ choose s.plu = none → t = { s with plu := { s.plu with headroom := free } }) ∧
    ((s.plu.pledges.map (·.claim)).Nodup → held t.plu + t.plu.headroom = held s.plu + free) ∧
    (∀ e ∈ s.plu.pledges, ∃ e' ∈ t.plu.pledges, e.kw ≤ e'.kw ∧ e' = { e with kw := e'.kw }) ∧
    (∀ w ∈ t.plu.waits, ∃ w' ∈ s.plu.waits, w.remaining ≤ w'.remaining ∧
      w = { w' with remaining := w.remaining }) ∧
    settlePledges s = headroomCause t)

/-- A valid CLAIM for the node's group (R91): after its claim notice it is listed in full for 4 s, or 1.5 s if
FORCED, and left to the arbiter; not listed for 0 kW or a claim id that waits or is pledged to, and told with
CLAIM_OVERFLOW when 8 wait. A CLAIM for another group is ignored. -/
def Obligations.ClaimListed : Prop :=
  ∀ (s : State) (c : ClaimId) (group cls kw : Nat) (kind : ClaimKind),
    let t := takeClaim c group kind cls kw s
    let g := groupCheck true s
    let entry : WaitEntry := ⟨c, group, kind, cls, kw, kw, s.siteSec, s.siteMs,
      s.now + if kind = .forced then 1500 * millisecond else 4 * second⟩
    let silent := kw = 0 ∨ (∃ w ∈ g.plu.waits, w.claim = c) ∨ (g.plu.entry c).isSome
    (group ≠ s.cfg.groupA → t = s) ∧
    (group = s.cfg.groupA → silent → t = g) ∧
    (group = s.cfg.groupA → ¬silent → 8 ≤ g.plu.waits.length →
      KeepsAllBut [.evf] g t ∧ Posts [(.claimOverflow, .claim c, kw, kind.code)] g t) ∧
    (group = s.cfg.groupA → ¬silent → g.plu.waits.length < 8 →
      t = settlePledges { g with plu := { g.plu with waits := g.plu.waits ++ [entry] } } ∧
      (g.setc.state ≠ .online → t.plu.waits = g.plu.waits ++ [entry] ∧ t.plu.pledges = g.plu.pledges))

/-- R88, the law of the device on headroom: none but a GENSET in RUN, ONLINE, with its front end answering,
offers headroom, and none in CONFIG, in MUTE, or LOST. -/
def Sys2Proof.Claims.HeadroomOk (s : State) : Prop :=
  s.plu.headroom ≠ 0 → s.hpt.role = some .genset ∧ s.hpt.nodeState = .run ∧ s.setc.state = .online ∧
    s.fpc.lost = false

/-- Every step keeps the law of R88, and one that begins and ends outside ONLINE, or outside RUN, makes no
pledge entry for a claim that had none. -/
def Obligations.HeadroomLaw : Prop :=
  ∀ s t : State, HeadroomOk s → step s = .next t → HeadroomOk t ∧
    ((s.setc.state ≠ .online ∧ t.setc.state ≠ .online) ∨
      (s.hpt.nodeState ≠ .run ∧ t.hpt.nodeState ≠ .run) →
      ∀ c, s.plu.entry c = none → t.plu.entry c = none)

/-- R91 and R98, the laws of the device on the wait list and the pledge table: at most 8 entries each and one
a claim id, and a held total of at most the rating; with the derated capacity at most the rating once a
sample has formed it. -/
structure Sys2Proof.Claims.PledgesOk (s : State) : Prop where
  fewWaits : s.plu.waits.length ≤ 8
  waitsDiffer : (s.plu.waits.map (·.claim)).Nodup
  fewPledges : s.plu.pledges.length ≤ 8
  pledgesDiffer : (s.plu.pledges.map (·.claim)).Nodup
  held : (s.plu.pledges.map (·.kw)).sum ≤ (s.fau.copy.map (·.rating)).getD 0
  derated : s.plu.formed = true → s.plu.derated ≤ (s.fau.copy.map (·.rating)).getD 0
  factor : s.fau.factor ≤ 1000

/-- Every step keeps the laws of the wait list and the pledge table (R91, R98). -/
def Obligations.PledgeTablesKept : Prop :=
  ∀ s t : State, PledgesOk s → step s = .next t → PledgesOk t

/-! ### Chapter 6: stage changeover -/

/-- The power a claim asks for (R113): the load with the margin, in whole units upward, 1 to 65535. -/
def Sys2Proof.Claims.asked (load margin : Nat) : Nat := min (max ((load * (1000 + margin) + 999) / 1000) 1) 65535

/-- The board is ISOLATED with event cause `cause` (R131): no active or billing feeder, no record, and every
timer, limit and watch stopped. -/
def Sys2Proof.Claims.Isolates (t : State) : Prop :=
  t.chs.state = .isolated ∧ t.chs.active = none ∧ t.chs.billing = none ∧ t.chs.claim = none ∧
    t.chs.openLimit = none ∧ t.chs.deadTimer = none ∧ t.chs.closeLimit = none ∧ t.chs.topupTimer = none ∧
    ∀ f, (t.chs.feeder f).lossWatch = none ∧ (t.chs.feeder f).returnWatch = none

/-- The record of a claim has been confirmed (R117, R128): it holds the CONFIRM's walk, which is offered URGENT
where the list has an entry, the levels stand as capacity shedding leaves them, and the billing feeder as it
was. -/
def Sys2Proof.Claims.Confirmed (c : ClaimRec) (s t : State) : Prop :=
  let u := shedCapacity c.confirm s
  t.chs.claim = some c.confirm ∧ t.chs.billing = s.chs.billing ∧ t.mtr = u.mtr ∧
  t.chs.shed1 = u.chs.shed1 ∧ t.chs.shed2 = u.chs.shed2 ∧ t.chs.shed3 = u.chs.shed3 ∧
  (s.hpt.nodeState = .run → s.slc.queue.length < 16 → c.pledges ≠ [] → ∃ e ∈ t.slc.queue,
    e.cls = .urgent ∧ e.bulletin = .confirm c.serial (c.confirm.pledges.map fun e => (e.node, e.got)))

/-- DEAD entered with the record confirmed (R122): no active feeder, and the dead time runs. -/
def Sys2Proof.Claims.GoesDead (c : ClaimRec) (s t : State) : Prop :=
  Confirmed c s t ∧ t.chs.state = .dead ∧ t.chs.active = none ∧ t.chs.openLimit = none ∧
    t.chs.deadTimer = some (s.now + s.cfg.deadTime * millisecond)

/-- The collection of claim `c` ends, at cover or at the end of its time (R117), by its origin. A planned move
enters OPENING, with an OPEN pulse of 200 ms to the old feeder and its open limit of 500 ms, or DEAD where that
reads OPEN already (R121). A forced one enters DEAD where the old feeder reads OPEN, OPENING while the open limit
still runs, and is welded where it has passed (R126). A return enters CLOSING on a live target, with a CLOSE
pulse and its limit, ISOLATED where R109 forbids that, and falls back to DARK without a source (R130). A top-up
gives its level back and ends SETTLED with RELEASE(DONE) (R129). -/
def Sys2Proof.Claims.CollectionEnds (c : ClaimRec) (s t : State) : Prop :=
  let old := otherFeeder c.target
  (c.origin = .changeover →
    t.fpc.pulse old = some ⟨.openLine, s.now + 200 * millisecond⟩ ∧
    (s.closed old = true → Confirmed c s t ∧ t.chs.state = .opening ∧ t.chs.active = s.chs.active ∧
      t.chs.openLimit = some ⟨old, s.now + 500 * millisecond⟩) ∧
    (s.closed old = false → GoesDead c s t)) ∧
  (c.origin = .loss →
    (s.closed old = false → GoesDead c s t) ∧
    (∀ l, s.closed old = true → s.chs.openLimit = some l → s.now < l.deadline →
      Confirmed c s t ∧ t.chs.state = .opening ∧ t.chs.openLimit = some l) ∧
    (s.closed old = true → (∀ l, s.chs.openLimit = some l → l.deadline ≤ s.now) →
      Isolates t ∧ (t.chs.feeder old).faulty = true)) ∧
  (c.origin = .fromDark →
    (s.live c.target = true → CloseAllowed c.target s → s.closed c.target = false →
      Confirmed c s t ∧ t.chs.state = .closing ∧ t.chs.closeLimit = some (s.now + 500 * millisecond) ∧
      t.fpc.pulse c.target = some ⟨.closeLine, s.now + 200 * millisecond⟩) ∧
    (s.live c.target = true → ¬CloseAllowed c.target s → Isolates t) ∧
    (s.live c.target = false → t.chs.state = .dark ∧ t.chs.active = none ∧ t.chs.billing = none ∧
      t.chs.claim = none ∧
      (s.hpt.nodeState = .mute ∨ s.slc.queue.length < 15 → c.requested ≤ (c.pledges.map (·.kw)).sum →
        PostsFirst [(.changeoverFailed, ownClaim s c, 0, 6)] s t))) ∧
  (c.origin = .topup → c.kind = .topup →
    Settles c.target s.chs.billing { s with fpc := t.fpc } t ∧
    (NotLost c.target s →
      (∀ p, s.chs.shed1 = some p → t.mtr.levels.l1 = false ∧ t.chs.shed1 = none ∧
        t.chs.shed2 = s.chs.shed2 ∧ t.chs.shed3 = s.chs.shed3) ∧
      (∀ p, s.chs.shed1 = none → s.chs.shed2 = some p → t.mtr.levels.l2 = false ∧ t.chs.shed1 = none ∧
        t.chs.shed2 = none ∧ t.chs.shed3 = s.chs.shed3) ∧
      (∀ p, s.chs.shed1 = none → s.chs.shed2 = none → s.chs.shed3 = some p → t.mtr.levels.l3 = false ∧
        t.chs.shed1 = none ∧ t.chs.shed2 = none ∧ t.chs.shed3 = none) ∧
      (s.hpt.nodeState = .run → s.slc.queue.length < 15 → ∃ e ∈ t.slc.queue, e.cls = .urgent ∧
        e.bulletin = .release c.serial .done)))

/-- The planned claim (R113, R119, R120). CHANGEOVER is taken by a SETTLED BOARD in RUN whose other feeder is
live and not FAULTY: the record is made with the next serial, the CLAIM offered NORMAL, collection runs for
4 s, and the answer carries serial and requested kW; refused with STATE where a condition fails and with
BAD_FIELD for a class above 7. CANCEL_CHANGEOVER and the deadline end it with CHANGEOVER_FAILED CANCELLED and
SHORT and the board SETTLED where it was; the cancel is refused in every other state and origin. The deadline
of a top-up claim leaves the board SETTLED too, and that of a forced claim ends its collection with what it has
(R126, R130). -/
def Obligations.PlannedClaim : Prop :=
  (∀ (s : State) (tag cls : Byte) (f : Feeder), s.hpt.role = some .board → s.hpt.nodeState = .run →
    (7 < cls.toNat → exec (.changeover tag cls) s = .next (s.answered tag .badField [0])) ∧
    (cls.toNat ≤ 7 → s.chs.state ≠ .settled ∨ s.chs.active = none ∨
      s.chs.active = some f ∧ (s.live (otherFeeder f) = false ∨ (s.chs.feeder (otherFeeder f)).faulty = true) →
      exec (.changeover tag cls) s = .next (s.answered tag .state [])) ∧
    (cls.toNat ≤ 7 → s.chs.state = .settled → s.chs.active = some f → s.live (otherFeeder f) = true →
      (s.chs.feeder (otherFeeder f)).faulty = false →
      let serial := (s.chs.serial + 1) % 256
      let group := (s.chs.feeder (otherFeeder f)).group
      let kw := asked s.chs.snapLoad s.cfg.margin
      ∃ t : State, exec (.changeover tag cls) s = .next (t.answered tag .ok (byte serial :: be16 kw)) ∧
        KeepsAllBut [.chs, .slc, .evf, .pvt] s t ∧
        t.chs = { s.chs with
          state := .claiming, serial := serial, topupTimer := none
          claim := some ⟨serial, otherFeeder f, group, .planned, cls.toNat, .changeover, kw, [], none,
            s.now + 4 * second⟩ } ∧
        (s.slc.queue.length < 16 → ∃ e ∈ t.slc.queue, e.cls = .normal ∧
          e.bulletin = .claim serial group .planned cls.toNat kw))) ∧
  (∀ (s : State) (tag : Byte), OnBoard s →
    (s.chs.state ≠ .claiming ∨ (∀ c, s.chs.claim = some c → c.origin ≠ .changeover) →
      exec (.cancelChangeover tag) s = .next (s.answered tag .state [])) ∧
    (∀ c, s.chs.state = .claiming → s.chs.claim = some c → c.origin = .changeover →
      ∃ t : State, exec (.cancelChangeover tag) s = .next (t.answered tag .ok []) ∧
        Settles (otherFeeder c.target) s.chs.billing s t ∧
        (Room s → PostsFirst [(.changeoverFailed, ownClaim s c, 0, 1)] s t))) ∧
  (∀ (s : State) (c : ClaimRec), OnBoard s → s.chs.claim = some c → c.confirmed = none →
    c.deadline ≤ s.now →
    (c.origin = .changeover → ∃ t, exec .claimDeadline s = .next t ∧
      Settles (otherFeeder c.target) s.chs.billing s t ∧
      (Room s → PostsFirst [(.changeoverFailed, ownClaim s c, 0, 0)] s t)) ∧
    (c.origin = .topup → ∃ t, exec .claimDeadline s = .next t ∧ Settles c.target s.chs.billing s t) ∧
    (c.origin = .loss ∨ c.origin = .fromDark →
      ∃ t, exec .claimDeadline s = .next t ∧ CollectionEnds c s t))

/-- The pledge list while pledges are collected (R115 to R118): a PLEDGE for the record's serial writes its
source's kW in place or joins it at the end of fewer than 8, and ends the collection where the sum reaches the
request (R120, R126, R129, R130); a REVOKE lowers or removes its source's entry, and after the CONFIRM posts
PLEDGE_LOST_AFTER_CONFIRM and changes nothing else (that a REVOKE is never tested for cover is log entry 47); a
peer that is gone loses its entry without an event. -/
def Obligations.PledgesCollected : Prop :=
  ∀ (s : State) (c : ClaimRec) (node kw : Nat), OnBoard s → s.chs.claim = some c →
    let known := ∃ e ∈ c.pledges, e.node = node
    let listed := if c.pledges.any (fun e => e.node == node)
      then c.pledges.map (fun e => if e.node = node then { e with kw := kw } else e)
      else c.pledges ++ [⟨node, kw, none⟩]
    let without := c.pledges.filter fun e => e.node != node
    let lowered := if kw = 0 then without
      else c.pledges.map fun e => if e.node = node then { e with kw := kw } else e
    (∀ serial, serial ≠ c.serial ∨ c.confirmed.isSome → takePledge node s.eventId serial kw s = s) ∧
    (∀ board serial, board ≠ s.eventId → takePledge node board serial kw s = s) ∧
    (c.confirmed = none → ¬known → 8 ≤ c.pledges.length → takePledge node s.eventId c.serial kw s = s) ∧
    (c.confirmed = none → known ∨ c.pledges.length < 8 → (listed.map (·.kw)).sum < c.requested →
      takePledge node s.eventId c.serial kw s
        = { s with chs := { s.chs with claim := some { c with pledges := listed } } }) ∧
    (c.confirmed = none → known ∨ c.pledges.length < 8 → c.requested ≤ (listed.map (·.kw)).sum →
      CollectionEnds { c with pledges := listed } s (takePledge node s.eventId c.serial kw s)) ∧
    (∀ revoked, c.confirmed.isSome →
      KeepsAllBut [.evf] s (takeRevoke node s.eventId c.serial revoked kw s) ∧
      Posts [(.pledgeLostAfterConfirm, ownClaim s c, pair16 revoked kw, node)] s
        (takeRevoke node s.eventId c.serial revoked kw s)) ∧
    (∀ revoked, c.confirmed = none → takeRevoke node s.eventId c.serial revoked kw s
      = { s with chs := { s.chs with claim := some { c with pledges := lowered } } }) ∧
    boardPeerGone node s = { s with chs := { s.chs with claim := some { c with pledges := without } } }

/-- R117, the law of the device on the CONFIRM: every entry of the pledge list is named in its order with the
kW it last pledged, each taken kW at most that, the earlier served first, and the taken kW sum to T, the
lesser of the request and the pledge sum; the CONFIRM offered carries them, URGENT, and an empty list gives
none. -/
def Obligations.ConfirmWalk : Prop :=
  (∀ c : ClaimRec,
    let l := c.confirm.pledges
    l.map (·.node) = c.pledges.map (·.node) ∧ l.map (·.kw) = c.pledges.map (·.kw) ∧
    (∀ e ∈ l, ∃ t, e.taken = some t ∧ t ≤ e.kw) ∧
    (∀ i, ((l.take i).map (·.got)).sum = min c.requested (((c.pledges.take i).map (·.kw)).sum)) ∧
    c.confirm.confirmed = some (min c.requested ((c.pledges.map (·.kw)).sum))) ∧
  (∀ (s : State) (c : ClaimRec),
    (c.pledges = [] → buildConfirm c s = s.withChs { s.chs with claim := some c.confirm }) ∧
    (c.pledges ≠ [] → buildConfirm c s
      = offer (.confirm c.serial (c.confirm.pledges.map fun e => (e.node, e.got))) .urgent
        (s.withChs { s.chs with claim := some c.confirm })))

/-- Capacity shedding at the CONFIRM of a FORCED claim that falls short (R128): levels 3, 2 and 1 in that
order, each taken while the fitted load does not fit T, with the snapshot power of its enabled channels taken
from the load and held as its recorded power; a level already shed is passed over; the levels taken are asked
of the Metering Unit, and what still does not fit after level 1 is told with OVERCOMMIT, which the model posts
before the SHED_CHANGE events of the levels (log entry 23). A claim that is not FORCED, or is covered, sheds
nothing. -/
def Obligations.CapacityShed : Prop :=
  ∀ (s : State) (c : ClaimRec),
    let t := shedCapacity c s
    let total := c.confirmed.getD 0
    let power (n : Nat) : Nat := (((List.range 16).filter fun i =>
      (s.channel i).level == n && (s.channel i).mapping.isSome).map fun i => s.chs.snapPowers.getD i 0).sum
    let fit (load : Int) : Prop := (max load 0) * (1000 + s.cfg.margin) ≤ (total * 1000 : Nat)
    let l3 : Int := s.chs.snapLoad
    let l2 : Int := if s.chs.shed3.isSome then l3 else l3 - power 3
    let l1 : Int := if s.chs.shed2.isSome then l2 else l2 - power 2
    let l0 : Int := if s.chs.shed1.isSome then l1 else l1 - power 1
    (c.kind ≠ .forced ∨ c.requested ≤ total → t = s) ∧
    (c.kind = .forced → total < c.requested →
      (fit l3 → t.chs = s.chs ∧ t.mtr = s.mtr) ∧
      (¬fit l3 → s.chs.shed3 = none → t.chs.shed3 = some (power 3) ∧ t.mtr.levels.l3 = true) ∧
      (¬fit l3 → ¬fit l2 → s.chs.shed2 = none → t.chs.shed2 = some (power 2) ∧ t.mtr.levels.l2 = true) ∧
      (¬fit l3 → ¬fit l2 → ¬fit l1 → s.chs.shed1 = none →
        t.chs.shed1 = some (power 1) ∧ t.mtr.levels.l1 = true) ∧
      (fit l2 → t.chs.shed2 = s.chs.shed2) ∧ (fit l1 → t.chs.shed1 = s.chs.shed1) ∧
      (∀ p, s.chs.shed3 = some p → t.chs.shed3 = some p) ∧
      (∀ p, s.chs.shed2 = some p → t.chs.shed2 = some p) ∧
      (∀ p, s.chs.shed1 = some p → t.chs.shed1 = some p) ∧
      (¬fit l3 → ¬fit l2 → ¬fit l1 → ¬fit l0 →
        PostsFirst [(.overcommit, ownClaim s c, pair16 total l0.toNat, 0)] s t))

/-- FALLBACK (R124): onto the old feeder with a CLOSE pulse and its limit of 500 ms where that feeder is live
and not FAULTY and the target is open and at rest, SETTLED on it at once where it reads CLOSED already, and to
ISOLATED where it is not live, FAULTY, or R109 forbids the CLOSE. -/
def Sys2Proof.Claims.FallsBack (c : ClaimRec) (reason : FailReason) (s t : State) : Prop :=
  let old := otherFeeder c.target
  (s.live old = true → (s.chs.feeder old).faulty = false → CloseAllowed old s → s.closed old = false →
    t.chs.state = .fallback ∧ t.chs.fallbackReason = reason ∧ t.chs.claim = s.chs.claim ∧
    t.chs.closeLimit = some (s.now + 500 * millisecond) ∧
    t.fpc.pulse old = some ⟨.closeLine, s.now + 200 * millisecond⟩) ∧
  (s.live old = true → (s.chs.feeder old).faulty = false → CloseAllowed old s → s.closed old = true →
    Settles old s.chs.billing { s with fpc := t.fpc } t) ∧
  (s.live old = false ∨ (s.chs.feeder old).faulty = true ∨ ¬CloseAllowed old s → Isolates t)

/-- The ends of the contactor limits (R109, R121 to R124, R126, R130). An open limit with the old feeder
still CLOSED marks it FAULTY, with CONTACTOR_FAULT OPEN_TIMEOUT and CONTACTOR_TIMEOUT. A planned move is then
SETTLED on it; in OPENING and CLAIMING of a forced move, in CLAIMING of a return and in DARK the board is welded:
the record ends with RELEASE(FAILED), a forced move's with CHANGEOVER_FAILED too, and the board is ISOLATED with
cause WELDED. At the end of the dead time a live target gets its CLOSE pulse and limit, one without a source
or FAULTY sends the board to FALLBACK, and a CLOSE that R109 forbids to ISOLATED. A close limit passed marks
the target FAULTY and goes to FALLBACK, or to DARK on a return; in FALLBACK it isolates the board. That a target
without a source counts as TARGET_DEAD before its FAULTY mark as CLOSE_FAIL, and that FALLBACK with the old feeder
already CLOSED is SETTLED at once, is the model's reading (log entry 28). -/
def Obligations.ContactorLimits : Prop :=
  (∀ (s : State) (c : ClaimRec) (l : OpenLimit), OnBoard s → s.chs.openLimit = some l → l.deadline ≤ s.now →
    (s.closed l.feeder = false →
      exec .openLimit s = .next { s with chs := { s.chs with openLimit := none } }) ∧
    (s.closed l.feeder = true → s.chs.state = .opening → s.chs.claim = some c → c.origin = .changeover →
      ∃ t, exec .openLimit s = .next t ∧ (t.chs.feeder l.feeder).faulty = true ∧
        Settles l.feeder s.chs.billing s t ∧
        FaultKind.contactorTimeout.inSet t.evf.sticky = true ∧
        PostsFirst ((.contactorFault, .node s.eventId, 0, feederMark (some l.feeder) * 256 + 1)
          :: faultPosts .contactorTimeout s) s t)) ∧
  (∀ (s : State) (l : OpenLimit), OnBoard s → s.chs.openLimit = some l → l.deadline ≤ s.now →
    s.closed l.feeder = true →
    let welds (c : Option ClaimRec) (t : State) : Prop :=
      Isolates t ∧ (t.chs.feeder l.feeder).faulty = true ∧ t.fpc = s.fpc ∧
      FaultKind.contactorTimeout.inSet t.evf.sticky = true ∧
      (Room s → PostsFirst ((.contactorFault, .node s.eventId, 0, feederMark (some l.feeder) * 256 + 1)
        :: faultPosts .contactorTimeout s
        ++ (match c with
          | some c => if c.origin = .loss then [(.changeoverFailed, ownClaim s c, 0, 4)] else []
          | none => []) ++ [(.isolated, .node s.eventId, 0, 3)]) s t) ∧
      (∀ x, c = some x → s.hpt.nodeState = .run → s.slc.queue.length < 16 →
        ∃ e ∈ t.slc.queue, e.cls = .urgent ∧ e.bulletin = .release x.serial .failed)
    (∀ c, s.chs.claim = some c → c.origin ≠ .changeover → s.chs.state = .opening ∨ s.chs.state = .claiming →
      ∃ t, exec .openLimit s = .next t ∧ welds (some c) t) ∧
    (s.chs.claim = none → s.chs.state = .dark → ∃ t, exec .openLimit s = .next t ∧ welds none t)) ∧
  (∀ (s : State) (c : ClaimRec) (due : Nat), OnBoard s → s.chs.deadTimer = some due → due ≤ s.now →
    s.chs.state = .dead → s.chs.claim = some c →
    (s.live c.target = true → (s.chs.feeder c.target).faulty = false → CloseAllowed c.target s →
      s.closed c.target = false → ∃ t, exec .deadTimeEnd s = .next t ∧ t.chs.state = .closing ∧
        t.chs.claim = some c ∧ t.chs.deadTimer = none ∧ t.chs.billing = s.chs.billing ∧
        t.chs.closeLimit = some (s.now + 500 * millisecond) ∧
        t.fpc.pulse c.target = some ⟨.closeLine, s.now + 200 * millisecond⟩) ∧
    (s.live c.target = true → (s.chs.feeder c.target).faulty = false → CloseAllowed c.target s →
      s.closed c.target = true → ∃ t, exec .deadTimeEnd s = .next t ∧
        Settles c.target (some c.target) { s with fpc := t.fpc } t) ∧
    (s.live c.target = true → (s.chs.feeder c.target).faulty = false → ¬CloseAllowed c.target s →
      ∃ t, exec .deadTimeEnd s = .next t ∧ Isolates t ∧ t.fpc = s.fpc) ∧
    (s.live c.target = false → ∃ t, exec .deadTimeEnd s = .next t ∧ FallsBack c .targetDead s t) ∧
    (s.live c.target = true → (s.chs.feeder c.target).faulty = true →
      ∃ t, exec .deadTimeEnd s = .next t ∧ FallsBack c .closeFail s t)) ∧
  (∀ (s : State) (c : ClaimRec) (due : Nat), OnBoard s → s.chs.closeLimit = some due → due ≤ s.now →
    s.chs.claim = some c →
    (s.chs.state = .closing → c.origin = .changeover ∨ c.origin = .loss →
      ∃ t, exec .closeLimit s = .next t ∧ (t.chs.feeder c.target).faulty = true ∧
        FallsBack c .closeFail s t) ∧
    (s.chs.state = .closing → c.origin = .fromDark →
      ∃ t, exec .closeLimit s = .next t ∧ (t.chs.feeder c.target).faulty = true ∧ t.chs.state = .dark ∧
        t.chs.claim = none ∧ t.chs.active = none ∧ t.chs.billing = none ∧ t.fpc = s.fpc) ∧
    (s.chs.state = .fallback → ∃ t, exec .closeLimit s = .next t ∧
      (t.chs.feeder (otherFeeder c.target)).faulty = true ∧ Isolates t ∧ t.fpc = s.fpc))

/-- A change of a feeder's filtered position (R111, R112, R121, R123, R124), the new position being in the filter:
both CLOSED isolate the board, with FEEDBACK_CONFLICT; the old feeder reading OPEN ends OPENING in DEAD for the
dead time; the target reading CLOSED is confirmed closure, and becomes the active and billing feeder with
CHANGEOVER_DONE; the old feeder reading CLOSED in FALLBACK is active again, with the fallback reason; the active
feeder of a SETTLED board reading OPEN, or of one collecting a planned or a top-up claim, leaves it DARK, told as
UNCOMMANDED_OPEN and not FAULTY, the claim ended with RELEASE(ABORTED) and a planned one with CHANGEOVER_FAILED;
a feeder closed by hand in DARK, or during a return claim, becomes the active and billing feeder, and the claim
ends with RELEASE(ABORTED) (that no event tells its end is log entry 30). -/
def Obligations.PositionChanges : Prop :=
  (∀ (s : State) (f : Feeder) (level : Bool), OnBoard s → s.closed .a = true → s.closed .b = true →
    let t := positionChange f level s
    FaultKind.feedbackConflict.inSet t.evf.sticky = true ∧ t.fpc = s.fpc ∧
    PostsFirst (faultPosts .feedbackConflict s) s t ∧ (s.chs.state ≠ .isolated → Isolates t)) ∧
  (∀ (s : State) (c : ClaimRec), OnBoard s → s.closed .a = false ∨ s.closed .b = false →
    s.chs.claim = some c →
    let old := otherFeeder c.target
    (s.chs.state = .opening → (positionChange old false s).chs = { s.chs with
      state := .dead, active := none, openLimit := none, topupTimer := none
      deadTimer := some (s.now + s.cfg.deadTime * millisecond) }) ∧
    (s.chs.state = .closing →
      let t := positionChange c.target true s
      Settles c.target (some c.target) s t ∧ (Room s → PostsFirst [(.changeoverDone, ownClaim s c,
        pair16 (c.confirmed.getD 0) ((if s.chs.shed1.isSome then 1 else 0)
          + (if s.chs.shed2.isSome then 2 else 0) + (if s.chs.shed3.isSome then 4 else 0)),
        (if c.origin = .fromDark ∨ c.origin = .topup then 0 else feederMark (some old)) * 256
          + feederMark (some c.target))] s t)) ∧
    (s.chs.state = .fallback → s.chs.fallbackReason = .closeFail ∨ s.chs.fallbackReason = .targetDead →
      let t := positionChange old true s
      Settles old s.chs.billing s t ∧ (Room s → PostsFirst [(.changeoverFailed, ownClaim s c, 0,
        if s.chs.fallbackReason = .closeFail then 5 else 6)] s t)) ∧
    (∀ f, s.chs.active = some f → s.chs.state = .claiming ∧ c.origin = .changeover ∨ s.chs.state = .topupClaiming →
      let t := positionChange f false s
      t.chs.state = .dark ∧ t.chs.active = none ∧ t.chs.billing = none ∧ t.chs.claim = none ∧ t.fpc = s.fpc ∧
      (∀ g, (t.chs.feeder g).faulty = (s.chs.feeder g).faulty) ∧
      PostsFirst [(.contactorFault, .node s.eventId, 0, feederMark (some f) * 256)] s t ∧
      (c.origin = .changeover → Room s → PostsFirst [(.contactorFault, .node s.eventId, 0, feederMark (some f) * 256),
        (.changeoverFailed, ownClaim s c, 0, 7)] s t) ∧
      (s.hpt.nodeState = .run → s.slc.queue.length < 16 → ∃ e ∈ t.slc.queue, e.cls = .urgent ∧
        e.bulletin = .release c.serial .aborted)) ∧
    (∀ f, s.chs.state = .claiming → c.origin = .fromDark →
      let t := positionChange f true s
      Settles f (some f) s t ∧ (s.hpt.nodeState = .run → s.slc.queue.length < 16 → ∃ e ∈ t.slc.queue,
        e.cls = .urgent ∧ e.bulletin = .release c.serial .aborted))) ∧
  (∀ (s : State) (f : Feeder), OnBoard s → s.closed .a = false ∨ s.closed .b = false → s.chs.claim = none →
    (s.chs.state = .settled → s.chs.active = some f →
      let t := positionChange f false s
      t.chs.state = .dark ∧ t.chs.active = none ∧ t.chs.billing = none ∧ t.fpc = s.fpc ∧
      (∀ g, (t.chs.feeder g).faulty = (s.chs.feeder g).faulty) ∧
      PostsFirst [(.contactorFault, .node s.eventId, 0, feederMark (some f) * 256)] s t) ∧
    (s.chs.state = .dark → Settles f (some f) s (positionChange f true s)))

/-- A feeder's record after a sample (R114, R130): its loss watch set, left or cleared in every board state but
ISOLATED, its return watch in DARK where it is not FAULTY. -/
def Sys2Proof.Claims.watched (f : Feeder) (s : State) : FeederRec :=
  let r := s.chs.feeder f
  { r with
    lossWatch := if s.chs.state = .isolated then r.lossWatch
      else if s.live f = true then none else some (r.lossWatch.getD ⟨s.now, false⟩)
    returnWatch := if s.chs.state = .dark ∧ r.faulty = false then
        (if s.live f = true then some (r.returnWatch.getD s.now) else none)
      else r.returnWatch }

/-- The claim record of a FORCED claim made now for a feeder (R113, R125, R130). -/
def Sys2Proof.Claims.forcedRecord (f : Feeder) (origin : ClaimOrigin) (s : State) : ClaimRec :=
  ⟨(s.chs.serial + 1) % 256, f, (s.chs.feeder f).group, .forced, 0, origin, asked s.chs.snapLoad s.cfg.margin, [],
    none, s.now + 1500 * millisecond⟩

/-- Lost and returning sources and the top-up (R114, R120, R125 to R127, R129, R130). A sample takes the sizing
snapshot where the board is SETTLED or in TOPUP_CLAIMING on a live feeder, and keeps the watches. A confirmed
loss of the active feeder on a SETTLED board, or in TOPUP_CLAIMING after the end of that claim, opens it at once
with its open limit, and claims the other feeder for 1.5 s where that is live and not FAULTY, or leaves the board
DARK; while a planned claim collects it makes that claim FORCED, with the earlier deadline and no new CLAIM. A
confirmed loss of a claim's target ends the claim: SETTLED on the old feeder where it was planned, else DARK. A
source back in DARK for the confirm time claims its feeder FORCED with no open step. In MUTE the collection of
either forced claim ends at once with an empty list. The end of the top-up timer claims the lowest shed level's
recorded power on the active feeder for 4 s; in MUTE the timer starts again. (How a watch keeps that its moment
was taken, what MUTE ends at once, and the class that a converted claim keeps are log entries 27, 29 and 46.) -/
def Obligations.LossReturnAndTopUp : Prop :=
  (∀ s : State, (¬OnBoard s → boardSample s = s) ∧
    (OnBoard s →
      let carries := (s.chs.state = .settled ∨ s.chs.state = .topupClaiming) ∧
        ∃ f, s.chs.active = some f ∧ s.live f = true
      (carries → boardSample s = { s with chs := { s.chs with
        snapLoad := s.fpc.sample.p, snapPowers := s.fpc.sample.powers
        feederA := watched .a s, feederB := watched .b s } }) ∧
      (¬carries → boardSample s = { s with chs := { s.chs with
        feederA := watched .a s, feederB := watched .b s } }))) ∧
  (∀ (s : State) (f : Feeder) (w : LossWatch), OnBoard s → (s.chs.feeder f).lossWatch = some w →
    w.taken = false → w.since + s.cfg.lossConfirm * millisecond ≤ s.now →
    ∃ t, exec (.sourceLossConfirmed f) s = .next t ∧
      (s.chs.state = .settled ∨ s.chs.state = .topupClaiming → s.chs.active = some f →
        let c := forcedRecord (otherFeeder f) .loss s
        let limit : OpenLimit := ⟨f, s.now + 500 * millisecond⟩
        let usable := s.live (otherFeeder f) = true ∧ (s.chs.feeder (otherFeeder f)).faulty = false
        t.fpc.pulse f = some ⟨.openLine, s.now + 200 * millisecond⟩ ∧ t.chs.active = none ∧
        (s.hpt.nodeState = .run → t.chs.openLimit = some limit) ∧
        (s.hpt.nodeState = .run → usable → t.chs.state = .claiming ∧ t.chs.billing = s.chs.billing ∧
          t.chs.claim = some c) ∧
        (s.hpt.nodeState = .mute → usable →
          CollectionEnds c { s with chs := { s.chs with openLimit := some limit } } t) ∧
        (¬usable → t.chs.state = .dark ∧ t.chs.billing = none ∧
          (s.chs.state = .settled → t.chs.claim = s.chs.claim) ∧
          (s.chs.state = .topupClaiming → t.chs.claim = none))) ∧
      (∀ c, s.chs.state = .claiming → s.chs.claim = some c → c.origin = .changeover →
        c.target = otherFeeder f → KeepsAllBut [.chs, .fpc] s t ∧
        t.fpc.pulse f = some ⟨.openLine, s.now + 200 * millisecond⟩ ∧
        t.chs.state = .claiming ∧ t.chs.active = none ∧ t.chs.billing = s.chs.billing ∧
        t.chs.openLimit = some ⟨f, s.now + 500 * millisecond⟩ ∧
        t.chs.claim = some { c with
          kind := .forced, origin := .loss, deadline := min c.deadline (s.now + 1500 * millisecond) }) ∧
      (∀ c, s.chs.state = .claiming → s.chs.claim = some c → c.target = f →
        (Room s → PostsFirst [(.changeoverFailed, ownClaim s c, 0, 2)] s t) ∧
        (c.origin = .changeover → Settles (otherFeeder f) s.chs.billing s t) ∧
        (c.origin ≠ .changeover → t.chs.state = .dark ∧ t.chs.active = none ∧ t.chs.billing = none ∧
          t.chs.claim = none ∧ t.fpc = s.fpc))) ∧
  (∀ (s : State) (f : Feeder) (since : Nat), OnBoard s → s.chs.state = .dark →
    (s.chs.feeder f).faulty = false → (s.chs.feeder f).returnWatch = some since →
    since + s.cfg.returnConfirm * second ≤ s.now →
    ∃ t, exec (.returnConfirmed f) s = .next t ∧ (∀ g, (t.chs.feeder g).returnWatch = none) ∧
      (s.hpt.nodeState = .run → t.chs.state = .claiming ∧ t.fpc = s.fpc ∧
        t.chs.claim = some (forcedRecord f .fromDark s)) ∧
      (s.hpt.nodeState = .mute → CollectionEnds (forcedRecord f .fromDark s) s t)) ∧
  (∀ (s : State) (f : Feeder) (due n p : Nat), OnBoard s → s.chs.topupTimer = some due → due ≤ s.now →
    s.chs.state = .settled → s.chs.active = some f →
    (n = 1 ∧ s.chs.shed1 = some p ∨ n = 2 ∧ s.chs.shed1 = none ∧ s.chs.shed2 = some p ∨
      n = 3 ∧ s.chs.shed1 = none ∧ s.chs.shed2 = none ∧ s.chs.shed3 = some p) →
    (s.hpt.nodeState = .mute → exec .topupTimer s
      = .next { s with chs := { s.chs with topupTimer := some (s.now + 30 * second) } }) ∧
    (s.hpt.nodeState = .run → ∃ t, exec .topupTimer s = .next t ∧
      KeepsAllBut [.chs, .slc, .evf, .pvt] s t ∧ t.chs = { s.chs with
        state := .topupClaiming, topupTimer := none, serial := (s.chs.serial + 1) % 256
        claim := some ⟨(s.chs.serial + 1) % 256, f, (s.chs.feeder f).group, .topup, 7, .topup,
          asked p s.cfg.margin, [], none, s.now + 4 * second⟩ }))

/-- The host's recovery (R131, R132). RESTORE on an ISOLATED board whose feeders do not both read CLOSED clears
the named mark and leads to DARK, or to SETTLED on the feeder that reads CLOSED, as active and billing
feeder; elsewhere STATE. CLEAR_FEEDER on a SETTLED or DARK board clears the mark, OK, and nothing else;
elsewhere STATE. -/
def Obligations.HostRecovery : Prop :=
  ∀ (s : State) (tag : Byte) (f : Feeder), OnBoard s →
    let name : Byte := if f = .a then 0 else 1
    (s.chs.state ≠ .isolated ∨ (s.closed .a = true ∧ s.closed .b = true) →
      exec (.restore tag name) s = .next (s.answered tag .state [])) ∧
    (s.chs.state = .isolated → s.closed .a = false → s.closed .b = false →
      ∃ t : State, exec (.restore tag name) s = .next (t.answered tag .ok []) ∧
        (t.chs.feeder f).faulty = false ∧ (t.chs.feeder (otherFeeder f)).faulty
          = (s.chs.feeder (otherFeeder f)).faulty ∧
        t.chs.state = .dark ∧ t.chs.active = none ∧ t.chs.billing = none ∧ t.fpc = s.fpc) ∧
    (∀ g, s.chs.state = .isolated → s.closed g = true → s.closed (otherFeeder g) = false →
      ∃ t : State, exec (.restore tag name) s = .next (t.answered tag .ok []) ∧
        (t.chs.feeder f).faulty = false ∧ (s.chs.claim = none → Settles g (some g) s t)) ∧
    (s.chs.state = .settled ∨ s.chs.state = .dark →
      ∃ t : State, exec (.clearFeeder tag name) s = .next (t.answered tag .ok []) ∧ KeepsAllBut [.chs] s t ∧
        t.chs = match f with
          | .a => { s.chs with feederA := { s.chs.feederA with faulty := false } }
          | .b => { s.chs with feederB := { s.chs.feederB with faulty := false } }) ∧
    (s.chs.state ≠ .settled → s.chs.state ≠ .dark →
      exec (.clearFeeder tag name) s = .next (s.answered tag .state []))

/-- R109, the law of the device: in every step, a CLOSE pulse that was not already being driven is of 200 ms,
to a feeder whose other feeder reads OPEN and has no pulse in progress. -/
def Obligations.CloseLaw : Prop :=
  ∀ (s t : State) (f : Feeder) (p : Pulse), step s = .next t → t.fpc.pulse f = some p → p.line = .closeLine →
    s.fpc.pulse f = some p ∨ (CloseAllowed f t ∧ p.endAt = s.now + 200 * millisecond)

/-- R110 and R113: a claim record exactly in the states that hold one, confirmed in those past the
collection, of the origin that the state collects for, and the active feeder that the state's row names. -/
def Sys2Proof.Claims.BoardOk (s : State) : Prop :=
  OnBoard s →
    (s.chs.claim = none ↔ s.chs.state = .settled ∨ s.chs.state = .dark ∨ s.chs.state = .isolated) ∧
    (s.chs.state = .settled ∨ s.chs.state = .topupClaiming → s.chs.active ≠ none) ∧
    (∀ c, s.chs.claim = some c →
      (s.chs.state = .claiming → c.origin ≠ .topup) ∧ (s.chs.state = .topupClaiming → c.origin = .topup) ∧
      (s.chs.state = .claiming ∨ s.chs.state = .opening → c.origin = .changeover →
        s.chs.active = some (otherFeeder c.target)) ∧
      (s.chs.state = .claiming ∨ s.chs.state = .opening → c.origin ≠ .changeover → s.chs.active = none) ∧
      (s.chs.state = .opening ∨ s.chs.state = .dead ∨ s.chs.state = .closing ∨ s.chs.state = .fallback →
        c.confirmed ≠ none)) ∧
    (s.chs.state = .dead ∨ s.chs.state = .closing ∨ s.chs.state = .fallback ∨ s.chs.state = .dark ∨
      s.chs.state = .isolated → s.chs.active = none)

/-- Every step keeps the table of the board states (R110, R113). -/
def Obligations.BoardStatesKept : Prop :=
  ∀ s t : State, BoardOk s → step s = .next t → BoardOk t

/-! ### Chapter 7: the field port -/

/-- The field port's own events (R136, R144, R148). A poll sends the request byte, opens the window of 100 ms
and sets the next a second on. A raw level that leaves or returns to the filtered level starts or ends the
count; after the filter time the filtered level takes it, and a feeder's new position goes to the sequencer;
before that nothing changes. A pulse ends after its 200 ms, and the other feeder's goes on. -/
def Obligations.FieldEvents : Prop :=
  (∀ s : State, s.fpc.nextPoll ≤ s.now → exec .poll s = .next { s with fpc := { s.fpc with
    nextPoll := s.fpc.nextPoll + second, window := some ⟨0xA5, s.now + 100 * millisecond, none⟩ } }) ∧
  (∀ (s : State) (line : FieldLine) (level : Bool),
    let x := s.fpc.filter line
    (x.raw = level → exec (.rawLevelChange line level) s = .next s) ∧
    (x.raw ≠ level → ∃ t, exec (.rawLevelChange line level) s = .next t ∧ KeepsAllBut [.fpc] s t ∧
      t.fpc.filter line = ⟨level, x.level, if level = x.level then none else some s.now⟩ ∧
      (∀ other, other ≠ line → t.fpc.filter other = s.fpc.filter other) ∧ t.fpc.sample = s.fpc.sample ∧
      t.fpc.window = s.fpc.window ∧ t.fpc.relays = s.fpc.relays ∧ t.fpc.pulseA = s.fpc.pulseA ∧
      t.fpc.pulseB = s.fpc.pulseB ∧ t.fpc.runRequest = s.fpc.runRequest ∧
      t.fpc.loadEnable = s.fpc.loadEnable)) ∧
  (∀ (s : State) (f : Feeder) (level : Bool),
    let line : FieldLine := if f = .a then .feederA else .feederB
    Stable line level s →
      exec (.filteredLevelChange line) s = .next (positionChange f level (filtered line s))) ∧
  (∀ (s : State) (line : FieldLine),
    (∀ d, (s.fpc.filter line).since = some d → s.now < d + s.fpc.filterTime * millisecond) →
    exec (.filteredLevelChange line) s = .next s) ∧
  (∀ (s : State) (f : Feeder) (p : Pulse), s.fpc.pulse f = some p → p.endAt ≤ s.now →
    ∃ t, exec (.pulseEnd f) s = .next t ∧ KeepsAllBut [.fpc] s t ∧ t.fpc.pulse f = none ∧
      t.fpc.pulse (otherFeeder f) = s.fpc.pulse (otherFeeder f))

/-- The answer of the front end as R207 lays it out: 109 bytes, the check byte making their sum 0. -/
def Sys2Proof.Claims.answerBytes (seq : Byte) (p : Nat) (powers energies : List Nat) (setEnergy tank : Nat)
    (live : Byte) : List Byte :=
  let body := seq :: be16 p ++ (powers.map be16).flatten ++ (energies.map be32).flatten ++ be32 setEnergy
    ++ be32 tank ++ [live]
  body ++ [-(body.foldl (· + ·) 0)]

/-- The held sample delivered (R143), in the order of its table where one block reads what another forms: burn,
pledges, group check, board, charging. `u` is the state with the poll handled and its window closed. -/
def Sys2Proof.Claims.Delivers (s t : State) : Prop :=
  ∃ u : State, KeepsAllBut [.fpc, .evf] s u ∧ u.fpc.window = none ∧ u.fpc.sample = t.fpc.sample ∧
    u.fpc.lost = t.fpc.lost ∧ u.fpc.channels = t.fpc.channels ∧ u.fpc.set = t.fpc.set ∧
    t = chargeSample (boardSample (groupCheck false (pledgeSample (fuelSample u))))

/-- A good answer of these values taken and delivered (R138, R139, R142, R143). -/
def Sys2Proof.Claims.Taken (seq live : Byte) (p setEnergy tank : Nat) (powers energies : List Nat)
    (s t : State) : Prop :=
  let one := ∃ l, s.fpc.lastSeq = some l ∧ (seq.toNat + 256 - l) % 256 = 1
  t.fpc.window = none ∧ t.fpc.lost = false ∧ t.fpc.missCount = 0 ∧ t.fpc.misses = s.fpc.misses ∧
  t.fpc.answers = min (s.fpc.answers + 1) (2 ^ 32 - 1) ∧ t.fpc.lastSeq = some seq.toNat ∧
  t.fpc.nextPoll = s.fpc.nextPoll ∧
  t.fpc.sample.seq = seq.toNat ∧ t.fpc.sample.p = p ∧ t.fpc.sample.powers = powers ∧
  t.fpc.sample.tank = tank ∧ t.fpc.sample.liveA = live.getLsbD 0 ∧ t.fpc.sample.liveB = live.getLsbD 1 ∧
  t.fpc.sample.answered = true ∧ t.fpc.sample.lostMark = false ∧
  t.fpc.sample.estimated
    = (s.fpc.channels.any (fun e => decide (0 < e.balance)) || decide (0 < s.fpc.set.balance)) ∧
  (∀ i, i < 16 →
    let e := energies.getD i 0
    let b := (s.fpc.channels.getD i ⟨0, 0⟩).balance
    (one → t.fpc.sample.energies.getD i 0 = e - b ∧ t.fpc.channels.getD i ⟨0, 0⟩ = ⟨0, b - e⟩) ∧
    (¬one → t.fpc.sample.energies.getD i 0 = e ∧ t.fpc.channels.getD i ⟨0, 0⟩ = ⟨0, 0⟩)) ∧
  (one → t.fpc.sample.setEnergy = setEnergy - s.fpc.set.balance ∧
    t.fpc.set = ⟨0, s.fpc.set.balance - setEnergy⟩) ∧
  (¬one → t.fpc.sample.setEnergy = setEnergy ∧ t.fpc.set = ⟨0, 0⟩) ∧
  (s.fpc.setTotal + t.fpc.sample.setEnergy < 2 ^ 64 →
    t.fpc.setTotal = s.fpc.setTotal + t.fpc.sample.setEnergy) ∧
  (s.fpc.lost = true → s.fpc.lostPolls + 1 < 2 ^ 32 →
    PostsFirst [(.frontEndBack, .node s.eventId, s.fpc.lostPolls + 1, 0)] s t) ∧
  Delivers s t

/-- A good answer (R136 to R139, R142, R207), clocked in at once or in two parts: the held sample takes its
values; with a gap of 1 each energy is settled against its balance, so that what is delivered and the balance
left differ as the energy and the balance did, and with any other gap it is delivered whole and the balance goes;
carries and miss count are 0, the window closes, and a LOST front end is NORMAL again, told with FRONT_END_BACK,
whose value counts the polls since entry to LOST with the answered one (R198; log entry 24). The sample is then
delivered to the fuel, pledge, group, board and charging computations in that order (R143; log entry 22). -/
def Obligations.GoodAnswer : Prop :=
  (∀ (s : State) (w : Window) (seq live : Byte) (p setEnergy tank : Nat) (powers energies : List Nat),
    s.fpc.window = some w → powers.length = 16 → energies.length = 16 → p < 65536 → setEnergy < 2 ^ 32 →
    tank < 2 ^ 32 → (∀ x ∈ powers, x < 65536) → (∀ x ∈ energies, x < 2 ^ 32) →
    s.fpc.lastSeq ≠ some seq.toNat →
    let answer := answerBytes seq p powers energies setEnergy tank live
    (∀ ended : Bool, w.clocked = none → ∃ t, exec (.frontEndAnswer answer ended) s = .next t ∧
      Taken seq live p setEnergy tank powers energies s t) ∧
    (∀ first rest : List Byte, w.clocked = some first → first ++ rest = answer →
      ∃ t, exec (.answerClockedIn rest) s = .next t ∧ Taken seq live p setEnergy tank powers energies s t)) ∧
  (∀ (s : State) (w : Window) (first rest : List Byte), s.fpc.window = some w → w.clocked = none →
    first.length < 109 → ∃ u, exec (.frontEndAnswer first false) s = .next u ∧
      u = { s with fpc := { s.fpc with window := some { w with clocked := some first } } } ∧
      exec (.answerClockedIn rest) u = exec (.frontEndAnswer (first ++ rest) true) s)

/-- A poll missed with the fault kind `kind` (R140, R141, R143). -/
def Sys2Proof.Claims.Missed (kind : FaultKind) (s t : State) : Prop :=
  let m := min (s.fpc.missCount + 1) 5
  let lost := s.fpc.lost || decide (m = 5)
  t.fpc.window = none ∧ t.fpc.missCount = m ∧ t.fpc.misses = min (s.fpc.misses + 1) (2 ^ 32 - 1) ∧
  t.fpc.lost = lost ∧ t.fpc.answers = s.fpc.answers ∧ t.fpc.lastSeq = s.fpc.lastSeq ∧
  t.fpc.sample.p = s.fpc.sample.p ∧ t.fpc.sample.powers = s.fpc.sample.powers ∧
  t.fpc.sample.tank = s.fpc.sample.tank ∧ t.fpc.sample.liveA = s.fpc.sample.liveA ∧
  t.fpc.sample.liveB = s.fpc.sample.liveB ∧ t.fpc.sample.answered = false ∧
  t.fpc.sample.estimated = true ∧ t.fpc.sample.lostMark = lost ∧
  (s.fpc.lost = false →
    (∀ i, i < 16 →
      let e := s.fpc.channels.getD i ⟨0, 0⟩
      let carry := e.carry + s.fpc.sample.powers.getD i 0
      t.fpc.sample.energies.getD i 0 = carry / 36 ∧
      t.fpc.channels.getD i ⟨0, 0⟩ = ⟨carry % 36, min (e.balance + carry / 36) (2 ^ 32 - 1)⟩) ∧
    t.fpc.sample.setEnergy = (s.fpc.set.carry + s.fpc.sample.p) / 36 ∧
    t.fpc.set = ⟨(s.fpc.set.carry + s.fpc.sample.p) % 36,
      min (s.fpc.set.balance + (s.fpc.set.carry + s.fpc.sample.p) / 36) (2 ^ 32 - 1)⟩ ∧
    kind.inSet t.evf.sticky = true ∧
    PostsFirst (faultPosts kind s ++ if m = 5 then [(.frontEndLost, .node s.eventId, 0, kind.code)] else []) s t) ∧
  (s.fpc.lost = true →
    (∀ i, t.fpc.sample.energies.getD i 0 = 0) ∧ t.fpc.sample.setEnergy = 0 ∧
    t.fpc.channels = s.fpc.channels ∧ t.fpc.set = s.fpc.set ∧ t.fpc.setTotal = s.fpc.setTotal) ∧
  Delivers s t

/-- A missed poll (R136, R137, R140, R141): a window that closes without an answer is FE_NO_ANSWER, and one that
closes on an answer cut short (log entry 24: the model's reading of an answer only partly clocked in), or an
answer of another length, of another sum, or with the last good sequence, is FE_BAD_CHECK, clocked in at once or
in two parts. While NORMAL each energy is estimated from the held power, 36 power units a watt-hour, the
fraction carried; the fifth miss in a row is LOST; while LOST every energy is 0. The sample is then delivered as
a good answer's is (R143; log entry 22). Outside a window nothing is taken. -/
def Obligations.MissesEstimate : Prop :=
  (∀ (s : State) (w : Window), s.fpc.window = some w → w.closeAt ≤ s.now →
    ∃ t, exec .answerWindowClose s = .next t ∧
      Missed (if w.clocked = none then .feNoAnswer else .feBadCheck) s t) ∧
  (∀ (s : State) (w : Window), s.fpc.window = some w → s.now < w.closeAt →
    exec .answerWindowClose s = .next s) ∧
  (∀ (s : State) (w : Window) (bytes : List Byte), s.fpc.window = some w → bytes.length ≤ 109 →
    bytes.length ≠ 109 ∨ bytes.foldl (· + ·) 0 ≠ 0 ∨ s.fpc.lastSeq = some (bytes.headD 0).toNat →
    (w.clocked = none → ∃ t, exec (.frontEndAnswer bytes true) s = .next t ∧ Missed .feBadCheck s t) ∧
    (∀ first rest : List Byte, w.clocked = some first → first ++ rest = bytes →
      ∃ t, exec (.answerClockedIn rest) s = .next t ∧ Missed .feBadCheck s t)) ∧
  (∀ (s : State) (bytes : List Byte) (ended : Bool), s.fpc.window = none →
    exec (.frontEndAnswer bytes ended) s = .next s ∧ exec (.answerClockedIn bytes) s = .next s)

/-! ### Chapter 8: metering, tariffs and accounts -/

/-- The relay rule (R153): SHED when the effective reasons are not empty; at level 0 HOST alone counts. -/
def Sys2Proof.Claims.relayWanted (c : Channel) : Bool :=
  if c.level = 0 then c.host else c.credit || c.capacity || c.host

/-- Channel `i` has become `c` under the relay rule, with its relay and SHED_CHANGE where that changed (R153);
the other channels and relays stand. -/
def Sys2Proof.Claims.ChannelBecomes (i : Nat) (c : Channel) (s t : State) : Prop :=
  let shed := relayWanted c
  let was := (s.channel i).shed
  t.channel i = { c with shed := shed } ∧ (∀ j, j ≠ i → t.channel j = s.channel j) ∧
  t.fpc = { s.fpc with relays := t.fpc.relays } ∧
  (∀ j, t.fpc.relays.getD j false = if j = i ∧ shed ≠ was then shed else s.fpc.relays.getD j false) ∧
  t.mtr.tariffs = s.mtr.tariffs ∧ t.mtr.levels = s.mtr.levels ∧ t.mtr.heldCis = s.mtr.heldCis ∧
  (shed = was → t.evf = s.evf) ∧
  (shed ≠ was → Posts [(.shedChange, .channel i,
    (if c.credit then 1 else 0) + (if c.capacity then 2 else 0) + (if c.host then 4 else 0),
    if shed then 0 else 1)] s t)

/-- SET_CHANNEL and SHED_HOST (R151 to R154, R156, R187), with tables of their sizes. SET_CHANNEL is refused
in MUTE; the first field out of range is named; for an enabled channel the account must be OPEN or OVER, the
tariff not EMPTY, and a REFERENCE have its pair's pending record or one free. Taken, it frees the old pair's
record where no other channel and no energy holds it, reserves the new pair's, writes the fields, sets CREDIT
where the new account is OVER and CAPACITY where the level is under capacity shed, keeps HOST, last power and
energy total, and applies the relay rule. -/
def Obligations.ChannelCommands : Prop :=
  ∀ (s : State) (tag channel : Byte), s.mtr.channels.length = 16 → s.fpc.relays.length = 16 →
    s.mtr.pendings.length = 16 →
    (∀ op : Byte, channel.toNat ≤ 15 → op.toNat ≤ 1 →
      ∃ t : State, exec (.shedHost tag channel op) s = .next (t.answered tag .ok []) ∧
        ChannelBecomes channel.toNat { s.channel channel.toNat with host := decide (op.toNat = 0) } s t ∧
        t.mtr.pendings = s.mtr.pendings) ∧
    (∀ op : Byte, 15 < channel.toNat → exec (.shedHost tag channel op) s
      = .next (s.answered tag .badField [0])) ∧
    (∀ op : Byte, channel.toNat ≤ 15 → 1 < op.toNat → exec (.shedHost tag channel op) s
      = .next (s.answered tag .badField [1])) ∧
    (∀ enabled account tariff level : Byte, s.hpt.nodeState ≠ .mute →
      let answer := exec (.setChannel tag channel enabled account tariff level) s
      let i := channel.toNat
      let old := (s.channel i).mapping
      let new := if enabled = 1 then none else some (account.toNat, tariff.toNat)
      let st := (s.account account.toNat).state
      let reserved := ∃ r, some r ∈ s.mtr.pendings ∧ r.account = account.toNat ∧ r.tariff = tariff.toNat
      let isRef := ∃ key, s.tariff tariff.toNat = .reference key
      let usable := (st = .opened ∨ st = .over) ∧ s.tariff tariff.toNat ≠ .empty ∧
        (isRef → reserved ∨ none ∈ s.mtr.pendings)
      let inRange := i ≤ 15 ∧ enabled.toNat ≤ 1 ∧ account.toNat ≤ 63 ∧ tariff.toNat ≤ 15 ∧ level.toNat ≤ 3
      (15 < i → answer = .next (s.answered tag .badField [0])) ∧
      (i ≤ 15 → 1 < enabled.toNat → answer = .next (s.answered tag .badField [1])) ∧
      (i ≤ 15 → enabled.toNat ≤ 1 → 63 < account.toNat → answer = .next (s.answered tag .badField [2])) ∧
      (i ≤ 15 → enabled.toNat ≤ 1 → account.toNat ≤ 63 → 15 < tariff.toNat →
        answer = .next (s.answered tag .badField [3])) ∧
      (i ≤ 15 → enabled.toNat ≤ 1 → account.toNat ≤ 63 → tariff.toNat ≤ 15 → 3 < level.toNat →
        answer = .next (s.answered tag .badField [4])) ∧
      (inRange → enabled = 0 → ¬(st = .opened ∨ st = .over) ∨ s.tariff tariff.toNat = .empty →
        answer = .next (s.answered tag .notFound [])) ∧
      (inRange → enabled = 0 → st = .opened ∨ st = .over → isRef → ¬reserved → none ∉ s.mtr.pendings →
        answer = .next (s.answered tag .full [])) ∧
      (inRange → enabled = 1 ∨ usable →
        ∃ t : State, answer = .next (t.answered tag .ok []) ∧
          ChannelBecomes i { s.channel i with
            mapping := new, level := level.toNat, credit := decide (enabled = 0 ∧ st = .over)
            capacity := s.mtr.levels.get level.toNat } s t ∧
          (enabled = 0 → isRef →
            ∃ r, some r ∈ t.mtr.pendings ∧ r.account = account.toNat ∧ r.tariff = tariff.toNat) ∧
          (∀ r, some r ∈ s.mtr.pendings → r.energy ≠ 0 ∨ some (r.account, r.tariff) ≠ old →
            some r ∈ t.mtr.pendings) ∧
          (∀ a u key, old = some (a, u) → s.tariff u = .reference key → new ≠ some (a, u) →
            (∀ j, j < 16 → j ≠ i → (s.channel j).mapping ≠ some (a, u)) →
            ∀ r, some r ∈ t.mtr.pendings → r.account = a → r.tariff = u → r.energy ≠ 0))) ∧
    (s.hpt.nodeState = .mute → ∀ enabled account tariff level : Byte,
      exec (.setChannel tag channel enabled account tariff level) s = .next (s.answered tag .state []))

/-- What a resolution prices for an account: its records on the slots of the key (R158). -/
def Sys2Proof.Claims.resolvedFor (s : State) (key a : Nat) : List PendingRec :=
  (s.mtr.pendings.filterMap id).filter fun r =>
    decide (s.tariff r.tariff = .reference key) && r.account == a

/-- DEFINE_TARIFF, RESOLVE_TARIFF and the resolve-request timer (R155, R157, R158). A definition writes the
slot, a pass-through above 2000 as 2000 and CLAMPED, its timer stopped; refused for a slot or form out of
range, for a slot that holds a pending record, and for one in use unless RESOLVED. A resolution makes every
REFERENCE slot of the key RESOLVED, frees each record on them, and adds to each account exactly their energy ×
base × 1000 + weighted sum × pass-through, with no energy; an account so charged above its limit is OVER. That
the answer's two counts are one byte each is the model's choice (log entry 7), and so is the order in which the
groups of several records join an account's (log entry 23).
The timer's end asks again for 10 minutes while pending energy waits, and otherwise stops. -/
def Obligations.TariffCommands : Prop :=
  (∀ (s : State) (tag slot form : Byte) (key : Word) (base pass : Half), s.mtr.tariffs.length = 16 →
    let answer := exec (.defineTariff tag slot form key base pass) s
    let held := ∃ r, some r ∈ s.mtr.pendings ∧ r.tariff = slot.toNat
    let inUse := ∃ i a, i < 16 ∧ (s.channel i).mapping = some (a, slot.toNat)
    (15 < slot.toNat → answer = .next (s.answered tag .badField [0])) ∧
    (slot.toNat ≤ 15 → 2 < form.toNat → answer = .next (s.answered tag .badField [1])) ∧
    (slot.toNat ≤ 15 → form.toNat ≤ 2 → held ∨ (inUse ∧ form ≠ 2) →
      answer = .next (s.answered tag .inUse [])) ∧
    (slot.toNat ≤ 15 → form.toNat ≤ 2 → ¬held → ¬inUse ∨ form = 2 →
      ∃ t : State, answer = .next (t.answered tag
          (if form = 2 ∧ 2000 < pass.toNat then .clamped else .ok) []) ∧ KeepsAllBut [.mtr] s t ∧
        t.mtr = { s.mtr with tariffs := t.mtr.tariffs } ∧ t.mtr.tariffs.length = 16 ∧
        (form = 0 → t.mtr.tariffs[slot.toNat]? = some ⟨.empty, none⟩) ∧
        (form = 1 → t.mtr.tariffs[slot.toNat]? = some ⟨.reference key.toNat, none⟩) ∧
        (form = 2 → t.mtr.tariffs[slot.toNat]?
          = some ⟨.resolved key.toNat base.toNat (min pass.toNat 2000), none⟩) ∧
        ∀ j, j ≠ slot.toNat → t.mtr.tariffs[j]? = s.mtr.tariffs[j]?)) ∧
  (∀ (s : State) (tag : Byte) (key : Word) (base pass : Half), s.mtr.tariffs.length = 16 →
    s.bil.accounts.length = 64 →
    let answer := exec (.resolveTariff tag key base pass) s
    let slots := (List.range 16).filter fun t => decide (s.tariff t = .reference key.toNat)
    let rate := min pass.toNat 2000
    let amount (a : Nat) : Nat :=
      ((resolvedFor s key.toNat a).map fun r => r.energy * base.toNat * 1000 + r.weighted * rate).sum
    (slots = [] → answer = .next (s.answered tag .notFound [])) ∧
    (slots ≠ [] → ∃ (t : State) (n : Nat), answer = .next (t.answered tag
        (if 2000 < pass.toNat then .clamped else .ok) [byte slots.length, byte n]) ∧
      n = ((s.mtr.pendings.filterMap id).filter fun r =>
        decide (s.tariff r.tariff = .reference key.toNat)).length ∧
      (∀ j : Nat, t.mtr.tariffs[j]? = (s.mtr.tariffs[j]?).map fun (x : TariffSlot) =>
        if x.tariff = .reference key.toNat then (⟨.resolved key.toNat base.toNat rate, none⟩ : TariffSlot) else x) ∧
      (∀ r, some r ∈ t.mtr.pendings ↔
        some r ∈ s.mtr.pendings ∧ s.tariff r.tariff ≠ .reference key.toNat) ∧
      (∀ a, a < 64 →
        let x := s.account a
        let y := t.account a
        y.id = x.id ∧ y.energy = x.energy ∧ y.intEnergy = x.intEnergy ∧ y.limit = x.limit ∧
        (x.charge + (x.residue + amount a) / 1000000 < 2 ^ 64 →
          x.intCharge + (x.residue + amount a) / 1000000 < 2 ^ 64 → x.residue < 1000000 →
          y.charge * 1000000 + y.residue = x.charge * 1000000 + x.residue + amount a ∧
          y.residue < 1000000 ∧ y.intCharge + x.charge = x.intCharge + y.charge) ∧
        (x.state = .opened → resolvedFor s key.toNat a ≠ [] →
          (y.state = .over ↔ 0 < y.limit ∧ y.limit < y.charge)) ∧
        (x.state ≠ .opened → y.state = x.state)))) ∧
  (∀ (s : State) (slot due : Nat), slot < 16 → s.mtr.tariffs.length = 16 →
    (nth ⟨.empty, none⟩ s.mtr.tariffs slot).timer = some due →
    (s.now < due → exec (.resolveRequestTimer slot) s = .next s) ∧
    (∀ key, due ≤ s.now → s.tariff slot = .reference key →
      (∃ r, some r ∈ s.mtr.pendings ∧ r.tariff = slot ∧ 0 < r.energy) →
      ∃ t, exec (.resolveRequestTimer slot) s = .next t ∧ KeepsAllBut [.mtr, .evf] s t ∧
        t.mtr.tariffs[slot]? = some ⟨.reference key, some (s.now + 600 * second)⟩ ∧
        Posts [(.resolveRequest, .node s.eventId, key, slot)] s t) ∧
    (due ≤ s.now → (∀ r, some r ∈ s.mtr.pendings → r.tariff = slot → r.energy = 0) →
      ∃ t, exec (.resolveRequestTimer slot) s = .next t ∧ KeepsAllBut [.mtr] s t ∧
        t.mtr.tariffs[slot]? = some ⟨s.tariff slot, none⟩))

/-- The energy of channel `i` in the held sample, and its mapping. -/
def Sys2Proof.Claims.drawn (s : State) (i : Nat) : Nat := s.fpc.sample.energies.getD i 0

/-- What a sample prices for account `a` at the group cost index `ci` (R161, R162): the energies of its channels
on RESOLVED tariffs, each times base × 1000 + ci × pass-through. -/
def Sys2Proof.Claims.pricedFor (s : State) (ci a : Nat) : Nat :=
  ((List.range 16).map fun i => match (s.channel i).mapping with
    | some (b, u) => if b = a then (match s.tariff u with
        | .resolved _ base pass => drawn s i * (base * 1000 + ci * pass)
        | _ => 0) else 0
    | none => 0).sum

/-- What a sample draws for the pair of account `a` and tariff `u`. -/
def Sys2Proof.Claims.drawnFor (s : State) (p : Nat × Nat → Bool) : Nat :=
  ((List.range 16).map fun i => match (s.channel i).mapping with
    | some m => if p m then drawn s i else 0
    | none => 0).sum

/-- The billing group of the node (R159): on a BOARD the group of the billing feeder, absent where that is NONE,
on a GENSET its group; absent before the first COMMIT. -/
def Sys2Proof.Claims.billedGroup (s : State) : Option Nat :=
  match s.hpt.role with
  | some .board => s.chs.billing.map fun f => (s.chs.feeder f).group
  | some .genset => some s.cfg.groupA
  | none => none

/-- A group whose cost index the node forms (R159). -/
def Sys2Proof.Claims.FormsFor (s : State) (g : Nat) : Prop :=
  s.hpt.nodeState ≠ .config ∧ (s.hpt.role = some .board ∧ (g = s.chs.feederA.group ∨ g = s.chs.feederB.group) ∨
    s.hpt.role = some .genset ∧ g = s.cfg.groupA)

/-- A quotient rounded to nearest. -/
def Sys2Proof.Claims.Rounded (a b q : Nat) : Prop := 2 * b * q ≤ 2 * a + b ∧ 2 * a + b < 2 * b * (q + 1)

/-- The first two distinct groups seen, with one more drawn from (R161). -/
def Sys2Proof.Claims.seenWith (group : Option Nat) (drew : Bool) (seen : List Nat) : List Nat :=
  match group with
  | some g => if drew && !seen.contains g && decide (seen.length < 2) then seen ++ [g] else seen
  | none => seen

/-- The charging of a sample, where the sums fit. The held index of each group that the node forms one for becomes
the cost by weight of its online sets, their plain mean where none carries load, and stays where there is none;
every other group's stays, and all of them in CONFIG (R159, R160). At the held index of the billing group, 0
where that is absent, each account's charge × 1,000,000 + residue rises by exactly what its channels' energies
are priced at, its interval charge with its charge, and its energy and interval energy by what they drew (R161,
R162); each pending record of a REFERENCE tariff rises by its pair's energy and energy × index (R163), and its
slot's timer runs (R157); each channel takes its last power and adds its energy. The flags and the groups seen
are R161's, the sample being stale where the billing group's index was not formed (for no group where that is
absent, in CONFIG too: log entry 49). An OPEN account that was
charged and now exceeds its limit is OVER, told with ACCOUNT_OVER, with CREDIT on its channels and the relay rule
applied, and no other account or channel's reason changes (R153, R166). -/
def Obligations.SampleLedger : Prop :=
  ∀ s : State, s.bil.accounts.length = 64 → s.mtr.channels.length = 16 →
    (∀ i, i < 16 → drawn s i < 2 ^ 32) →
    let t := chargeSample s
    let group := billedGroup s
    let ci := match group with
      | some g => (t.mtr.heldCis.getD (g - 1) ⟨0, false⟩).value
      | none => 0
    let formed (g : Nat) : Bool := decide (s.hpt.nodeState ≠ .config) && decide (0 < (costInputs g s).count)
    let stale := group.any fun g => !formed g
    let drew (p : Nat × Nat → Bool) : Bool :=
      (List.range 16).any fun i => (s.channel i).mapping.any p && decide (0 < drawn s i)
    let mapsOn (a : Nat) : Bool := (List.range 16).any fun i => (s.channel i).mapping.any fun m => m.1 == a
    let charged (a : Nat) : Prop := ∃ i u key base pass, i < 16 ∧ (s.channel i).mapping = some (a, u) ∧
      0 < drawn s i ∧ s.tariff u = .resolved key base pass
    let newlyOver (a : Nat) : Prop := (s.account a).state = .opened ∧ charged a ∧
      0 < (t.account a).limit ∧ (t.account a).limit < (t.account a).charge
    KeepsAllBut [.mtr, .bil, .fpc, .evf] s t ∧
    (∀ g, 1 ≤ g → g ≤ 15 → s.mtr.heldCis.length = 15 →
      (∀ h, FormsFor s h → 1 ≤ h) →
      let held := t.mtr.heldCis.getD (g - 1) ⟨0, false⟩
      let inputs := costInputs g s
      (FormsFor s g → 0 < inputs.weight → held.computed = true ∧ Rounded inputs.weighted inputs.weight held.value) ∧
      (FormsFor s g → inputs.weight = 0 → 0 < inputs.count →
        held.computed = true ∧ Rounded inputs.plain inputs.count held.value) ∧
      (¬FormsFor s g ∨ inputs.count = 0 → held = s.mtr.heldCis.getD (g - 1) ⟨0, false⟩)) ∧
    (∀ a, a < 64 →
      let x := s.account a
      let y := t.account a
      y.id = x.id ∧ y.limit = x.limit ∧
      (x.residue < 1000000 → x.charge + (x.residue + pricedFor s ci a) / 1000000 < 2 ^ 64 →
        x.intCharge + (x.residue + pricedFor s ci a) / 1000000 < 2 ^ 64 →
        y.charge * 1000000 + y.residue = x.charge * 1000000 + x.residue + pricedFor s ci a ∧
        y.residue < 1000000 ∧ y.intCharge + x.charge = x.intCharge + y.charge) ∧
      (x.energy + drawnFor s (fun m => m.1 == a) < 2 ^ 64 →
        y.energy = x.energy + drawnFor s (fun m => m.1 == a)) ∧
      (x.intEnergy + drawnFor s (fun m => m.1 == a) < 2 ^ 64 →
        y.intEnergy = x.intEnergy + drawnFor s (fun m => m.1 == a)) ∧
      y.estimated = (x.estimated || (s.fpc.sample.estimated && mapsOn a)) ∧
      y.staleRate = (x.staleRate || (stale && drew fun m => m.1 == a)) ∧
      y.noSource = (x.noSource || (group.isNone && drew fun m => m.1 == a)) ∧
      y.groups = seenWith group (drew fun m => m.1 == a) x.groups ∧
      (newlyOver a → y.state = .over ∧
        (t.evf.ring.length < 64 → ∃ r ∈ t.evf.ring, r.kind = .accountOver ∧ r.subject = .slot a ∧ r.value = x.id)) ∧
      (¬newlyOver a → y.state = x.state)) ∧
    (∀ (j : Nat) (r : PendingRec) (key : Nat), s.mtr.pendings[j]? = some (some r) →
      s.tariff r.tariff = .reference key →
      let e := drawnFor s fun m => m == (r.account, r.tariff)
      r.energy + e < 2 ^ 64 → r.weighted + e * ci < 2 ^ 64 →
      ∃ r', t.mtr.pendings[j]? = some (some r') ∧ r'.account = r.account ∧ r'.tariff = r.tariff ∧
        r'.energy = r.energy + e ∧ r'.weighted = r.weighted + e * ci ∧
        r'.groups = seenWith group (drew fun m => m == (r.account, r.tariff)) r.groups) ∧
    (∀ u key, s.tariff u = .reference key →
      t.mtr.tariffs[u]? = some ⟨.reference key, match (nth ⟨.empty, none⟩ s.mtr.tariffs u).timer with
        | some d => some d
        | none => if drew fun m => m.2 == u then some (s.now + 600 * second) else none⟩) ∧
    (∀ i, i < 16 → (t.channel i).power = s.fpc.sample.powers.getD i 0 ∧
      (t.channel i).mapping = (s.channel i).mapping ∧ (t.channel i).level = (s.channel i).level ∧
      ((s.channel i).energy + drawn s i < 2 ^ 64 →
        (t.channel i).energy = (s.channel i).energy + drawn s i) ∧
      (∀ a u, (s.channel i).mapping = some (a, u) → a < 64 → newlyOver a → (t.channel i).credit = true ∧
        (t.channel i).shed = relayWanted { s.channel i with credit := true }) ∧
      ((∀ a u, (s.channel i).mapping = some (a, u) → a < 64 → ¬newlyOver a) →
        (t.channel i).credit = (s.channel i).credit ∧ (t.channel i).shed = (s.channel i).shed))

/-- The laws of the relays (R151 to R154, R166): the tables have their sizes, every relay stands where the
channel's reasons put it, CREDIT is held exactly while the account is OVER, and CAPACITY exactly while the
level is under capacity shed. -/
structure Sys2Proof.Claims.RelaysOk (s : State) : Prop where
  channels : s.mtr.channels.length = 16
  relays : s.fpc.relays.length = 16
  accounts : s.bil.accounts.length = 64
  level : ∀ i, i < 16 → (s.channel i).level ≤ 3
  shed : ∀ i, i < 16 → (s.channel i).shed = relayWanted (s.channel i) ∧
    s.fpc.relays.getD i false = (s.channel i).shed
  credit : ∀ i, i < 16 → ((s.channel i).credit = true ↔
    ∃ a u, (s.channel i).mapping = some (a, u) ∧ (s.account a).state = .over)
  mapped : ∀ i a u, i < 16 → (s.channel i).mapping = some (a, u) → a < 64
  capacity : ∀ i, i < 16 → (s.channel i).capacity = s.mtr.levels.get (s.channel i).level

/-- Every step keeps the laws of the relays, and with them the law of R166: the relay of every channel of level
1 to 3 whose account is OVER is shed. -/
def Obligations.RelayLaw : Prop :=
  ∀ s t : State, RelaysOk s → step s = .next t → RelaysOk t ∧
    ∀ i a u, i < 16 → (t.channel i).mapping = some (a, u) → (t.account a).state = .over →
      1 ≤ (t.channel i).level → t.fpc.relays.getD i false = true

/-- A slot that is not FREE holds the id, and no lower one does. -/
def Sys2Proof.Claims.Holds (s : State) (id i : Nat) : Prop :=
  i < 64 ∧ (s.account i).state ≠ .free ∧ (s.account i).id = id ∧
    ∀ j, j < i → (s.account j).state = .free ∨ (s.account j).id ≠ id

/-- R165, ACCOUNT_OPEN, and R167, SET_LIMIT: the refusals of their tables; an account opened in the lowest
FREE slot with everything but id and limit at 0; a limit written and tested at once, an OPEN account above it
becoming OVER with ACCOUNT_OVER and CREDIT on its channels, an OVER one at or below it, or without a limit,
OPEN again with CREDIT off them. (That SET_LIMIT answers NOT_FOUND for an id of 0 is log entry 50.) -/
def Obligations.AccountOpenAndLimit : Prop :=
  (∀ (s : State) (tag : Byte) (id limit : Word), s.bil.accounts.length = 64 →
    let answer := exec (.accountOpen tag id limit) s
    let held := ∃ i, i < 64 ∧ (s.account i).state ≠ .free ∧ (s.account i).id = id.toNat
    (id = 0 → answer = .next (s.answered tag .badField [0])) ∧
    (id ≠ 0 → held → answer = .next (s.answered tag .inUse [])) ∧
    (id ≠ 0 → ¬held → (∀ i, i < 64 → (s.account i).state ≠ .free) →
      answer = .next (s.answered tag .full [])) ∧
    (∀ i, id ≠ 0 → ¬held → i < 64 → (s.account i).state = .free →
      (∀ j, j < i → (s.account j).state ≠ .free) →
      ∃ t : State, answer = .next (t.answered tag .ok [byte i]) ∧ KeepsAllBut [.bil] s t ∧
        t.bil = { s.bil with accounts := t.bil.accounts } ∧
        t.account i = ⟨id.toNat, .opened, 0, 0, 0, limit.toNat, 0, 0, false, false, false, [], 0, 0⟩ ∧
        ∀ j, j ≠ i → t.account j = s.account j)) ∧
  (∀ (s : State) (tag : Byte) (id limit : Word), s.bil.accounts.length = 64 → s.mtr.channels.length = 16 →
    let answer := exec (.setLimit tag id limit) s
    ((∀ i, ¬Holds s id.toNat i) → answer = .next (s.answered tag .notFound [])) ∧
    (∀ i, Holds s id.toNat i →
      let a := s.account i
      let above := 0 < limit.toNat ∧ limit.toNat < a.charge
      (a.state = .closing → answer = .next (s.answered tag .state [])) ∧
      (a.state = .opened ∨ a.state = .over → ∃ t : State, answer = .next (t.answered tag .ok []) ∧
        (∀ j, j ≠ i → t.account j = s.account j) ∧
        (a.state = .opened → ¬above → t.account i = { a with limit := limit.toNat } ∧
          KeepsAllBut [.bil] s t) ∧
        (a.state = .over → above → t.account i = { a with limit := limit.toNat } ∧ KeepsAllBut [.bil] s t) ∧
        (a.state = .opened → above → t.account i = { a with limit := limit.toNat, state := .over } ∧
          PostsFirst [(.accountOver, .slot i, a.id, 0)] s t ∧
          ∀ j u, j < 16 → (s.channel j).mapping = some (i, u) → (t.channel j).credit = true ∧
            (t.channel j).shed = relayWanted { s.channel j with credit := true }) ∧
        (a.state = .over → ¬above → t.account i = { a with limit := limit.toNat, state := .opened } ∧
          ∀ j u, j < 16 → (s.channel j).mapping = some (i, u) → (t.channel j).credit = false ∧
            (t.channel j).shed = relayWanted { s.channel j with credit := false }))))

/-! ### Chapter 9: intervals and the billing log -/

/-- The record that a production writes for account slot `i` (R174, R175). -/
def Sys2Proof.Claims.recordFor (timeset final : Bool) (closedAt : Nat) (s : State) (i : Nat) : IntervalRec :=
  let a := s.account i
  let pend := min (((s.mtr.pendings.filterMap id).filter fun r => r.account == i).map (·.energy)).sum (2 ^ 32 - 1)
  { account := a.id, slot := i, serial := s.bil.serial, openedAt := s.bil.openedAt, closedAt := closedAt
    energy := min (a.intEnergy + a.carryEnergy) (2 ^ 32 - 1)
    charge := min (a.intCharge + a.carryCharge) (2 ^ 32 - 1)
    pendingEnergy := pend, estimated := a.estimated, staleRate := a.staleRate, noSource := a.noSource
    pendingFlag := decide (pend ≠ 0), carried := decide (a.carryEnergy ≠ 0 ∨ a.carryCharge ≠ 0)
    split := decide (a.groups.length = 2), final := final, timeset := timeset, groups := a.groups }

/-- The totals of R175 fit below a bound. -/
def Sys2Proof.Claims.TotalsBelow (bound : Nat) (a : Account) : Prop :=
  a.intEnergy + a.carryEnergy < bound ∧ a.intCharge + a.carryCharge < bound

/-- The account carried (R177). -/
def Sys2Proof.Claims.carriedOver (a : Account) : Account :=
  { a with carryEnergy := a.carryEnergy + a.intEnergy, carryCharge := a.carryCharge + a.intCharge
           intEnergy := 0, intCharge := 0 }

/-- LOG_FULL told for slot `i`, once a filling (R177). -/
def Sys2Proof.Claims.TellsFull (i : Nat) (s t : State) : Prop :=
  t.bil.fullReported = true ∧ (s.bil.fullReported = true → t.evf = s.evf) ∧
  (s.bil.fullReported = false → Reports .logFull [(.logFull, .slot i, s.bil.serial, 0)] s t)

/-- ACCOUNT_CLOSE and ACK_BILLING (R168, R175 to R178, R181). A close is refused for an id not held, in
CLOSING, and while a channel or a pending record is the account's; taken with room, and totals that fit, it
writes the FINAL record and frees the slot; with the log full it makes the account CLOSING and carries it.
An ACK_BILLING removes the oldest records, then serves the CLOSING accounts, ascending, as far as the room
goes, and clears the LOG_FULL-reported flag where room is left. (That ACCOUNT_CLOSE answers NOT_FOUND for an id of
0 is log entry 50.) -/
def Obligations.AccountCloseAndAck : Prop :=
  (∀ (s : State) (tag : Byte) (id : Word), s.bil.accounts.length = 64 → s.mtr.channels.length = 16 →
    let answer := exec (.accountClose tag id) s
    ((∀ i, ¬Holds s id.toNat i) → answer = .next (s.answered tag .notFound [])) ∧
    (∀ i, Holds s id.toNat i →
      let a := s.account i
      let used := (∃ j u, j < 16 ∧ (s.channel j).mapping = some (i, u)) ∨
        ∃ r, some r ∈ s.mtr.pendings ∧ r.account = i
      (a.state = .closing → answer = .next (s.answered tag .state [])) ∧
      (a.state ≠ .closing → used → answer = .next (s.answered tag .inUse [])) ∧
      (a.state ≠ .closing → ¬used → s.bil.log.length < 128 → TotalsBelow (2 ^ 32) a →
        ∃ t : State, answer = .next (t.answered tag .ok (1 :: be32 s.bil.serial)) ∧ KeepsAllBut [.bil] s t ∧
          t.bil = { s.bil with
            log := s.bil.log ++ [recordFor false true s.siteSec s i], accounts := t.bil.accounts } ∧
          t.account i = .reset ∧ ∀ j, j ≠ i → t.account j = s.account j) ∧
      (a.state ≠ .closing → ¬used → 128 ≤ s.bil.log.length → TotalsBelow (2 ^ 64) a →
        ∃ t : State, answer = .next (t.answered tag .ok [0, 0, 0, 0, 0]) ∧ KeepsAllBut [.bil, .evf] s t ∧
          t.bil = { s.bil with accounts := t.bil.accounts, fullReported := true } ∧
          t.account i = { carriedOver a with state := .closing } ∧
          (∀ j, j ≠ i → t.account j = s.account j) ∧ TellsFull i s t))) ∧
  (∀ (s : State) (tag count : Byte), s.bil.accounts.length = 64 → s.bil.log.length ≤ 128 →
    (s.bil.log.length < count.toNat →
      exec (.ackBilling tag count) s = .next (s.answered tag .badField [0])) ∧
    (count.toNat ≤ s.bil.log.length →
      (∀ i, i < 64 → (s.account i).state = .closing → TotalsBelow (2 ^ 32) (s.account i)) →
      let waiting := (List.range 64).filter fun i => decide ((s.account i).state = .closing)
      let served := waiting.take (128 - (s.bil.log.length - count.toNat))
      ∃ t : State, exec (.ackBilling tag count) s = .next (t.answered tag .ok [byte t.bil.log.length]) ∧
        KeepsAllBut [.bil] s t ∧
        t.bil = { s.bil with
          log := s.bil.log.drop count.toNat ++ served.map (recordFor false true s.siteSec s)
          consumer := (s.bil.consumer + count.toNat) % 128
          fullReported := s.bil.fullReported && decide (t.bil.log.length = 128)
          accounts := t.bil.accounts } ∧
        ∀ i, t.account i = if i ∈ served then .reset else s.account i))

/-- The smallest multiple of a length in minutes above a time (R172). -/
def Sys2Proof.Claims.IsBoundary (minutes sec b : Nat) : Prop :=
  sec < b ∧ b ≤ sec + minutes * 60 ∧ minutes * 60 ∣ b

/-- An account has something to close: one of its four totals is above 0 (R173). -/
def Sys2Proof.Claims.hasSome (a : Account) : Bool :=
  a.intEnergy != 0 || a.intCharge != 0 || a.carryEnergy != 0 || a.carryCharge != 0

/-- The current interval closed at a time (R173, R175, R177, R178). Nothing is lost: what an account had in
its interval and its carry stands in the records written for it and in its carry. Where the log has room for
every slot that has something, these get one record each, ascending; where it is full, they are carried. -/
def Sys2Proof.Claims.Closes (timeset : Bool) (closedAt : Nat) (s t : State) : Prop :=
  let busy := (List.range 64).filter fun i => decide ((s.account i).state ≠ .free) && hasSome (s.account i)
  t.bil.serial = (s.bil.serial + 1) % 2 ^ 32 ∧ t.bil.length = s.bil.length ∧
  t.bil.consumer = s.bil.consumer ∧ s.bil.log <+: t.bil.log ∧
  (∀ i, i < 64 → (s.account i).state = .free → t.account i = s.account i) ∧
  (∀ i, i < 64 → (s.account i).state = .opened ∨ (s.account i).state = .over →
    TotalsBelow (2 ^ 64) (s.account i) →
    let x := s.account i
    let y := t.account i
    let new := (t.bil.log.drop s.bil.log.length).filter fun r => r.slot == i
    y = { x with intEnergy := 0, intCharge := 0, carryEnergy := y.carryEnergy, carryCharge := y.carryCharge
                 estimated := y.estimated, staleRate := y.staleRate, noSource := y.noSource, groups := y.groups } ∧
    (new.map (·.energy)).sum + y.carryEnergy = x.intEnergy + x.carryEnergy ∧
    (new.map (·.charge)).sum + y.carryCharge = x.intCharge + x.carryCharge) ∧
  (s.bil.log.length + busy.length ≤ 128 → (∀ i, i < 64 → (s.account i).state ≠ .closing) →
    (∀ i, i < 64 → TotalsBelow (2 ^ 64) (s.account i)) →
    t.bil.log = s.bil.log ++ busy.map (recordFor timeset false closedAt s) ∧ t.evf = s.evf ∧
    t.bil.fullReported = s.bil.fullReported) ∧
  (s.bil.log.length + 64 ≤ 128 →
    (∀ i, i < 64 → (s.account i).state = .closing → TotalsBelow (2 ^ 32) (s.account i)) →
    ∀ i, i < 64 → (s.account i).state = .closing → t.account i = .reset ∧
      (hasSome (s.account i) = true → recordFor timeset true closedAt s i ∈ t.bil.log)) ∧
  (128 ≤ s.bil.log.length → t.bil.log = s.bil.log ∧
    (∀ i ∈ busy, TotalsBelow (2 ^ 64) (s.account i) → t.account i = carriedOver (s.account i)) ∧
    (∀ i, busy.head? = some i → TellsFull i s t) ∧
    (busy = [] → t.evf = s.evf ∧ t.bil.fullReported = s.bil.fullReported))

/-- A time set: the peer view's times moved by as much (R36), the clock at the new second (R193), and the
billing interval of R179 closed at the old time where the new time lies in another. -/
def Sys2Proof.Claims.TimeSetTo (sec : Nat) (s t : State) : Prop :=
  KeepsAllBut [.clock, .pvt, .bil, .evf] s t ∧ t.clock = ⟨s.clock.elapsed, sec * second⟩ ∧
  t.pvt = { s.pvt with peers := s.pvt.peers.map fun p => { p with
    lastHeard := p.lastHeard + ((sec * 1000 : Int) - s.siteMillis)
    lostSince := p.lostSince.map (· + ((sec * 1000 : Int) - s.siteMillis)) } } ∧
  IsBoundary s.bil.length sec t.bil.boundary ∧
  (s.siteSec / (s.bil.length * 60) = sec / (s.bil.length * 60) →
    t.bil = { s.bil with boundary := t.bil.boundary } ∧ t.evf = s.evf) ∧
  (s.siteSec / (s.bil.length * 60) ≠ sec / (s.bil.length * 60) →
    Closes true s.siteSec s t ∧ t.bil.openedAt = sec)

/-- INTERVAL_BOUNDARY, SET_TIME and the wrap of site time (R36, R172, R173, R179, R193). Before the boundary
INTERVAL_BOUNDARY changes nothing; at it the interval is closed and the next opens there. SET_TIME answers
with the time it replaced; that what its close posts bears the old time, and that the peer view's times move by
whole milliseconds, is the model's reading (log entry 19), and so is the comparison of the two intervals alone where
the boundary is due and not yet taken (log entry 44). The wrap is a SET_TIME to 0, taken at the last second
of site time (the moment is the model's: log entry 25). -/
def Obligations.IntervalCloses : Prop :=
  (∀ s : State, s.bil.accounts.length = 64 → 0 < s.bil.length →
    (s.siteSec < s.bil.boundary → exec .intervalBoundary s = .next s) ∧
    (s.bil.boundary ≤ s.siteSec → ∃ t, exec .intervalBoundary s = .next t ∧ KeepsAllBut [.bil, .evf] s t ∧
      Closes false s.siteSec s t ∧ t.bil.openedAt = s.bil.boundary ∧
      IsBoundary s.bil.length s.bil.boundary t.bil.boundary)) ∧
  (∀ (s : State) (tag : Byte) (time : Word), s.bil.accounts.length = 64 → 0 < s.bil.length →
    ∃ t : State, exec (.setTime tag time) s = .next (t.answered tag .ok (be32 s.siteSec)) ∧
      TimeSetTo time.toNat s t) ∧
  (∀ s : State, s.bil.accounts.length = 64 → 0 < s.bil.length →
    (s.clock.site < 2 ^ 32 * second → exec .siteTimeWrap s = .next s) ∧
    (s.clock.site = 2 ^ 32 * second → ∃ t, exec .siteTimeWrap s = .next t ∧
      t.clock = ⟨s.clock.elapsed, 0⟩ ∧ t.pvt = { s.pvt with peers := s.pvt.peers.map fun p => { p with
        lastHeard := p.lastHeard - s.siteMillis, lostSince := p.lostSince.map (· - s.siteMillis) } } ∧
      KeepsAllBut [.clock, .pvt, .bil, .evf] s t ∧
      (s.bil.length ≤ 60 → Closes true (2 ^ 32 - 1)
        { s with clock := ⟨s.clock.elapsed, 2 ^ 32 * second - 1⟩ } t ∧ t.bil.openedAt = 0)))

/-- The laws of the accounts and the log (R164 to R168, R175 to R178, R181): 64 slots whose ids differ where
they are not FREE; a FREE slot is empty, with no carry; channels and pending records belong to accounts that
are OPEN or OVER; at most 128 records, with fields in range; an account stays CLOSING, and LOG_FULL stays
reported, only while the log is full. -/
structure Sys2Proof.Claims.BillingOk (s : State) : Prop where
  accounts : s.bil.accounts.length = 64
  log : s.bil.log.length ≤ 128
  consumer : s.bil.consumer < 128
  serial : s.bil.serial < 2 ^ 32
  free : ∀ i, i < 64 → (s.account i).state = .free → s.account i = .reset
  ids : ∀ i j, i < 64 → j < 64 → i ≠ j → (s.account i).state ≠ .free → (s.account j).state ≠ .free →
    (s.account i).id ≠ (s.account j).id
  mapped : ∀ i a u, i < 16 → (s.channel i).mapping = some (a, u) →
    (s.account a).state = .opened ∨ (s.account a).state = .over
  pended : ∀ r, some r ∈ s.mtr.pendings →
    (s.account r.account).state = .opened ∨ (s.account r.account).state = .over
  records : ∀ r ∈ s.bil.log, r.energy < 2 ^ 32 ∧ r.charge < 2 ^ 32 ∧ r.pendingEnergy < 2 ^ 32
  closing : ∀ i, i < 64 → (s.account i).state = .closing → s.bil.log.length = 128
  told : s.bil.fullReported = true → s.bil.log.length = 128

/-- Every step keeps the laws of the accounts and the log. -/
def Obligations.BillingKept : Prop :=
  ∀ s t : State, BillingOk s → step s = .next t → BillingOk t

/-! ### Chapter 10: the host port and the configuration -/

/-- The kind code, the tag and the body of a command that the host sends (R184, R208). -/
def Sys2Proof.Claims.hostBody : Instr → Option (Byte × Byte × List Byte)
  | .noop tag => some (0x00, tag, [])
  | .configure tag body => some (0x01, tag, body)
  | .commit tag => some (0x02, tag, [])
  | .resetSoft tag => some (0x03, tag, [])
  | .setTime tag time => some (0x04, tag, be32 time.toNat)
  | .readNode tag part half => some (0x05, tag, [part, half])
  | .readPeers tag node => some (0x06, tag, [node])
  | .setMode tag mode => some (0x10, tag, [mode])
  | .setRun tag run => some (0x11, tag, [run])
  | .clearSet tag => some (0x12, tag, [])
  | .selectProfile tag profile => some (0x13, tag, [profile])
  | .readPledges tag => some (0x14, tag, [])
  | .changeover tag cls => some (0x20, tag, [cls])
  | .cancelChangeover tag => some (0x21, tag, [])
  | .restore tag feeder => some (0x22, tag, [feeder])
  | .clearFeeder tag feeder => some (0x23, tag, [feeder])
  | .deliveryOpen tag ticket price litres =>
    some (0x30, tag, be32 ticket.toNat ++ be16 price.toNat ++ be16 litres.toNat)
  | .deliveryClose tag => some (0x31, tag, [])
  | .deliveryCancel tag => some (0x32, tag, [])
  | .readTank tag => some (0x33, tag, [])
  | .readLots tag => some (0x34, tag, [])
  | .resyncTank tag => some (0x35, tag, [])
  | .defineTariff tag slot form key base pass =>
    some (0x40, tag, [slot, form] ++ be32 key.toNat ++ be16 base.toNat ++ be16 pass.toNat)
  | .resolveTariff tag key base pass =>
    some (0x41, tag, be32 key.toNat ++ be16 base.toNat ++ be16 pass.toNat)
  | .setChannel tag channel enabled account tariff level =>
    some (0x42, tag, [channel, enabled, account, tariff, level])
  | .shedHost tag channel op => some (0x43, tag, [channel, op])
  | .accountOpen tag id limit => some (0x44, tag, be32 id.toNat ++ be32 limit.toNat)
  | .accountClose tag id => some (0x45, tag, be32 id.toNat)
  | .setLimit tag id limit => some (0x46, tag, be32 id.toNat ++ be32 limit.toNat)
  | .readAccount tag id => some (0x47, tag, be32 id.toNat)
  | .readBilling tag => some (0x48, tag, [])
  | .ackBilling tag count => some (0x49, tag, [count])
  | .readEvents tag => some (0x50, tag, [])
  | .ackEvents tag count => some (0x51, tag, [count])
  | .serviceMark tag mark => some (0x52, tag, [mark])
  | .readFaults tag => some (0x53, tag, [])
  | .clearFaults tag kinds => some (0x54, tag, be16 kinds.toNat)
  | .setFaultMask tag kinds => some (0x55, tag, be16 kinds.toNat)
  | _ => none

/-- A command record is refused at the rise of chip select with a status and, for two of them, a fault; a fault
that becomes the first holds the record's header and first five body bytes, or zeros for them (R185). -/
def Sys2Proof.Claims.RefusedAtPort (tag : Byte) (status : Status) (fault : Option FaultKind)
    (capture : List Byte) (s t : State) : Prop :=
  t.hpt = { s.hpt with
    transaction := none, shifted := t.hpt.shifted, response := ⟨tag, status, []⟩, inProgress := none } ∧
  KeepsAllBut [.hpt, .evf] s t ∧ (fault = none → t.evf = s.evf) ∧
  (∀ k, fault = some k → Reports k [] s t ∧
    (s.evf.first.kind = none → k.inSet s.evf.mask = false → t.evf.first = ⟨some k, s.siteSec, s.siteMs, capture⟩))

/-- The transaction and its records (R183 to R186, R208). At the fall of chip select the part takes what it
shifts out: the response record, or a pending record while a command is in progress. At the rise, every
command of R189 that the host can spell, in a record with its check byte and any filler behind it, is the
command in progress; a record cut short, one with a wrong sum, one of an unknown kind and one of a length its
kind does not allow are refused; fewer than three bytes take nothing; and beside a pending record nothing is
taken. -/
def Obligations.CommandRecords : Prop :=
  (∀ s : State, s.hpt.transaction = none →
    (s.hpt.inProgress = none → exec .transactionBegins s = .next { s with hpt := { s.hpt with
      transaction := some ⟨s.hpt.response.bytes, false⟩ } }) ∧
    (∀ c, s.hpt.inProgress = some c → exec .transactionBegins s = .next { s with hpt := { s.hpt with
      transaction := some ⟨Response.bytes ⟨c.tag, .pending, []⟩, true⟩ } })) ∧
  (∀ r : Response, r.body.length ≤ 255 → ∃ check : Byte,
    r.bytes = [r.tag, byte r.status.code, byte r.body.length] ++ r.body ++ [check] ∧ byteSum r.bytes = 0) ∧
  (∀ (s : State) (x : Transaction) (bytes : List Byte), s.hpt.transaction = some x →
    ∃ t, exec (.hostTransaction bytes) s = .next t ∧
      t.hpt.shifted = (x.out ++ List.replicate bytes.length 0).take bytes.length ∧
      (x.isPending = true ∨ bytes.length < 3 →
        t = { s with hpt := { s.hpt with transaction := none, shifted := t.hpt.shifted } }) ∧
      (∀ (c : Instr) (kind tag : Byte) (body filler : List Byte), x.isPending = false →
        hostBody c = some (kind, tag, body) →
        (kind = 1 → body.length = 4 ∨ body.length = 83) →
        (∃ check, bytes = kind :: tag :: byte body.length :: body ++ check :: filler ∧
          byteSum (kind :: tag :: byte body.length :: body ++ [check]) = 0) →
        t = { s with hpt := { s.hpt with
          transaction := none, shifted := t.hpt.shifted, inProgress := some ⟨tag, c⟩ } }) ∧
      (∀ (kind tag len : Byte) (rest : List Byte), x.isPending = false →
        bytes = kind :: tag :: len :: rest →
        let record := kind :: tag :: len :: rest.take (len.toNat + 1)
        let capture := ([kind, tag, len] ++ rest.take len.toNat ++ List.replicate 5 0).take 8
        let known := ∃ c tag' body', hostBody c = some (kind, tag', body')
        (rest.length ≤ len.toNat → RefusedAtPort tag .badLength none [] s t) ∧
        (len.toNat < rest.length → byteSum record ≠ 0 →
          RefusedAtPort tag .badCheck (some .hostCheck) capture s t) ∧
        (len.toNat < rest.length → byteSum record = 0 → ¬known →
          RefusedAtPort tag .unknown (some .hostUnknown) capture s t) ∧
        (len.toNat < rest.length → byteSum record = 0 → known →
          (∀ c, hostBody c = some (kind, tag, rest.take len.toNat) → kind = 1 ∧ len ≠ 4 ∧ len ≠ 83) →
          RefusedAtPort tag .badLength none [] s t)))

/-- Every field of a configuration record is in the range of R190. -/
structure Sys2Proof.Claims.RecordOk (c : ConfigRecord) : Prop where
  nodeId : 1 ≤ c.nodeId ∧ c.nodeId ≤ 62
  groupA : 1 ≤ c.groupA ∧ c.groupA ≤ 15
  groupB : (c.role = .genset → c.groupB = 0) ∧ (c.role = .board → 1 ≤ c.groupB ∧ c.groupB ≤ 15)
  statusPeriod : 1 ≤ c.statusPeriod ∧ c.statusPeriod ≤ 10
  seed : c.seed ≤ 65535
  rating : 1 ≤ c.rating ∧ c.rating ≤ 65535
  curve : c.curve.length = 5 ∧ ∀ f ∈ c.curve, f ≤ 65535
  capacity : 1 ≤ c.capacity ∧ c.capacity ≤ 2 ^ 32 - 1
  openingStock : c.openingStock ≤ 2 ^ 32 - 1
  openingPrice : c.openingPrice ≤ 65535
  levelTol : c.levelTol ≤ 2 ^ 32 - 1
  deliveryTol : c.deliveryTol ≤ 1000
  pulsesPerLitre : 1 ≤ c.pulsesPerLitre ∧ c.pulsesPerLitre ≤ 1000
  mLow : 1 ≤ c.mLow ∧ c.mLow ≤ 65535
  mCrit : c.mCrit ≤ 65534
  refuelAt : c.refuelAt ≤ 65535
  startThreshold : c.startThreshold ≤ 1000
  startDelay : 10 ≤ c.startDelay ∧ c.startDelay ≤ 600
  stopThreshold : c.stopThreshold ≤ 1000
  stopDelay : 10 ≤ c.stopDelay ∧ c.stopDelay ≤ 3600
  minOnline : c.minOnline ≤ 4
  warmUp : c.warmUp ≤ 600
  margin : c.margin ≤ 500
  deadTime : 300 ≤ c.deadTime ∧ c.deadTime ≤ 3000
  lossConfirm : 100 ≤ c.lossConfirm ∧ c.lossConfirm ≤ 2000
  returnConfirm : 1 ≤ c.returnConfirm ∧ c.returnConfirm ≤ 60
  filterTime : 4 ≤ c.filterTime ∧ c.filterTime ≤ 64
  intervalLength : 5 ≤ c.intervalLength ∧ c.intervalLength ≤ 60
  profileA : c.profileA.length = 8 ∧ ∀ e ∈ c.profileA, e.level ≤ 3
  profileB : c.profileB.length = 8 ∧ ∀ e ∈ c.profileB, e.level ≤ 3
  setBCount : 1 ≤ c.setBCount ∧ c.setBCount ≤ 64
  setBDelay : c.setBDelay ≤ 60000

/-- The record of a short form: its four fields, and every default of R190 and of section 5.4. -/
def Sys2Proof.Claims.shortRecord (node : Nat) (role : Role) (a b : Nat) : ConfigRecord :=
  let every (l : Nat) : ProfileEntry := ⟨l, true, true, true⟩
  { nodeId := node, role := role, groupA := a, groupB := b, statusPeriod := 2, seed := 0, rating := 1000
    curve := [0, 0, 0, 0, 0], capacity := 1000000, openingStock := 0, openingPrice := 0, levelTol := 5000
    deliveryTol := 20, pulsesPerLitre := 100, mLow := 120, mCrit := 30, refuelAt := 240, startThreshold := 800
    startDelay := 30, stopThreshold := 450, stopDelay := 300, minOnline := 1, warmUp := 60, mode := .auto
    margin := 100, deadTime := 800, lossConfirm := 200, returnConfirm := 5, filterTime := 16
    intervalLength := 15, profileA := [every 0, every 1, every 2, every 3, every 3, every 3, every 3, every 3]
    profileB := [every 0, every 0, every 0, every 0, every 0, every 0, every 0, every 0]
    setBCount := 8, setBDelay := 250 }

/-- The ranges of R190, field by field in the order of its table, F0 to F4 as five fields and the profile entries
as sixteen bytes (R208); group B's goes by the role field. -/
def Sys2Proof.Claims.fieldRanges (role : Nat) : List (Nat × Nat) :=
  [(1, 62), (0, 1), (1, 15), if role = 0 then (0, 0) else (1, 15),   -- node id, role, groups A and B
    (1, 10), (0, 65535), (1, 65535)]                                 -- status period, seed, rating
  ++ List.replicate 5 (0, 65535)                                     -- F0 to F4
  ++ [(1, 4294967295), (0, 4294967295), (0, 65535),                  -- capacity, opening stock and price
    (0, 4294967295), (0, 1000), (1, 1000),                           -- level and delivery tolerance, K
    (1, 65535), (0, 65534), (0, 65535),                              -- M_low, M_crit, refuel threshold
    (0, 1000), (10, 600), (0, 1000), (10, 3600), (0, 4),             -- start and stop, minimum online
    (0, 600), (0, 1), (0, 500), (300, 3000),                         -- warm-up, mode, margin, dead time
    (100, 2000), (1, 60), (4, 64), (5, 60)]                          -- loss, return, filter, interval
  ++ List.replicate 16 (0, 31)                                       -- profiles A and B
  ++ [(1, 64), (0, 60000)]                                           -- set B

/-- CONFIGURE (R187, R190, R208), in CONFIG, and the CONFIG section of READ_NODE (R194). A record in range goes
through the full form's 83 bytes unchanged, and READ_NODE gives its bytes back, in every node state, or STATE
where there is none; the short form fills the defaults; both set the edited flag. The lowest field out of range
is named and the record stays; a dead time under 300 ms is field 29. Another length is refused. -/
def Obligations.Configure : Prop :=
  (∀ (s : State) (tag : Byte) (c : ConfigRecord), s.hpt.nodeState = .config → RecordOk c →
    c.bytes.length = 83 ∧
    exec (.configure tag c.bytes) s = .next ({ s with hpt := { s.hpt with
      record := some c, edited := true } }.answered tag .ok []) ∧
    ∀ dead : Nat, dead < 300 → exec (.configure tag { c with deadTime := dead }.bytes) s
      = .next (s.answered tag .badField [29])) ∧
  (∀ (s : State) (tag node a b : Byte) (role : Role), s.hpt.nodeState = .config →
    1 ≤ node.toNat → node.toNat ≤ 62 → 1 ≤ a.toNat → a.toNat ≤ 15 →
    (role = .genset → b = 0) → (role = .board → 1 ≤ b.toNat ∧ b.toNat ≤ 15) →
    exec (.configure tag [node, (match role with
      | .genset => 0
      | .board => 1), a, b]) s = .next ({ s with hpt := { s.hpt with
        record := some (shortRecord node.toNat role a.toNat b.toNat), edited := true } }.answered tag .ok [])) ∧
  (∀ (s : State) (tag : Byte) (body : List Byte) (i v lo hi : Nat), s.hpt.nodeState = .config →
    body.length = 4 ∨ body.length = 83 → (configFields body)[i]? = some v →
    (fieldRanges ((configFields body).getD 1 0))[i]? = some (lo, hi) → ¬(lo ≤ v ∧ v ≤ hi) →
    (∀ j w l h, j < i → (configFields body)[j]? = some w →
      (fieldRanges ((configFields body).getD 1 0))[j]? = some (l, h) → l ≤ w ∧ w ≤ h) →
    exec (.configure tag body) s = .next (s.answered tag .badField [byte i])) ∧
  (∀ (s : State) (tag : Byte) (body : List Byte), s.hpt.nodeState = .config → body.length ≠ 4 →
    body.length ≠ 83 → exec (.configure tag body) s = .next (s.answered tag .badLength [])) ∧
  (∀ (s : State) (tag : Byte),
    (∀ c, s.hpt.record = some c → exec (.readNode tag 1 0) s = .next (s.answered tag .ok c.bytes)) ∧
    (s.hpt.record = none → exec (.readNode tag 1 0) s = .next (s.answered tag .state [])))

/-- The set state that COMMIT derives from the filtered inputs (R62). -/
def Sys2Proof.Claims.setFrom (f : Fpc) : SetState :=
  if f.setFault.level = true then .faulted
  else if f.running.level = true then (if f.breaker.level = true then .online else .warming) else .stopped

/-- The board state and the feeder that COMMIT derives from the filtered positions (R134). -/
def Sys2Proof.Claims.boardFrom (s : State) : BoardState × Option Feeder :=
  match s.fpc.feederA.level, s.fpc.feederB.level with
  | true, false => (.settled, some .a)
  | false, true => (.settled, some .b)
  | false, false => (.dark, none)
  | true, true => (.isolated, none)

/-- What a GENSET COMMIT leaves in the Fuel Accounting Unit (R66, R72 to R74, R81, R84): the record's fuel fields as
working copy. A later COMMIT leaves the rest, but that a new K drops the carried remainders. The first makes the
opening lot, takes the held pulses as stray volume with one STRAY_FLOW, and computes minutes, factor and refuel flag
at the flow of load 0. -/
def Sys2Proof.Claims.FuelTaken (c : ConfigRecord) (s t : State) : Prop :=
  let f := s.fau
  let k := c.pulsesPerLitre
  let copy : FuelConfig :=
    ⟨c.rating, c.curve, c.capacity, c.openingPrice, c.levelTol, c.deliveryTol, k, c.mLow, c.mCrit, c.refuelAt⟩
  (∀ old, f.copy = some old → t.fpc.heldPulses = s.fpc.heldPulses ∧
    (old.pulsesPerLitre = k → t.fau = { f with copy := some copy }) ∧
    (old.pulsesPerLitre ≠ k → t.fau = { f with
      copy := some copy, strayCarry := 0, delivery := f.delivery.map fun d => { d with carry := 0 } })) ∧
  (f.copy = none →
    let held := s.fpc.heldPulses
    let flow := c.curve.getD 0 0 * 250
    let m := if c.openingStock = 0 then 0 else if flow = 0 then 65535
      else min (c.openingStock * 150 / flow) 65535
    t.fpc.heldPulses = 0 ∧
    t.fau = { f with
      copy := some copy, lastPrice := c.openingPrice, flow := flow, nextCheck := some (s.now + 60 * second)
      lots := if c.openingStock = 0 then []
        else [⟨0, 0, .opening, c.openingStock, c.openingStock, c.openingPrice, s.siteSec, false⟩]
      dryReported := f.dryReported && decide (c.openingStock = 0)
      stray := if held = 0 then f.stray else min (f.stray + (f.strayCarry + held * 1000) / k) (2 ^ 32 - 1)
      strayCarry := if held = 0 then f.strayCarry else (f.strayCarry + held * 1000) % k
      minutes := m
      factor := if c.mLow ≤ m then 1000 else if m ≤ c.mCrit then 0
        else 1000 * (m - c.mCrit) / (c.mLow - c.mCrit)
      refuelWanted := if f.refuelWanted then decide (m < min (c.refuelAt + 30) 65535)
        else decide (m < c.refuelAt) } ∧
    (t.evf.ring.length < 64 →
      (0 < held → ∃ r ∈ t.evf.ring, r.kind = .strayFlow ∧ r.subject = .node c.nodeId ∧ r.value = f.stray) ∧
      (f.refuelWanted = false → m < c.refuelAt → ∃ r ∈ t.evf.ring,
        r.kind = .refuel ∧ r.subject = .node c.nodeId ∧ r.value = m ∧ r.qualifier = 0)))

/-- A peer record recomputed from its age with a new freshness base at this moment (R37). -/
def Sys2Proof.Claims.agedFor (base : Nat) (s : State) (p : Peer) : Peer :=
  let age : Int := s.siteMillis - p.lastHeard
  if p.freshness = .lost then p
  else if age < 3 * base * 1000 then { p with freshness := .fresh }
  else if age < 10 * base * 1000 then { p with freshness := .stale }
  else { p with freshness := .lost, lostSince := some (s.siteMillis : Int) }

/-- COMMIT and RESET_SOFT (R37, R62, R66, R84, R107, R134, R135, R172, R191, R192, R195). COMMIT is refused
without a record, with M_crit not below M_low, and with an opening stock above the capacity; taken, it gives the
node its role, own id and run tag, which differs from the one before, and RUN; every block takes the record, the
set or board state is derived, a GENSET takes its working copy of the fuel fields with the opening stock and the
held pulses, every peer record is recomputed with the new period, and a STATUS of the derived state is offered.
RESET_SOFT takes the node to CONFIG without an own id, empties queue, view, pledge tables and claim, stops the
board's timers, and posts SOFT_RESET with the state left. The model's own in this: the field indices 19 and 13
and the answer with the derived state (log entry 14), the STATUS of a COMMIT in place of an extra one (log entry
13), the held pulses that start no burst and the flow set at the first COMMIT alone (log entry 16), the frame
being sent kept without retry and the receiver, bus and link kept at a soft reset (log entry 11), the boundary of
a new interval length taken while one is due (log entry 44), and the codes of SOFT_RESET (log entry 20). -/
def Obligations.CommitAndSoftReset : Prop :=
  (∀ (s : State) (tag : Byte), s.hpt.nodeState = .config →
    (s.hpt.record = none → exec (.commit tag) s = .next (s.answered tag .state [])) ∧
    (∀ c, s.hpt.record = some c →
      (c.mLow ≤ c.mCrit → exec (.commit tag) s = .next (s.answered tag .badField [19])) ∧
      (c.mCrit < c.mLow → c.capacity < c.openingStock →
        exec (.commit tag) s = .next (s.answered tag .badField [13])) ∧
      (c.mCrit < c.mLow → c.openingStock ≤ c.capacity → ∃ (t : State) (run : Nat),
        let derived := match c.role with
          | .genset => (setFrom s.fpc).code
          | .board => (boardFrom s).1.code
        exec (.commit tag) s = .next (t.answered tag .ok (be16 run ++ [byte c.role.code, byte derived])) ∧
        KeepsAllBut [.hpt, .slc, .pvt, .setc, .fau, .plu, .chs, .fpc, .mtr, .bil, .evf] s t ∧
        t.hpt = { s.hpt with
          role := some c.role, ownId := some c.nodeId, runTag := some run, committed := some c
          edited := false, nodeState := .run } ∧
        some run ≠ s.hpt.runTag ∧
        (s.hpt.runTag ≠ some s.hpt.tagCounter.toNat → run = s.hpt.tagCounter.toNat) ∧
        (s.hpt.runTag = some s.hpt.tagCounter.toNat → run = (s.hpt.tagCounter.toNat + 1) % 65536) ∧
        t.pvt.base = c.statusPeriod ∧ t.pvt.statusNext = some (s.now + c.statusPeriod * second) ∧
        t.pvt.extraDue = false ∧ (∀ p ∈ t.pvt.peers, p.node ≠ c.nodeId) ∧
        ((s.pvt.peers.map (·.node)).Nodup → (∀ p ∈ s.pvt.peers, p.node ≤ 62) →
          let kept := s.pvt.peers.filter fun p => p.node != c.nodeId
          t.pvt.peers = kept.map (agedFor c.statusPeriod s) ∧
          (t.evf.ring.length < 64 → ∀ p ∈ kept, p.freshness ≠ .lost →
            (agedFor c.statusPeriod s p).freshness = .lost →
            ∃ r ∈ t.evf.ring, r.kind = .peerLost ∧ r.subject = .node p.node)) ∧
        (c.role = .genset → FuelTaken c s t) ∧
        (s.slc.queue = [] → s.slc.hold = [] → ∃ body, statusNow t body ∧
          t.slc.queue = [⟨.status body, .bulk, 0, none, false⟩]) ∧
        t.fpc.filterTime = c.filterTime ∧ t.fpc.relays.length = s.fpc.relays.length ∧
        t.evf.setBCount = c.setBCount ∧ t.evf.setBDelay = c.setBDelay ∧
        t.bil = { s.bil with length := c.intervalLength, boundary := t.bil.boundary } ∧
        (s.bil.length = c.intervalLength → t.bil.boundary = s.bil.boundary) ∧
        (s.bil.length ≠ c.intervalLength → 0 < c.intervalLength →
          IsBoundary c.intervalLength s.siteSec t.bil.boundary) ∧
        t.mtr.tariffs = s.mtr.tariffs ∧ t.mtr.pendings = s.mtr.pendings ∧
        t.plu.waits = [] ∧ t.plu.pledges = [] ∧ t.plu.active = .a ∧ t.plu.pointer = 0 ∧
        (c.role = .genset → t.plu.profileA = c.profileA ∧ t.plu.profileB = c.profileB ∧
          t.setc.mode = c.mode ∧ t.chs = Chs.reset ∧ t.mtr.levels = ⟨false, false, false⟩ ∧
          (setFrom s.fpc ≠ .warming ∨ c.warmUp ≠ 0 → t.setc.state = setFrom s.fpc)) ∧
        (c.role = .board → t.setc = Setc.reset ∧ t.plu = Plu.reset ∧ t.fau = Fau.reset ∧
          t.fpc.runRequest = false ∧ t.fpc.loadEnable = false ∧ t.chs.state = (boardFrom s).1 ∧
          t.chs.active = (boardFrom s).2 ∧ t.chs.billing = (boardFrom s).2 ∧ t.chs.claim = none ∧
          t.chs.feederA.group = c.groupA ∧ t.chs.feederB.group = c.groupB ∧
          t.mtr = s.mtr)))) ∧
  (∀ (s : State) (tag : Byte), ∃ t : State, exec (.resetSoft tag) s = .next (t.answered tag .ok []) ∧
    KeepsAllBut [.hpt, .slc, .pvt, .plu, .chs, .evf] s t ∧
    t.hpt = { s.hpt with nodeState := .config, ownId := none } ∧
    t.slc = { s.slc with
      queue := [], hold := [], successor := none, penalty := ⟨false, false, false⟩
      tx := s.slc.tx.map fun f => { f with orphan := true } } ∧
    t.pvt = { s.pvt with
      peers := [], overflowReported := false, base := 2, statusNext := none, extraDue := false } ∧
    t.plu = { s.plu with waits := [], pledges := [], headroom := 0 } ∧
    t.chs = { s.chs with
      claim := none, openLimit := none, deadTimer := none, closeLimit := none, topupTimer := none
      feederA := { s.chs.feederA with lossWatch := none, returnWatch := none }
      feederB := { s.chs.feederB with lossWatch := none, returnWatch := none } } ∧
    Posts [(.softReset, .node (match s.hpt.committed with
      | some c => c.nodeId
      | none => 0), s.hpt.nodeState.code, 0)] s t ∧
    (s.evf.mark = 0 → s.evf.ring.length < 64 → t.evf.attn = true))

/-! ### Chapter 11: events and faults -/

/-- One of the raise conditions of R200 holds now. -/
def Sys2Proof.Claims.Raises (e : Evf) (now : Nat) : Prop :=
  let count := if e.mark = 0 then 1 else e.setBCount
  let delay := if e.mark = 0 then 0 else e.setBDelay
  ∃ r rest, e.ring = r :: rest ∧ (count ≤ e.ring.length ∨ r.writtenAt + delay * 1000 ≤ now)

/-- ATTN has been tested (R200), from the level `was`. -/
def Sys2Proof.Claims.Tested (was : Bool) (now : Nat) (e : Evf) : Prop :=
  e.attn = true ↔ was = true ∨ Raises e now

/-- Events, ATTN and the fault capture (R197, R199 to R202, R204). A posting writes a stamped record behind the
ring's others with the lost count, or is counted as lost at 64. An occurrence of a fault kind sets its sticky
status; unmasked it posts FAULT, and fills the first-fault record where that is empty. ATTN rises by R200 and
falls only with the last record. ACK_EVENTS, SERVICE_MARK, READ_FAULTS, CLEAR_FAULTS and SET_FAULT_MASK do and
answer what their rules say. -/
def Obligations.EventsAndFaults : Prop :=
  (∀ (s : State) (k : EventKind) (u : Subject) (v q : Nat),
    let t := postEvent k u v q s
    KeepsAllBut [.evf] s t ∧
    (s.evf.ring.length < 64 → t.evf = { s.evf with
      ring := s.evf.ring ++ [⟨k, u, s.siteSec, s.siteMs, v, q, s.evf.lost, s.now⟩], lost := 0
      attn := t.evf.attn } ∧ Tested s.evf.attn s.now t.evf) ∧
    (64 ≤ s.evf.ring.length → t.evf = { s.evf with lost := min (s.evf.lost + 1) 65535 })) ∧
  (∀ (s : State) (k : FaultKind) (capture : List Byte), capture.length ≤ 8 →
    let t := reportFault k capture s
    KeepsAllBut [.evf] s t ∧ Reports k [] s t ∧ t.evf.mask = s.evf.mask ∧
    (k.inSet s.evf.mask = true ∨ s.evf.first.kind ≠ none → t.evf.first = s.evf.first) ∧
    (k.inSet s.evf.mask = true → t.evf.ring = s.evf.ring ∧ t.evf.lost = s.evf.lost) ∧
    (k.inSet s.evf.mask = false → s.evf.first.kind = none →
      t.evf.first = ⟨some k, s.siteSec, s.siteMs, capture ++ List.replicate (8 - capture.length) 0⟩)) ∧
  (∀ s : State, ∃ t, exec .attnDelay s = .next t ∧ KeepsAllBut [.evf] s t ∧
    t.evf = { s.evf with attn := t.evf.attn } ∧ Tested s.evf.attn s.now t.evf) ∧
  (∀ (s : State) (tag count : Byte),
    (s.evf.ring.length < count.toNat →
      exec (.ackEvents tag count) s = .next (s.answered tag .badField [0])) ∧
    (count = 0 → exec (.ackEvents tag count) s = .next (s.answered tag .ok [byte s.evf.ring.length])) ∧
    (count ≠ 0 → count.toNat ≤ s.evf.ring.length → ∃ t : State,
      exec (.ackEvents tag count) s
        = .next (t.answered tag .ok [byte (s.evf.ring.length - count.toNat)]) ∧ KeepsAllBut [.evf] s t ∧
      t.evf = { s.evf with
        ring := s.evf.ring.drop count.toNat, consumer := (s.evf.consumer + count.toNat) % 64
        attn := t.evf.attn } ∧
      Tested (s.evf.attn && decide (s.evf.ring.length ≠ count.toNat)) s.now t.evf)) ∧
  (∀ (s : State) (tag mark : Byte), ∃ t : State,
    exec (.serviceMark tag mark) s = .next (t.answered tag .ok [byte s.evf.mark]) ∧ KeepsAllBut [.evf] s t ∧
    t.evf = { s.evf with mark := mark.toNat, attn := t.evf.attn } ∧ Tested s.evf.attn s.now t.evf) ∧
  (∀ (s : State) (tag : Byte), exec (.readFaults tag) s = .next (s.answered tag .ok
    (be16 s.evf.sticky.toNat ++ be16 s.evf.mask.toNat ++ (match s.evf.first.kind with
      | some k => [1, byte k.code]
      | none => [0, 0]) ++ be32 s.evf.first.sec ++ s.evf.first.capture))) ∧
  (∀ (s : State) (tag : Byte) (kinds : Half), ∃ t : State,
    exec (.clearFaults tag kinds) s = .next (t.answered tag .ok (be16 s.evf.sticky.toNat)) ∧
    KeepsAllBut [.evf] s t ∧
    t.evf = { s.evf with sticky := t.evf.sticky, first := t.evf.first } ∧
    (∀ k : FaultKind, k.inSet t.evf.sticky = (k.inSet s.evf.sticky && !k.inSet kinds)) ∧
    (∀ k, s.evf.first.kind = some k → k.inSet kinds = true →
      t.evf.first = ⟨none, 0, 0, [0, 0, 0, 0, 0, 0, 0, 0]⟩) ∧
    ((∀ k, s.evf.first.kind = some k → k.inSet kinds = false) → t.evf.first = s.evf.first)) ∧
  (∀ (s : State) (tag : Byte) (kinds : Half),
    exec (.setFaultMask tag kinds) s
      = .next ({ s with evf := { s.evf with mask := kinds } }.answered tag .ok (be16 s.evf.mask.toNat)))

/-! ### Invariants -/

/-- The invariants whose keeping is stated above hold right after power-on reset. -/
def Obligations.InvariantsAtReset : Prop :=
  Bounded State.reset ∧ FuelOk State.reset ∧ PledgesOk State.reset ∧ HeadroomOk State.reset ∧
  BoardOk State.reset ∧ RelaysOk State.reset ∧ BillingOk State.reset

/-- Every step keeps the bounds of the stores: the queue of 16 and the hold of 4 (section 1.3), the ring of 64
(R197), and the log of 128 (R176). -/
def Obligations.BoundsKept : Prop :=
  ∀ s t : State, Bounded s → step s = .next t → Bounded t
end

