-- ==== Sys2Proof/Laws/State.lean ====
section
/-! SUPPORT. One lemma per field per block update of the state, each true by definition: no later proof
unfolds a record update. -/

namespace Sys2Proof.Machine

variable (s : State)

@[simp] theorem State.withClock_clock (x : Clock) : (s.withClock x).clock = x := rfl
@[simp] theorem State.withClock_slc (x : Clock) : (s.withClock x).slc = s.slc := rfl
@[simp] theorem State.withClock_pvt (x : Clock) : (s.withClock x).pvt = s.pvt := rfl
@[simp] theorem State.withClock_setc (x : Clock) : (s.withClock x).setc = s.setc := rfl
@[simp] theorem State.withClock_fau (x : Clock) : (s.withClock x).fau = s.fau := rfl
@[simp] theorem State.withClock_plu (x : Clock) : (s.withClock x).plu = s.plu := rfl
@[simp] theorem State.withClock_chs (x : Clock) : (s.withClock x).chs = s.chs := rfl
@[simp] theorem State.withClock_fpc (x : Clock) : (s.withClock x).fpc = s.fpc := rfl
@[simp] theorem State.withClock_mtr (x : Clock) : (s.withClock x).mtr = s.mtr := rfl
@[simp] theorem State.withClock_bil (x : Clock) : (s.withClock x).bil = s.bil := rfl
@[simp] theorem State.withClock_hpt (x : Clock) : (s.withClock x).hpt = s.hpt := rfl
@[simp] theorem State.withClock_evf (x : Clock) : (s.withClock x).evf = s.evf := rfl
@[simp] theorem State.withClock_pending (x : Clock) : (s.withClock x).pending = s.pending := rfl
@[simp] theorem State.withClock_choices (x : Clock) : (s.withClock x).choices = s.choices := rfl

@[simp] theorem State.withSlc_clock (x : Slc) : (s.withSlc x).clock = s.clock := rfl
@[simp] theorem State.withSlc_slc (x : Slc) : (s.withSlc x).slc = x := rfl
@[simp] theorem State.withSlc_pvt (x : Slc) : (s.withSlc x).pvt = s.pvt := rfl
@[simp] theorem State.withSlc_setc (x : Slc) : (s.withSlc x).setc = s.setc := rfl
@[simp] theorem State.withSlc_fau (x : Slc) : (s.withSlc x).fau = s.fau := rfl
@[simp] theorem State.withSlc_plu (x : Slc) : (s.withSlc x).plu = s.plu := rfl
@[simp] theorem State.withSlc_chs (x : Slc) : (s.withSlc x).chs = s.chs := rfl
@[simp] theorem State.withSlc_fpc (x : Slc) : (s.withSlc x).fpc = s.fpc := rfl
@[simp] theorem State.withSlc_mtr (x : Slc) : (s.withSlc x).mtr = s.mtr := rfl
@[simp] theorem State.withSlc_bil (x : Slc) : (s.withSlc x).bil = s.bil := rfl
@[simp] theorem State.withSlc_hpt (x : Slc) : (s.withSlc x).hpt = s.hpt := rfl
@[simp] theorem State.withSlc_evf (x : Slc) : (s.withSlc x).evf = s.evf := rfl
@[simp] theorem State.withSlc_pending (x : Slc) : (s.withSlc x).pending = s.pending := rfl
@[simp] theorem State.withSlc_choices (x : Slc) : (s.withSlc x).choices = s.choices := rfl

@[simp] theorem State.withPvt_clock (x : Pvt) : (s.withPvt x).clock = s.clock := rfl
@[simp] theorem State.withPvt_slc (x : Pvt) : (s.withPvt x).slc = s.slc := rfl
@[simp] theorem State.withPvt_pvt (x : Pvt) : (s.withPvt x).pvt = x := rfl
@[simp] theorem State.withPvt_setc (x : Pvt) : (s.withPvt x).setc = s.setc := rfl
@[simp] theorem State.withPvt_fau (x : Pvt) : (s.withPvt x).fau = s.fau := rfl
@[simp] theorem State.withPvt_plu (x : Pvt) : (s.withPvt x).plu = s.plu := rfl
@[simp] theorem State.withPvt_chs (x : Pvt) : (s.withPvt x).chs = s.chs := rfl
@[simp] theorem State.withPvt_fpc (x : Pvt) : (s.withPvt x).fpc = s.fpc := rfl
@[simp] theorem State.withPvt_mtr (x : Pvt) : (s.withPvt x).mtr = s.mtr := rfl
@[simp] theorem State.withPvt_bil (x : Pvt) : (s.withPvt x).bil = s.bil := rfl
@[simp] theorem State.withPvt_hpt (x : Pvt) : (s.withPvt x).hpt = s.hpt := rfl
@[simp] theorem State.withPvt_evf (x : Pvt) : (s.withPvt x).evf = s.evf := rfl
@[simp] theorem State.withPvt_pending (x : Pvt) : (s.withPvt x).pending = s.pending := rfl
@[simp] theorem State.withPvt_choices (x : Pvt) : (s.withPvt x).choices = s.choices := rfl

@[simp] theorem State.withSetc_clock (x : Setc) : (s.withSetc x).clock = s.clock := rfl
@[simp] theorem State.withSetc_slc (x : Setc) : (s.withSetc x).slc = s.slc := rfl
@[simp] theorem State.withSetc_pvt (x : Setc) : (s.withSetc x).pvt = s.pvt := rfl
@[simp] theorem State.withSetc_setc (x : Setc) : (s.withSetc x).setc = x := rfl
@[simp] theorem State.withSetc_fau (x : Setc) : (s.withSetc x).fau = s.fau := rfl
@[simp] theorem State.withSetc_plu (x : Setc) : (s.withSetc x).plu = s.plu := rfl
@[simp] theorem State.withSetc_chs (x : Setc) : (s.withSetc x).chs = s.chs := rfl
@[simp] theorem State.withSetc_fpc (x : Setc) : (s.withSetc x).fpc = s.fpc := rfl
@[simp] theorem State.withSetc_mtr (x : Setc) : (s.withSetc x).mtr = s.mtr := rfl
@[simp] theorem State.withSetc_bil (x : Setc) : (s.withSetc x).bil = s.bil := rfl
@[simp] theorem State.withSetc_hpt (x : Setc) : (s.withSetc x).hpt = s.hpt := rfl
@[simp] theorem State.withSetc_evf (x : Setc) : (s.withSetc x).evf = s.evf := rfl
@[simp] theorem State.withSetc_pending (x : Setc) : (s.withSetc x).pending = s.pending := rfl
@[simp] theorem State.withSetc_choices (x : Setc) : (s.withSetc x).choices = s.choices := rfl

@[simp] theorem State.withFau_clock (x : Fau) : (s.withFau x).clock = s.clock := rfl
@[simp] theorem State.withFau_slc (x : Fau) : (s.withFau x).slc = s.slc := rfl
@[simp] theorem State.withFau_pvt (x : Fau) : (s.withFau x).pvt = s.pvt := rfl
@[simp] theorem State.withFau_setc (x : Fau) : (s.withFau x).setc = s.setc := rfl
@[simp] theorem State.withFau_fau (x : Fau) : (s.withFau x).fau = x := rfl
@[simp] theorem State.withFau_plu (x : Fau) : (s.withFau x).plu = s.plu := rfl
@[simp] theorem State.withFau_chs (x : Fau) : (s.withFau x).chs = s.chs := rfl
@[simp] theorem State.withFau_fpc (x : Fau) : (s.withFau x).fpc = s.fpc := rfl
@[simp] theorem State.withFau_mtr (x : Fau) : (s.withFau x).mtr = s.mtr := rfl
@[simp] theorem State.withFau_bil (x : Fau) : (s.withFau x).bil = s.bil := rfl
@[simp] theorem State.withFau_hpt (x : Fau) : (s.withFau x).hpt = s.hpt := rfl
@[simp] theorem State.withFau_evf (x : Fau) : (s.withFau x).evf = s.evf := rfl
@[simp] theorem State.withFau_pending (x : Fau) : (s.withFau x).pending = s.pending := rfl
@[simp] theorem State.withFau_choices (x : Fau) : (s.withFau x).choices = s.choices := rfl

@[simp] theorem State.withPlu_clock (x : Plu) : (s.withPlu x).clock = s.clock := rfl
@[simp] theorem State.withPlu_slc (x : Plu) : (s.withPlu x).slc = s.slc := rfl
@[simp] theorem State.withPlu_pvt (x : Plu) : (s.withPlu x).pvt = s.pvt := rfl
@[simp] theorem State.withPlu_setc (x : Plu) : (s.withPlu x).setc = s.setc := rfl
@[simp] theorem State.withPlu_fau (x : Plu) : (s.withPlu x).fau = s.fau := rfl
@[simp] theorem State.withPlu_plu (x : Plu) : (s.withPlu x).plu = x := rfl
@[simp] theorem State.withPlu_chs (x : Plu) : (s.withPlu x).chs = s.chs := rfl
@[simp] theorem State.withPlu_fpc (x : Plu) : (s.withPlu x).fpc = s.fpc := rfl
@[simp] theorem State.withPlu_mtr (x : Plu) : (s.withPlu x).mtr = s.mtr := rfl
@[simp] theorem State.withPlu_bil (x : Plu) : (s.withPlu x).bil = s.bil := rfl
@[simp] theorem State.withPlu_hpt (x : Plu) : (s.withPlu x).hpt = s.hpt := rfl
@[simp] theorem State.withPlu_evf (x : Plu) : (s.withPlu x).evf = s.evf := rfl
@[simp] theorem State.withPlu_pending (x : Plu) : (s.withPlu x).pending = s.pending := rfl
@[simp] theorem State.withPlu_choices (x : Plu) : (s.withPlu x).choices = s.choices := rfl

@[simp] theorem State.withChs_clock (x : Chs) : (s.withChs x).clock = s.clock := rfl
@[simp] theorem State.withChs_slc (x : Chs) : (s.withChs x).slc = s.slc := rfl
@[simp] theorem State.withChs_pvt (x : Chs) : (s.withChs x).pvt = s.pvt := rfl
@[simp] theorem State.withChs_setc (x : Chs) : (s.withChs x).setc = s.setc := rfl
@[simp] theorem State.withChs_fau (x : Chs) : (s.withChs x).fau = s.fau := rfl
@[simp] theorem State.withChs_plu (x : Chs) : (s.withChs x).plu = s.plu := rfl
@[simp] theorem State.withChs_chs (x : Chs) : (s.withChs x).chs = x := rfl
@[simp] theorem State.withChs_fpc (x : Chs) : (s.withChs x).fpc = s.fpc := rfl
@[simp] theorem State.withChs_mtr (x : Chs) : (s.withChs x).mtr = s.mtr := rfl
@[simp] theorem State.withChs_bil (x : Chs) : (s.withChs x).bil = s.bil := rfl
@[simp] theorem State.withChs_hpt (x : Chs) : (s.withChs x).hpt = s.hpt := rfl
@[simp] theorem State.withChs_evf (x : Chs) : (s.withChs x).evf = s.evf := rfl
@[simp] theorem State.withChs_pending (x : Chs) : (s.withChs x).pending = s.pending := rfl
@[simp] theorem State.withChs_choices (x : Chs) : (s.withChs x).choices = s.choices := rfl

@[simp] theorem State.withFpc_clock (x : Fpc) : (s.withFpc x).clock = s.clock := rfl
@[simp] theorem State.withFpc_slc (x : Fpc) : (s.withFpc x).slc = s.slc := rfl
@[simp] theorem State.withFpc_pvt (x : Fpc) : (s.withFpc x).pvt = s.pvt := rfl
@[simp] theorem State.withFpc_setc (x : Fpc) : (s.withFpc x).setc = s.setc := rfl
@[simp] theorem State.withFpc_fau (x : Fpc) : (s.withFpc x).fau = s.fau := rfl
@[simp] theorem State.withFpc_plu (x : Fpc) : (s.withFpc x).plu = s.plu := rfl
@[simp] theorem State.withFpc_chs (x : Fpc) : (s.withFpc x).chs = s.chs := rfl
@[simp] theorem State.withFpc_fpc (x : Fpc) : (s.withFpc x).fpc = x := rfl
@[simp] theorem State.withFpc_mtr (x : Fpc) : (s.withFpc x).mtr = s.mtr := rfl
@[simp] theorem State.withFpc_bil (x : Fpc) : (s.withFpc x).bil = s.bil := rfl
@[simp] theorem State.withFpc_hpt (x : Fpc) : (s.withFpc x).hpt = s.hpt := rfl
@[simp] theorem State.withFpc_evf (x : Fpc) : (s.withFpc x).evf = s.evf := rfl
@[simp] theorem State.withFpc_pending (x : Fpc) : (s.withFpc x).pending = s.pending := rfl
@[simp] theorem State.withFpc_choices (x : Fpc) : (s.withFpc x).choices = s.choices := rfl

@[simp] theorem State.withMtr_clock (x : Mtr) : (s.withMtr x).clock = s.clock := rfl
@[simp] theorem State.withMtr_slc (x : Mtr) : (s.withMtr x).slc = s.slc := rfl
@[simp] theorem State.withMtr_pvt (x : Mtr) : (s.withMtr x).pvt = s.pvt := rfl
@[simp] theorem State.withMtr_setc (x : Mtr) : (s.withMtr x).setc = s.setc := rfl
@[simp] theorem State.withMtr_fau (x : Mtr) : (s.withMtr x).fau = s.fau := rfl
@[simp] theorem State.withMtr_plu (x : Mtr) : (s.withMtr x).plu = s.plu := rfl
@[simp] theorem State.withMtr_chs (x : Mtr) : (s.withMtr x).chs = s.chs := rfl
@[simp] theorem State.withMtr_fpc (x : Mtr) : (s.withMtr x).fpc = s.fpc := rfl
@[simp] theorem State.withMtr_mtr (x : Mtr) : (s.withMtr x).mtr = x := rfl
@[simp] theorem State.withMtr_bil (x : Mtr) : (s.withMtr x).bil = s.bil := rfl
@[simp] theorem State.withMtr_hpt (x : Mtr) : (s.withMtr x).hpt = s.hpt := rfl
@[simp] theorem State.withMtr_evf (x : Mtr) : (s.withMtr x).evf = s.evf := rfl
@[simp] theorem State.withMtr_pending (x : Mtr) : (s.withMtr x).pending = s.pending := rfl
@[simp] theorem State.withMtr_choices (x : Mtr) : (s.withMtr x).choices = s.choices := rfl

@[simp] theorem State.withBil_clock (x : Bil) : (s.withBil x).clock = s.clock := rfl
@[simp] theorem State.withBil_slc (x : Bil) : (s.withBil x).slc = s.slc := rfl
@[simp] theorem State.withBil_pvt (x : Bil) : (s.withBil x).pvt = s.pvt := rfl
@[simp] theorem State.withBil_setc (x : Bil) : (s.withBil x).setc = s.setc := rfl
@[simp] theorem State.withBil_fau (x : Bil) : (s.withBil x).fau = s.fau := rfl
@[simp] theorem State.withBil_plu (x : Bil) : (s.withBil x).plu = s.plu := rfl
@[simp] theorem State.withBil_chs (x : Bil) : (s.withBil x).chs = s.chs := rfl
@[simp] theorem State.withBil_fpc (x : Bil) : (s.withBil x).fpc = s.fpc := rfl
@[simp] theorem State.withBil_mtr (x : Bil) : (s.withBil x).mtr = s.mtr := rfl
@[simp] theorem State.withBil_bil (x : Bil) : (s.withBil x).bil = x := rfl
@[simp] theorem State.withBil_hpt (x : Bil) : (s.withBil x).hpt = s.hpt := rfl
@[simp] theorem State.withBil_evf (x : Bil) : (s.withBil x).evf = s.evf := rfl
@[simp] theorem State.withBil_pending (x : Bil) : (s.withBil x).pending = s.pending := rfl
@[simp] theorem State.withBil_choices (x : Bil) : (s.withBil x).choices = s.choices := rfl

@[simp] theorem State.withHpt_clock (x : Hpt) : (s.withHpt x).clock = s.clock := rfl
@[simp] theorem State.withHpt_slc (x : Hpt) : (s.withHpt x).slc = s.slc := rfl
@[simp] theorem State.withHpt_pvt (x : Hpt) : (s.withHpt x).pvt = s.pvt := rfl
@[simp] theorem State.withHpt_setc (x : Hpt) : (s.withHpt x).setc = s.setc := rfl
@[simp] theorem State.withHpt_fau (x : Hpt) : (s.withHpt x).fau = s.fau := rfl
@[simp] theorem State.withHpt_plu (x : Hpt) : (s.withHpt x).plu = s.plu := rfl
@[simp] theorem State.withHpt_chs (x : Hpt) : (s.withHpt x).chs = s.chs := rfl
@[simp] theorem State.withHpt_fpc (x : Hpt) : (s.withHpt x).fpc = s.fpc := rfl
@[simp] theorem State.withHpt_mtr (x : Hpt) : (s.withHpt x).mtr = s.mtr := rfl
@[simp] theorem State.withHpt_bil (x : Hpt) : (s.withHpt x).bil = s.bil := rfl
@[simp] theorem State.withHpt_hpt (x : Hpt) : (s.withHpt x).hpt = x := rfl
@[simp] theorem State.withHpt_evf (x : Hpt) : (s.withHpt x).evf = s.evf := rfl
@[simp] theorem State.withHpt_pending (x : Hpt) : (s.withHpt x).pending = s.pending := rfl
@[simp] theorem State.withHpt_choices (x : Hpt) : (s.withHpt x).choices = s.choices := rfl

@[simp] theorem State.withEvf_clock (x : Evf) : (s.withEvf x).clock = s.clock := rfl
@[simp] theorem State.withEvf_slc (x : Evf) : (s.withEvf x).slc = s.slc := rfl
@[simp] theorem State.withEvf_pvt (x : Evf) : (s.withEvf x).pvt = s.pvt := rfl
@[simp] theorem State.withEvf_setc (x : Evf) : (s.withEvf x).setc = s.setc := rfl
@[simp] theorem State.withEvf_fau (x : Evf) : (s.withEvf x).fau = s.fau := rfl
@[simp] theorem State.withEvf_plu (x : Evf) : (s.withEvf x).plu = s.plu := rfl
@[simp] theorem State.withEvf_chs (x : Evf) : (s.withEvf x).chs = s.chs := rfl
@[simp] theorem State.withEvf_fpc (x : Evf) : (s.withEvf x).fpc = s.fpc := rfl
@[simp] theorem State.withEvf_mtr (x : Evf) : (s.withEvf x).mtr = s.mtr := rfl
@[simp] theorem State.withEvf_bil (x : Evf) : (s.withEvf x).bil = s.bil := rfl
@[simp] theorem State.withEvf_hpt (x : Evf) : (s.withEvf x).hpt = s.hpt := rfl
@[simp] theorem State.withEvf_evf (x : Evf) : (s.withEvf x).evf = x := rfl
@[simp] theorem State.withEvf_pending (x : Evf) : (s.withEvf x).pending = s.pending := rfl
@[simp] theorem State.withEvf_choices (x : Evf) : (s.withEvf x).choices = s.choices := rfl

@[simp] theorem State.withPending_clock (x : List Instr) : (s.withPending x).clock = s.clock := rfl
@[simp] theorem State.withPending_slc (x : List Instr) : (s.withPending x).slc = s.slc := rfl
@[simp] theorem State.withPending_pvt (x : List Instr) : (s.withPending x).pvt = s.pvt := rfl
@[simp] theorem State.withPending_setc (x : List Instr) : (s.withPending x).setc = s.setc := rfl
@[simp] theorem State.withPending_fau (x : List Instr) : (s.withPending x).fau = s.fau := rfl
@[simp] theorem State.withPending_plu (x : List Instr) : (s.withPending x).plu = s.plu := rfl
@[simp] theorem State.withPending_chs (x : List Instr) : (s.withPending x).chs = s.chs := rfl
@[simp] theorem State.withPending_fpc (x : List Instr) : (s.withPending x).fpc = s.fpc := rfl
@[simp] theorem State.withPending_mtr (x : List Instr) : (s.withPending x).mtr = s.mtr := rfl
@[simp] theorem State.withPending_bil (x : List Instr) : (s.withPending x).bil = s.bil := rfl
@[simp] theorem State.withPending_hpt (x : List Instr) : (s.withPending x).hpt = s.hpt := rfl
@[simp] theorem State.withPending_evf (x : List Instr) : (s.withPending x).evf = s.evf := rfl
@[simp] theorem State.withPending_pending (x : List Instr) : (s.withPending x).pending = x := rfl
@[simp] theorem State.withPending_choices (x : List Instr) : (s.withPending x).choices = s.choices := rfl

@[simp] theorem State.withChoices_clock (x : Nat) : (s.withChoices x).clock = s.clock := rfl
@[simp] theorem State.withChoices_slc (x : Nat) : (s.withChoices x).slc = s.slc := rfl
@[simp] theorem State.withChoices_pvt (x : Nat) : (s.withChoices x).pvt = s.pvt := rfl
@[simp] theorem State.withChoices_setc (x : Nat) : (s.withChoices x).setc = s.setc := rfl
@[simp] theorem State.withChoices_fau (x : Nat) : (s.withChoices x).fau = s.fau := rfl
@[simp] theorem State.withChoices_plu (x : Nat) : (s.withChoices x).plu = s.plu := rfl
@[simp] theorem State.withChoices_chs (x : Nat) : (s.withChoices x).chs = s.chs := rfl
@[simp] theorem State.withChoices_fpc (x : Nat) : (s.withChoices x).fpc = s.fpc := rfl
@[simp] theorem State.withChoices_mtr (x : Nat) : (s.withChoices x).mtr = s.mtr := rfl
@[simp] theorem State.withChoices_bil (x : Nat) : (s.withChoices x).bil = s.bil := rfl
@[simp] theorem State.withChoices_hpt (x : Nat) : (s.withChoices x).hpt = s.hpt := rfl
@[simp] theorem State.withChoices_evf (x : Nat) : (s.withChoices x).evf = s.evf := rfl
@[simp] theorem State.withChoices_pending (x : Nat) : (s.withChoices x).pending = s.pending := rfl
@[simp] theorem State.withChoices_choices (x : Nat) : (s.withChoices x).choices = x := rfl

end Sys2Proof.Machine
end

