-- ==== Sys2Proof/Laws/Frames.lean ====
section
/-! SUPPORT. What each shared operation leaves unchanged: one lemma per operation, every part of the state
it does not touch, each a rewriting rule. -/

namespace Sys2Proof.Machine

/-! ### Frames compose -/

theorem KeepsAllBut.refl (l : List Part) (s : State) : KeepsAllBut l s s := by
  intro p _; cases p <;> rfl

theorem KeepsAllBut.trans {l : List Part} {s t u : State} (h : KeepsAllBut l s t) (k : KeepsAllBut l t u) :
    KeepsAllBut l s u := by
  intro p hp
  have a := h p hp
  have b := k p hp
  cases p <;> exact Eq.trans b a

theorem KeepsAllBut.mono {l m : List Part} {s t : State} (h : KeepsAllBut l s t) (hm : l ⊆ m) :
    KeepsAllBut m s t := fun p hp => h p fun hl => hp (hm hl)

variable {l : List Part} {s t : State} (h : KeepsAllBut l s t)

include h in
theorem KeepsAllBut.clock (hp : Part.clock ∉ l := by decide) : t.clock = s.clock := h .clock hp
include h in
theorem KeepsAllBut.slc (hp : Part.slc ∉ l := by decide) : t.slc = s.slc := h .slc hp
include h in
theorem KeepsAllBut.pvt (hp : Part.pvt ∉ l := by decide) : t.pvt = s.pvt := h .pvt hp
include h in
theorem KeepsAllBut.setc (hp : Part.setc ∉ l := by decide) : t.setc = s.setc := h .setc hp
include h in
theorem KeepsAllBut.fau (hp : Part.fau ∉ l := by decide) : t.fau = s.fau := h .fau hp
include h in
theorem KeepsAllBut.plu (hp : Part.plu ∉ l := by decide) : t.plu = s.plu := h .plu hp
include h in
theorem KeepsAllBut.chs (hp : Part.chs ∉ l := by decide) : t.chs = s.chs := h .chs hp
include h in
theorem KeepsAllBut.fpc (hp : Part.fpc ∉ l := by decide) : t.fpc = s.fpc := h .fpc hp
include h in
theorem KeepsAllBut.mtr (hp : Part.mtr ∉ l := by decide) : t.mtr = s.mtr := h .mtr hp
include h in
theorem KeepsAllBut.bil (hp : Part.bil ∉ l := by decide) : t.bil = s.bil := h .bil hp
include h in
theorem KeepsAllBut.hpt (hp : Part.hpt ∉ l := by decide) : t.hpt = s.hpt := h .hpt hp
include h in
theorem KeepsAllBut.evf (hp : Part.evf ∉ l := by decide) : t.evf = s.evf := h .evf hp
include h in
theorem KeepsAllBut.pending (hp : Part.pending ∉ l := by decide) : t.pending = s.pending := h .pending hp
include h in
theorem KeepsAllBut.choices (hp : Part.choices ∉ l := by decide) : t.choices = s.choices := h .choices hp

omit h in
/-- A frame from its fourteen equations, each asked only outside the list. -/
theorem keepsAllBut_of (h : (Part.clock ∈ l ∨ t.clock = s.clock) ∧ (Part.slc ∈ l ∨ t.slc = s.slc) ∧ (Part.pvt ∈ l ∨ t.pvt = s.pvt) ∧ (Part.setc ∈ l ∨ t.setc = s.setc) ∧ (Part.fau ∈ l ∨ t.fau = s.fau) ∧ (Part.plu ∈ l ∨ t.plu = s.plu) ∧ (Part.chs ∈ l ∨ t.chs = s.chs) ∧ (Part.fpc ∈ l ∨ t.fpc = s.fpc) ∧ (Part.mtr ∈ l ∨ t.mtr = s.mtr) ∧ (Part.bil ∈ l ∨ t.bil = s.bil) ∧ (Part.hpt ∈ l ∨ t.hpt = s.hpt) ∧ (Part.evf ∈ l ∨ t.evf = s.evf) ∧ (Part.pending ∈ l ∨ t.pending = s.pending) ∧ (Part.choices ∈ l ∨ t.choices = s.choices)) : KeepsAllBut l s t := by
  intro p hp
  obtain ⟨h1, h2, h3, h4, h5, h6, h7, h8, h9, h10, h11, h12, h13, h14⟩ := h
  cases p <;> simp_all [Part.same]


/-- Frames pass through a fold. -/
theorem foldl_keeps {α : Type} {l : List Part} (f : State → α → State) (hf : ∀ s a, KeepsAllBut l s (f s a))
    (xs : List α) (s : State) : KeepsAllBut l s (xs.foldl f s) := by
  induction xs generalizing s with
  | nil => exact KeepsAllBut.refl l s
  | cons x xs ih => exact (hf s x).trans (ih _)

/-! ### Projections of a choice -/

@[simp] theorem ite_clock (c : Prop) [Decidable c] (a b : State) :
    (if c then a else b).clock = if c then a.clock else b.clock := apply_ite State.clock c a b
@[simp] theorem ite_slc (c : Prop) [Decidable c] (a b : State) :
    (if c then a else b).slc = if c then a.slc else b.slc := apply_ite State.slc c a b
@[simp] theorem ite_pvt (c : Prop) [Decidable c] (a b : State) :
    (if c then a else b).pvt = if c then a.pvt else b.pvt := apply_ite State.pvt c a b
@[simp] theorem ite_setc (c : Prop) [Decidable c] (a b : State) :
    (if c then a else b).setc = if c then a.setc else b.setc := apply_ite State.setc c a b
@[simp] theorem ite_fau (c : Prop) [Decidable c] (a b : State) :
    (if c then a else b).fau = if c then a.fau else b.fau := apply_ite State.fau c a b
@[simp] theorem ite_plu (c : Prop) [Decidable c] (a b : State) :
    (if c then a else b).plu = if c then a.plu else b.plu := apply_ite State.plu c a b
@[simp] theorem ite_chs (c : Prop) [Decidable c] (a b : State) :
    (if c then a else b).chs = if c then a.chs else b.chs := apply_ite State.chs c a b
@[simp] theorem ite_fpc (c : Prop) [Decidable c] (a b : State) :
    (if c then a else b).fpc = if c then a.fpc else b.fpc := apply_ite State.fpc c a b
@[simp] theorem ite_mtr (c : Prop) [Decidable c] (a b : State) :
    (if c then a else b).mtr = if c then a.mtr else b.mtr := apply_ite State.mtr c a b
@[simp] theorem ite_bil (c : Prop) [Decidable c] (a b : State) :
    (if c then a else b).bil = if c then a.bil else b.bil := apply_ite State.bil c a b
@[simp] theorem ite_hpt (c : Prop) [Decidable c] (a b : State) :
    (if c then a else b).hpt = if c then a.hpt else b.hpt := apply_ite State.hpt c a b
@[simp] theorem ite_evf (c : Prop) [Decidable c] (a b : State) :
    (if c then a else b).evf = if c then a.evf else b.evf := apply_ite State.evf c a b
@[simp] theorem ite_pending (c : Prop) [Decidable c] (a b : State) :
    (if c then a else b).pending = if c then a.pending else b.pending := apply_ite State.pending c a b
@[simp] theorem ite_choices (c : Prop) [Decidable c] (a b : State) :
    (if c then a else b).choices = if c then a.choices else b.choices := apply_ite State.choices c a b

variable (s : State)

/-! ### The event unit and the response (Machine/Ops.lean) -/

@[simp] theorem testAttn_frame  :
    (testAttn s).clock = s.clock ∧ (testAttn s).slc = s.slc ∧ (testAttn s).pvt = s.pvt ∧
    (testAttn s).setc = s.setc ∧ (testAttn s).fau = s.fau ∧ (testAttn s).plu = s.plu ∧
    (testAttn s).chs = s.chs ∧ (testAttn s).fpc = s.fpc ∧ (testAttn s).mtr = s.mtr ∧
    (testAttn s).bil = s.bil ∧ (testAttn s).hpt = s.hpt ∧ (testAttn s).pending = s.pending ∧
    (testAttn s).choices = s.choices := by simp [testAttn]

@[simp] theorem postEvent_frame (k : EventKind) (u : Subject) (v q : Nat) :
    (postEvent k u v q s).clock = s.clock ∧ (postEvent k u v q s).slc = s.slc ∧
    (postEvent k u v q s).pvt = s.pvt ∧ (postEvent k u v q s).setc = s.setc ∧
    (postEvent k u v q s).fau = s.fau ∧ (postEvent k u v q s).plu = s.plu ∧
    (postEvent k u v q s).chs = s.chs ∧ (postEvent k u v q s).fpc = s.fpc ∧
    (postEvent k u v q s).mtr = s.mtr ∧ (postEvent k u v q s).bil = s.bil ∧
    (postEvent k u v q s).hpt = s.hpt ∧ (postEvent k u v q s).pending = s.pending ∧
    (postEvent k u v q s).choices = s.choices := by simp [postEvent]

@[simp] theorem reportFault_frame (k : FaultKind) (c : List Byte) :
    (reportFault k c s).clock = s.clock ∧ (reportFault k c s).slc = s.slc ∧
    (reportFault k c s).pvt = s.pvt ∧ (reportFault k c s).setc = s.setc ∧
    (reportFault k c s).fau = s.fau ∧ (reportFault k c s).plu = s.plu ∧ (reportFault k c s).chs = s.chs ∧
    (reportFault k c s).fpc = s.fpc ∧ (reportFault k c s).mtr = s.mtr ∧ (reportFault k c s).bil = s.bil ∧
    (reportFault k c s).hpt = s.hpt ∧ (reportFault k c s).pending = s.pending ∧
    (reportFault k c s).choices = s.choices := by
  unfold reportFault; (repeat' split) <;> simp

@[simp] theorem respond_frame (tag : Byte) (st : Status) (b : List Byte) :
    (respond tag st b s).clock = s.clock ∧ (respond tag st b s).slc = s.slc ∧
    (respond tag st b s).pvt = s.pvt ∧ (respond tag st b s).setc = s.setc ∧
    (respond tag st b s).fau = s.fau ∧ (respond tag st b s).plu = s.plu ∧
    (respond tag st b s).chs = s.chs ∧ (respond tag st b s).fpc = s.fpc ∧
    (respond tag st b s).mtr = s.mtr ∧ (respond tag st b s).bil = s.bil ∧
    (respond tag st b s).evf = s.evf ∧ (respond tag st b s).pending = s.pending ∧
    (respond tag st b s).choices = s.choices := by simp [respond]

@[simp] theorem refuse_frame (tag : Byte) (st : Status) :
    (refuse tag st s).clock = s.clock ∧ (refuse tag st s).slc = s.slc ∧ (refuse tag st s).pvt = s.pvt ∧
    (refuse tag st s).setc = s.setc ∧ (refuse tag st s).fau = s.fau ∧ (refuse tag st s).plu = s.plu ∧
    (refuse tag st s).chs = s.chs ∧ (refuse tag st s).fpc = s.fpc ∧ (refuse tag st s).mtr = s.mtr ∧
    (refuse tag st s).bil = s.bil ∧ (refuse tag st s).evf = s.evf ∧
    (refuse tag st s).pending = s.pending ∧ (refuse tag st s).choices = s.choices := by simp [refuse]

@[simp] theorem badField_frame (tag : Byte) (i : Nat) :
    (badField tag i s).clock = s.clock ∧ (badField tag i s).slc = s.slc ∧ (badField tag i s).pvt = s.pvt ∧
    (badField tag i s).setc = s.setc ∧ (badField tag i s).fau = s.fau ∧ (badField tag i s).plu = s.plu ∧
    (badField tag i s).chs = s.chs ∧ (badField tag i s).fpc = s.fpc ∧ (badField tag i s).mtr = s.mtr ∧
    (badField tag i s).bil = s.bil ∧ (badField tag i s).evf = s.evf ∧
    (badField tag i s).pending = s.pending ∧ (badField tag i s).choices = s.choices := by simp [badField]

/-! ### The site link (Machine/SiteLink.lean) -/

@[simp] theorem postDrop_frame (b : Bulletin) (cls : TxClass) (w : DropReason) :
    (postDrop b cls w s).clock = s.clock ∧ (postDrop b cls w s).slc = s.slc ∧
    (postDrop b cls w s).pvt = s.pvt ∧ (postDrop b cls w s).setc = s.setc ∧
    (postDrop b cls w s).fau = s.fau ∧ (postDrop b cls w s).plu = s.plu ∧
    (postDrop b cls w s).chs = s.chs ∧ (postDrop b cls w s).fpc = s.fpc ∧
    (postDrop b cls w s).mtr = s.mtr ∧ (postDrop b cls w s).bil = s.bil ∧
    (postDrop b cls w s).hpt = s.hpt ∧ (postDrop b cls w s).pending = s.pending ∧
    (postDrop b cls w s).choices = s.choices := by simp [postDrop]

@[simp] theorem dropFull_frame (b : Bulletin) (cls : TxClass) :
    (dropFull b cls s).clock = s.clock ∧ (dropFull b cls s).slc = s.slc ∧ (dropFull b cls s).pvt = s.pvt ∧
    (dropFull b cls s).setc = s.setc ∧ (dropFull b cls s).fau = s.fau ∧ (dropFull b cls s).plu = s.plu ∧
    (dropFull b cls s).chs = s.chs ∧ (dropFull b cls s).fpc = s.fpc ∧ (dropFull b cls s).mtr = s.mtr ∧
    (dropFull b cls s).bil = s.bil ∧ (dropFull b cls s).hpt = s.hpt ∧
    (dropFull b cls s).pending = s.pending ∧ (dropFull b cls s).choices = s.choices := by simp [dropFull]

@[simp] theorem offerNew_frame (b : Bulletin) (cls : TxClass) :
    (offerNew b cls s).clock = s.clock ∧ (offerNew b cls s).pvt = s.pvt ∧
    (offerNew b cls s).setc = s.setc ∧ (offerNew b cls s).fau = s.fau ∧ (offerNew b cls s).plu = s.plu ∧
    (offerNew b cls s).chs = s.chs ∧ (offerNew b cls s).fpc = s.fpc ∧ (offerNew b cls s).mtr = s.mtr ∧
    (offerNew b cls s).bil = s.bil ∧ (offerNew b cls s).hpt = s.hpt ∧
    (offerNew b cls s).pending = s.pending ∧ (offerNew b cls s).choices = s.choices := by
  simp only [offerNew]; (repeat' split) <;> simp

@[simp] theorem offer_frame (b : Bulletin) (cls : TxClass) :
    (offer b cls s).clock = s.clock ∧ (offer b cls s).pvt = s.pvt ∧ (offer b cls s).setc = s.setc ∧
    (offer b cls s).fau = s.fau ∧ (offer b cls s).plu = s.plu ∧ (offer b cls s).chs = s.chs ∧
    (offer b cls s).fpc = s.fpc ∧ (offer b cls s).mtr = s.mtr ∧ (offer b cls s).bil = s.bil ∧
    (offer b cls s).hpt = s.hpt ∧ (offer b cls s).pending = s.pending ∧
    (offer b cls s).choices = s.choices := by
  unfold offer; (repeat' split) <;> simp

@[simp] theorem startFrame_frame  :
    (startFrame s).clock = s.clock ∧ (startFrame s).pvt = s.pvt ∧ (startFrame s).setc = s.setc ∧
    (startFrame s).fau = s.fau ∧ (startFrame s).plu = s.plu ∧ (startFrame s).chs = s.chs ∧
    (startFrame s).fpc = s.fpc ∧ (startFrame s).mtr = s.mtr ∧ (startFrame s).bil = s.bil ∧
    (startFrame s).hpt = s.hpt ∧ (startFrame s).evf = s.evf ∧ (startFrame s).pending = s.pending ∧
    (startFrame s).choices = s.choices := by
  unfold startFrame; split <;> simp

@[simp] theorem frameSent_frame  :
    (frameSent s).clock = s.clock ∧ (frameSent s).pvt = s.pvt ∧ (frameSent s).setc = s.setc ∧
    (frameSent s).fau = s.fau ∧ (frameSent s).plu = s.plu ∧ (frameSent s).chs = s.chs ∧
    (frameSent s).fpc = s.fpc ∧ (frameSent s).mtr = s.mtr ∧ (frameSent s).bil = s.bil ∧
    (frameSent s).hpt = s.hpt ∧ (frameSent s).evf = s.evf ∧ (frameSent s).pending = s.pending ∧
    (frameSent s).choices = s.choices := by
  simp only [frameSent]; (repeat' split) <;> simp

@[simp] theorem collide_frame  :
    (collide s).clock = s.clock ∧ (collide s).pvt = s.pvt ∧ (collide s).setc = s.setc ∧
    (collide s).fau = s.fau ∧ (collide s).plu = s.plu ∧ (collide s).chs = s.chs ∧
    (collide s).fpc = s.fpc ∧ (collide s).mtr = s.mtr ∧ (collide s).bil = s.bil ∧
    (collide s).hpt = s.hpt ∧ (collide s).pending = s.pending ∧ (collide s).choices = s.choices := by
  simp only [collide]; (repeat' split) <;> simp

@[simp] theorem endBackoffs_frame  :
    (endBackoffs s).clock = s.clock ∧ (endBackoffs s).pvt = s.pvt ∧ (endBackoffs s).setc = s.setc ∧
    (endBackoffs s).fau = s.fau ∧ (endBackoffs s).plu = s.plu ∧ (endBackoffs s).chs = s.chs ∧
    (endBackoffs s).fpc = s.fpc ∧ (endBackoffs s).mtr = s.mtr ∧ (endBackoffs s).bil = s.bil ∧
    (endBackoffs s).hpt = s.hpt ∧ (endBackoffs s).evf = s.evf ∧ (endBackoffs s).pending = s.pending ∧
    (endBackoffs s).choices = s.choices := by simp [endBackoffs]

@[simp] theorem retryHeld_frame  :
    (retryHeld s).clock = s.clock ∧ (retryHeld s).pvt = s.pvt ∧ (retryHeld s).setc = s.setc ∧
    (retryHeld s).fau = s.fau ∧ (retryHeld s).plu = s.plu ∧ (retryHeld s).chs = s.chs ∧
    (retryHeld s).fpc = s.fpc ∧ (retryHeld s).mtr = s.mtr ∧ (retryHeld s).bil = s.bil ∧
    (retryHeld s).hpt = s.hpt ∧ (retryHeld s).pending = s.pending ∧ (retryHeld s).choices = s.choices := by
  unfold retryHeld; split <;> simp

@[simp] theorem becomeStuck_frame  :
    (becomeStuck s).clock = s.clock ∧ (becomeStuck s).pvt = s.pvt ∧ (becomeStuck s).setc = s.setc ∧
    (becomeStuck s).fau = s.fau ∧ (becomeStuck s).plu = s.plu ∧ (becomeStuck s).chs = s.chs ∧
    (becomeStuck s).fpc = s.fpc ∧ (becomeStuck s).mtr = s.mtr ∧ (becomeStuck s).bil = s.bil ∧
    (becomeStuck s).hpt = s.hpt ∧ (becomeStuck s).pending = s.pending ∧
    (becomeStuck s).choices = s.choices := by simp [becomeStuck]

@[simp] theorem becomeBusy_frame  :
    (becomeBusy s).clock = s.clock ∧ (becomeBusy s).pvt = s.pvt ∧ (becomeBusy s).setc = s.setc ∧
    (becomeBusy s).fau = s.fau ∧ (becomeBusy s).plu = s.plu ∧ (becomeBusy s).chs = s.chs ∧
    (becomeBusy s).fpc = s.fpc ∧ (becomeBusy s).mtr = s.mtr ∧ (becomeBusy s).bil = s.bil ∧
    (becomeBusy s).hpt = s.hpt ∧ (becomeBusy s).evf = s.evf ∧ (becomeBusy s).pending = s.pending ∧
    (becomeBusy s).choices = s.choices := by
  unfold becomeBusy; split <;> simp

@[simp] theorem abandonFrame_frame (h p : List Byte) :
    (abandonFrame h p s).clock = s.clock ∧ (abandonFrame h p s).slc = s.slc ∧
    (abandonFrame h p s).pvt = s.pvt ∧ (abandonFrame h p s).setc = s.setc ∧
    (abandonFrame h p s).fau = s.fau ∧ (abandonFrame h p s).plu = s.plu ∧
    (abandonFrame h p s).chs = s.chs ∧ (abandonFrame h p s).fpc = s.fpc ∧
    (abandonFrame h p s).mtr = s.mtr ∧ (abandonFrame h p s).bil = s.bil ∧
    (abandonFrame h p s).hpt = s.hpt ∧ (abandonFrame h p s).pending = s.pending ∧
    (abandonFrame h p s).choices = s.choices := by simp [abandonFrame]

@[simp] theorem takeHeader_frame (a b c d : Byte) :
    (takeHeader a b c d s).clock = s.clock ∧ (takeHeader a b c d s).pvt = s.pvt ∧
    (takeHeader a b c d s).setc = s.setc ∧ (takeHeader a b c d s).fau = s.fau ∧
    (takeHeader a b c d s).plu = s.plu ∧ (takeHeader a b c d s).chs = s.chs ∧
    (takeHeader a b c d s).fpc = s.fpc ∧ (takeHeader a b c d s).mtr = s.mtr ∧
    (takeHeader a b c d s).bil = s.bil ∧ (takeHeader a b c d s).hpt = s.hpt ∧
    (takeHeader a b c d s).pending = s.pending ∧ (takeHeader a b c d s).choices = s.choices := by
  unfold takeHeader; split <;> simp

@[simp] theorem idleTimeout_frame (l : List Byte) :
    (idleTimeout l s).clock = s.clock ∧ (idleTimeout l s).pvt = s.pvt ∧ (idleTimeout l s).setc = s.setc ∧
    (idleTimeout l s).fau = s.fau ∧ (idleTimeout l s).plu = s.plu ∧ (idleTimeout l s).chs = s.chs ∧
    (idleTimeout l s).fpc = s.fpc ∧ (idleTimeout l s).mtr = s.mtr ∧ (idleTimeout l s).bil = s.bil ∧
    (idleTimeout l s).hpt = s.hpt ∧ (idleTimeout l s).pending = s.pending ∧
    (idleTimeout l s).choices = s.choices := by
  unfold idleTimeout; (repeat' split) <;> simp

/-! ### The peer view's offers (Machine/PeerView.lean) -/

@[simp] theorem offerStatus_frame  :
    (offerStatus s).clock = s.clock ∧ (offerStatus s).setc = s.setc ∧ (offerStatus s).fau = s.fau ∧
    (offerStatus s).plu = s.plu ∧ (offerStatus s).chs = s.chs ∧ (offerStatus s).fpc = s.fpc ∧
    (offerStatus s).mtr = s.mtr ∧ (offerStatus s).bil = s.bil ∧ (offerStatus s).hpt = s.hpt ∧
    (offerStatus s).pending = s.pending ∧ (offerStatus s).choices = s.choices := by
  unfold offerStatus; split <;> simp

@[simp] theorem offerExtra_frame  :
    (offerExtra s).clock = s.clock ∧ (offerExtra s).setc = s.setc ∧ (offerExtra s).fau = s.fau ∧
    (offerExtra s).plu = s.plu ∧ (offerExtra s).chs = s.chs ∧ (offerExtra s).fpc = s.fpc ∧
    (offerExtra s).mtr = s.mtr ∧ (offerExtra s).bil = s.bil ∧ (offerExtra s).hpt = s.hpt ∧
    (offerExtra s).pending = s.pending ∧ (offerExtra s).choices = s.choices := by simp [offerExtra]

@[simp] theorem extraCause_frame  :
    (extraCause s).clock = s.clock ∧ (extraCause s).setc = s.setc ∧ (extraCause s).fau = s.fau ∧
    (extraCause s).plu = s.plu ∧ (extraCause s).chs = s.chs ∧ (extraCause s).fpc = s.fpc ∧
    (extraCause s).mtr = s.mtr ∧ (extraCause s).bil = s.bil ∧ (extraCause s).hpt = s.hpt ∧
    (extraCause s).pending = s.pending ∧ (extraCause s).choices = s.choices := by simp [extraCause]

@[simp] theorem headroomCause_frame  :
    (headroomCause s).clock = s.clock ∧ (headroomCause s).setc = s.setc ∧ (headroomCause s).fau = s.fau ∧
    (headroomCause s).plu = s.plu ∧ (headroomCause s).chs = s.chs ∧ (headroomCause s).fpc = s.fpc ∧
    (headroomCause s).mtr = s.mtr ∧ (headroomCause s).bil = s.bil ∧ (headroomCause s).hpt = s.hpt ∧
    (headroomCause s).pending = s.pending ∧ (headroomCause s).choices = s.choices := by simp [headroomCause]

@[simp] theorem statusTimer_frame  :
    (statusTimer s).clock = s.clock ∧ (statusTimer s).setc = s.setc ∧ (statusTimer s).fau = s.fau ∧
    (statusTimer s).plu = s.plu ∧ (statusTimer s).chs = s.chs ∧ (statusTimer s).fpc = s.fpc ∧
    (statusTimer s).mtr = s.mtr ∧ (statusTimer s).bil = s.bil ∧ (statusTimer s).hpt = s.hpt ∧
    (statusTimer s).pending = s.pending ∧ (statusTimer s).choices = s.choices := by
  simp only [statusTimer]; (repeat' split) <;> simp

@[simp] theorem extraStatusDue_frame  :
    (extraStatusDue s).clock = s.clock ∧ (extraStatusDue s).setc = s.setc ∧
    (extraStatusDue s).fau = s.fau ∧ (extraStatusDue s).plu = s.plu ∧ (extraStatusDue s).chs = s.chs ∧
    (extraStatusDue s).fpc = s.fpc ∧ (extraStatusDue s).mtr = s.mtr ∧ (extraStatusDue s).bil = s.bil ∧
    (extraStatusDue s).hpt = s.hpt ∧ (extraStatusDue s).pending = s.pending ∧
    (extraStatusDue s).choices = s.choices := by simp [extraStatusDue]

/-! ### The Pledge Unit (Machine/Pledge.lean) -/

@[simp] theorem refreshHeadroom_frame  :
    (refreshHeadroom s).clock = s.clock ∧ (refreshHeadroom s).slc = s.slc ∧
    (refreshHeadroom s).pvt = s.pvt ∧ (refreshHeadroom s).setc = s.setc ∧
    (refreshHeadroom s).fau = s.fau ∧ (refreshHeadroom s).chs = s.chs ∧ (refreshHeadroom s).fpc = s.fpc ∧
    (refreshHeadroom s).mtr = s.mtr ∧ (refreshHeadroom s).bil = s.bil ∧ (refreshHeadroom s).hpt = s.hpt ∧
    (refreshHeadroom s).evf = s.evf ∧ (refreshHeadroom s).pending = s.pending ∧
    (refreshHeadroom s).choices = s.choices := by simp [refreshHeadroom]

@[simp] theorem serve_frame (w : WaitEntry) :
    (serve w s).clock = s.clock ∧ (serve w s).pvt = s.pvt ∧ (serve w s).setc = s.setc ∧
    (serve w s).fau = s.fau ∧ (serve w s).chs = s.chs ∧ (serve w s).fpc = s.fpc ∧
    (serve w s).mtr = s.mtr ∧ (serve w s).bil = s.bil ∧ (serve w s).hpt = s.hpt ∧
    (serve w s).pending = s.pending ∧ (serve w s).choices = s.choices := by simp [serve]

@[simp] theorem arbiterRuns_frame (n : Nat) :
    (arbiterRuns n s).clock = s.clock ∧ (arbiterRuns n s).pvt = s.pvt ∧ (arbiterRuns n s).setc = s.setc ∧
    (arbiterRuns n s).fau = s.fau ∧ (arbiterRuns n s).chs = s.chs ∧ (arbiterRuns n s).fpc = s.fpc ∧
    (arbiterRuns n s).mtr = s.mtr ∧ (arbiterRuns n s).bil = s.bil ∧ (arbiterRuns n s).hpt = s.hpt ∧
    (arbiterRuns n s).pending = s.pending ∧ (arbiterRuns n s).choices = s.choices := by
  induction n generalizing s with
  | zero => simp [arbiterRuns]
  | succ n ih => unfold arbiterRuns; (repeat' split) <;> simp [ih]

@[simp] theorem servePledges_frame :
    (servePledges s).clock = s.clock ∧ (servePledges s).pvt = s.pvt ∧ (servePledges s).setc = s.setc ∧
    (servePledges s).fau = s.fau ∧ (servePledges s).chs = s.chs ∧ (servePledges s).fpc = s.fpc ∧
    (servePledges s).mtr = s.mtr ∧ (servePledges s).bil = s.bil ∧ (servePledges s).hpt = s.hpt ∧
    (servePledges s).pending = s.pending ∧ (servePledges s).choices = s.choices := by simp [servePledges]

@[simp] theorem settlePledges_frame  :
    (settlePledges s).clock = s.clock ∧ (settlePledges s).setc = s.setc ∧ (settlePledges s).fau = s.fau ∧
    (settlePledges s).chs = s.chs ∧ (settlePledges s).fpc = s.fpc ∧ (settlePledges s).mtr = s.mtr ∧
    (settlePledges s).bil = s.bil ∧ (settlePledges s).hpt = s.hpt ∧
    (settlePledges s).pending = s.pending ∧ (settlePledges s).choices = s.choices := by simp [settlePledges]

@[simp] theorem announceRevoke_frame (c : ClaimId) (a b : Nat) (w : RevokeCause) :
    (announceRevoke c a b w s).clock = s.clock ∧ (announceRevoke c a b w s).pvt = s.pvt ∧
    (announceRevoke c a b w s).setc = s.setc ∧ (announceRevoke c a b w s).fau = s.fau ∧
    (announceRevoke c a b w s).plu = s.plu ∧ (announceRevoke c a b w s).chs = s.chs ∧
    (announceRevoke c a b w s).fpc = s.fpc ∧ (announceRevoke c a b w s).mtr = s.mtr ∧
    (announceRevoke c a b w s).bil = s.bil ∧ (announceRevoke c a b w s).hpt = s.hpt ∧
    (announceRevoke c a b w s).pending = s.pending ∧ (announceRevoke c a b w s).choices = s.choices := by simp [announceRevoke]

@[simp] theorem dropPledge_frame (c : ClaimId) :
    (dropPledge c s).clock = s.clock ∧ (dropPledge c s).slc = s.slc ∧ (dropPledge c s).pvt = s.pvt ∧
    (dropPledge c s).setc = s.setc ∧ (dropPledge c s).fau = s.fau ∧ (dropPledge c s).chs = s.chs ∧
    (dropPledge c s).fpc = s.fpc ∧ (dropPledge c s).mtr = s.mtr ∧ (dropPledge c s).bil = s.bil ∧
    (dropPledge c s).hpt = s.hpt ∧ (dropPledge c s).evf = s.evf ∧ (dropPledge c s).pending = s.pending ∧
    (dropPledge c s).choices = s.choices := by simp [dropPledge]

@[simp] theorem revokeEntries_frame (l : List PledgeEntry) :
    (revokeEntries l s).clock = s.clock ∧ (revokeEntries l s).pvt = s.pvt ∧
    (revokeEntries l s).setc = s.setc ∧ (revokeEntries l s).fau = s.fau ∧
    (revokeEntries l s).chs = s.chs ∧ (revokeEntries l s).fpc = s.fpc ∧ (revokeEntries l s).mtr = s.mtr ∧
    (revokeEntries l s).bil = s.bil ∧ (revokeEntries l s).hpt = s.hpt ∧
    (revokeEntries l s).pending = s.pending ∧ (revokeEntries l s).choices = s.choices := by
  induction l generalizing s with
  | nil => simp [revokeEntries]
  | cons e l ih => unfold revokeEntries; (repeat' split) <;> simp [ih]

@[simp] theorem derateCheck_frame  :
    (derateCheck s).clock = s.clock ∧ (derateCheck s).pvt = s.pvt ∧ (derateCheck s).setc = s.setc ∧
    (derateCheck s).fau = s.fau ∧ (derateCheck s).chs = s.chs ∧ (derateCheck s).fpc = s.fpc ∧
    (derateCheck s).mtr = s.mtr ∧ (derateCheck s).bil = s.bil ∧ (derateCheck s).hpt = s.hpt ∧
    (derateCheck s).pending = s.pending ∧ (derateCheck s).choices = s.choices := by simp [derateCheck]

@[simp] theorem tripEntries_frame (l : List PledgeEntry) :
    (tripEntries l s).clock = s.clock ∧ (tripEntries l s).pvt = s.pvt ∧ (tripEntries l s).setc = s.setc ∧
    (tripEntries l s).fau = s.fau ∧ (tripEntries l s).chs = s.chs ∧ (tripEntries l s).fpc = s.fpc ∧
    (tripEntries l s).mtr = s.mtr ∧ (tripEntries l s).bil = s.bil ∧ (tripEntries l s).hpt = s.hpt ∧
    (tripEntries l s).pending = s.pending ∧ (tripEntries l s).choices = s.choices := by
  induction l generalizing s with
  | nil => simp [tripEntries]
  | cons e l ih => simp only [tripEntries, ih]; split <;> simp

@[simp] theorem tripNotice_frame  :
    (tripNotice s).clock = s.clock ∧ (tripNotice s).pvt = s.pvt ∧ (tripNotice s).setc = s.setc ∧
    (tripNotice s).fau = s.fau ∧ (tripNotice s).chs = s.chs ∧ (tripNotice s).fpc = s.fpc ∧
    (tripNotice s).mtr = s.mtr ∧ (tripNotice s).bil = s.bil ∧ (tripNotice s).hpt = s.hpt ∧
    (tripNotice s).pending = s.pending ∧ (tripNotice s).choices = s.choices := by simp [tripNotice]

@[simp] theorem derateChange_frame  :
    (derateChange s).clock = s.clock ∧ (derateChange s).setc = s.setc ∧ (derateChange s).fau = s.fau ∧
    (derateChange s).chs = s.chs ∧ (derateChange s).fpc = s.fpc ∧ (derateChange s).mtr = s.mtr ∧
    (derateChange s).bil = s.bil ∧ (derateChange s).hpt = s.hpt ∧ (derateChange s).pending = s.pending ∧
    (derateChange s).choices = s.choices := by simp [derateChange]

@[simp] theorem pledgeSample_frame  :
    (pledgeSample s).clock = s.clock ∧ (pledgeSample s).setc = s.setc ∧ (pledgeSample s).fau = s.fau ∧
    (pledgeSample s).chs = s.chs ∧ (pledgeSample s).fpc = s.fpc ∧ (pledgeSample s).mtr = s.mtr ∧
    (pledgeSample s).bil = s.bil ∧ (pledgeSample s).hpt = s.hpt ∧ (pledgeSample s).pending = s.pending ∧
    (pledgeSample s).choices = s.choices := by simp [pledgeSample]

@[simp] theorem dropWait_frame (c : ClaimId) :
    (dropWait c s).clock = s.clock ∧ (dropWait c s).slc = s.slc ∧ (dropWait c s).pvt = s.pvt ∧
    (dropWait c s).setc = s.setc ∧ (dropWait c s).fau = s.fau ∧ (dropWait c s).chs = s.chs ∧
    (dropWait c s).fpc = s.fpc ∧ (dropWait c s).mtr = s.mtr ∧ (dropWait c s).bil = s.bil ∧
    (dropWait c s).hpt = s.hpt ∧ (dropWait c s).evf = s.evf ∧ (dropWait c s).pending = s.pending ∧
    (dropWait c s).choices = s.choices := by simp [dropWait]

@[simp] theorem changePledge_frame (c : ClaimId) (f : PledgeEntry → PledgeEntry) :
    (changePledge c f s).clock = s.clock ∧ (changePledge c f s).slc = s.slc ∧
    (changePledge c f s).pvt = s.pvt ∧ (changePledge c f s).setc = s.setc ∧
    (changePledge c f s).fau = s.fau ∧ (changePledge c f s).chs = s.chs ∧
    (changePledge c f s).fpc = s.fpc ∧ (changePledge c f s).mtr = s.mtr ∧
    (changePledge c f s).bil = s.bil ∧ (changePledge c f s).hpt = s.hpt ∧
    (changePledge c f s).evf = s.evf ∧ (changePledge c f s).pending = s.pending ∧
    (changePledge c f s).choices = s.choices := by simp [changePledge]

@[simp] theorem takeConfirm_frame (c : ClaimId) (es : List (Nat × Nat)) (b : List Byte) :
    (takeConfirm c es b s).clock = s.clock ∧ (takeConfirm c es b s).setc = s.setc ∧
    (takeConfirm c es b s).fau = s.fau ∧ (takeConfirm c es b s).chs = s.chs ∧
    (takeConfirm c es b s).fpc = s.fpc ∧ (takeConfirm c es b s).mtr = s.mtr ∧
    (takeConfirm c es b s).bil = s.bil ∧ (takeConfirm c es b s).hpt = s.hpt ∧
    (takeConfirm c es b s).pending = s.pending ∧ (takeConfirm c es b s).choices = s.choices := by
  simp only [takeConfirm]; (repeat' split) <;> simp

@[simp] theorem takeRelease_frame (c : ClaimId) (w : ReleaseReason) :
    (takeRelease c w s).clock = s.clock ∧ (takeRelease c w s).setc = s.setc ∧
    (takeRelease c w s).fau = s.fau ∧ (takeRelease c w s).chs = s.chs ∧ (takeRelease c w s).fpc = s.fpc ∧
    (takeRelease c w s).mtr = s.mtr ∧ (takeRelease c w s).bil = s.bil ∧ (takeRelease c w s).hpt = s.hpt ∧
    (takeRelease c w s).pending = s.pending ∧ (takeRelease c w s).choices = s.choices := by
  simp only [takeRelease]; (repeat' split) <;> simp

@[simp] theorem claimExpiry_frame (c : ClaimId) :
    (claimExpiry c s).clock = s.clock ∧ (claimExpiry c s).slc = s.slc ∧ (claimExpiry c s).pvt = s.pvt ∧
    (claimExpiry c s).setc = s.setc ∧ (claimExpiry c s).fau = s.fau ∧ (claimExpiry c s).chs = s.chs ∧
    (claimExpiry c s).fpc = s.fpc ∧ (claimExpiry c s).mtr = s.mtr ∧ (claimExpiry c s).bil = s.bil ∧
    (claimExpiry c s).hpt = s.hpt ∧ (claimExpiry c s).evf = s.evf ∧
    (claimExpiry c s).pending = s.pending ∧ (claimExpiry c s).choices = s.choices := by simp [claimExpiry]

@[simp] theorem pledgeDeadline_frame (c : ClaimId) :
    (pledgeDeadline c s).clock = s.clock ∧ (pledgeDeadline c s).setc = s.setc ∧
    (pledgeDeadline c s).fau = s.fau ∧ (pledgeDeadline c s).chs = s.chs ∧
    (pledgeDeadline c s).fpc = s.fpc ∧ (pledgeDeadline c s).mtr = s.mtr ∧
    (pledgeDeadline c s).bil = s.bil ∧ (pledgeDeadline c s).hpt = s.hpt ∧
    (pledgeDeadline c s).pending = s.pending ∧ (pledgeDeadline c s).choices = s.choices := by
  unfold pledgeDeadline; split <;> simp

@[simp] theorem pledgePeerGone_frame (n : Nat) :
    (pledgePeerGone n s).clock = s.clock ∧ (pledgePeerGone n s).setc = s.setc ∧
    (pledgePeerGone n s).fau = s.fau ∧ (pledgePeerGone n s).chs = s.chs ∧
    (pledgePeerGone n s).fpc = s.fpc ∧ (pledgePeerGone n s).mtr = s.mtr ∧
    (pledgePeerGone n s).bil = s.bil ∧ (pledgePeerGone n s).hpt = s.hpt ∧
    (pledgePeerGone n s).pending = s.pending ∧ (pledgePeerGone n s).choices = s.choices := by simp [pledgePeerGone]

/-! ### The Set Controller (Machine/SetControl.lean) -/

@[simp] theorem askLines_frame (l : Bool × Bool) :
    (askLines l s).clock = s.clock ∧ (askLines l s).slc = s.slc ∧ (askLines l s).pvt = s.pvt ∧
    (askLines l s).setc = s.setc ∧ (askLines l s).fau = s.fau ∧ (askLines l s).plu = s.plu ∧
    (askLines l s).chs = s.chs ∧ (askLines l s).mtr = s.mtr ∧ (askLines l s).bil = s.bil ∧
    (askLines l s).hpt = s.hpt ∧ (askLines l s).evf = s.evf ∧ (askLines l s).pending = s.pending ∧
    (askLines l s).choices = s.choices := by simp [askLines]

@[simp] theorem enterSet_frame (st : SetState) (c : Option SetCause) (b : Bool) :
    (enterSet st c b s).clock = s.clock ∧ (enterSet st c b s).fau = s.fau ∧
    (enterSet st c b s).chs = s.chs ∧ (enterSet st c b s).mtr = s.mtr ∧ (enterSet st c b s).bil = s.bil ∧
    (enterSet st c b s).hpt = s.hpt ∧ (enterSet st c b s).pending = s.pending ∧
    (enterSet st c b s).choices = s.choices := by simp [enterSet]

@[simp] theorem enterOnline_frame  :
    (enterOnline s).clock = s.clock ∧ (enterOnline s).fau = s.fau ∧ (enterOnline s).chs = s.chs ∧
    (enterOnline s).mtr = s.mtr ∧ (enterOnline s).bil = s.bil ∧ (enterOnline s).hpt = s.hpt ∧
    (enterOnline s).pending = s.pending ∧ (enterOnline s).choices = s.choices := by simp [enterOnline]

@[simp] theorem enterSyncing_frame (b : Bool) :
    (enterSyncing b s).clock = s.clock ∧ (enterSyncing b s).fau = s.fau ∧ (enterSyncing b s).chs = s.chs ∧
    (enterSyncing b s).mtr = s.mtr ∧ (enterSyncing b s).bil = s.bil ∧ (enterSyncing b s).hpt = s.hpt ∧
    (enterSyncing b s).pending = s.pending ∧ (enterSyncing b s).choices = s.choices := by simp [enterSyncing]

@[simp] theorem enterWarming_frame  :
    (enterWarming s).clock = s.clock ∧ (enterWarming s).fau = s.fau ∧ (enterWarming s).chs = s.chs ∧
    (enterWarming s).mtr = s.mtr ∧ (enterWarming s).bil = s.bil ∧ (enterWarming s).hpt = s.hpt ∧
    (enterWarming s).pending = s.pending ∧ (enterWarming s).choices = s.choices := by simp [enterWarming]

@[simp] theorem enterCranking_frame  :
    (enterCranking s).clock = s.clock ∧ (enterCranking s).fau = s.fau ∧ (enterCranking s).chs = s.chs ∧
    (enterCranking s).mtr = s.mtr ∧ (enterCranking s).bil = s.bil ∧ (enterCranking s).hpt = s.hpt ∧
    (enterCranking s).pending = s.pending ∧ (enterCranking s).choices = s.choices := by simp [enterCranking]

@[simp] theorem enterUnloading_frame  :
    (enterUnloading s).clock = s.clock ∧ (enterUnloading s).fau = s.fau ∧ (enterUnloading s).chs = s.chs ∧
    (enterUnloading s).mtr = s.mtr ∧ (enterUnloading s).bil = s.bil ∧ (enterUnloading s).hpt = s.hpt ∧
    (enterUnloading s).pending = s.pending ∧ (enterUnloading s).choices = s.choices := by simp [enterUnloading]

@[simp] theorem enterFaulted_frame (c : SetCause) :
    (enterFaulted c s).clock = s.clock ∧ (enterFaulted c s).fau = s.fau ∧ (enterFaulted c s).chs = s.chs ∧
    (enterFaulted c s).mtr = s.mtr ∧ (enterFaulted c s).bil = s.bil ∧ (enterFaulted c s).hpt = s.hpt ∧
    (enterFaulted c s).pending = s.pending ∧ (enterFaulted c s).choices = s.choices := by simp [enterFaulted]

@[simp] theorem enterStopped_frame  :
    (enterStopped s).clock = s.clock ∧ (enterStopped s).fau = s.fau ∧ (enterStopped s).chs = s.chs ∧
    (enterStopped s).mtr = s.mtr ∧ (enterStopped s).bil = s.bil ∧ (enterStopped s).hpt = s.hpt ∧
    (enterStopped s).pending = s.pending ∧ (enterStopped s).choices = s.choices := by simp [enterStopped]

@[simp] theorem announceIntent_frame (k : IntentKind) :
    (announceIntent k s).clock = s.clock ∧ (announceIntent k s).fau = s.fau ∧
    (announceIntent k s).chs = s.chs ∧ (announceIntent k s).mtr = s.mtr ∧
    (announceIntent k s).bil = s.bil ∧ (announceIntent k s).hpt = s.hpt ∧
    (announceIntent k s).pending = s.pending ∧ (announceIntent k s).choices = s.choices := by simp [announceIntent]

@[simp] theorem checkStopped_frame (b : Bool) :
    (checkStopped b s).clock = s.clock ∧ (checkStopped b s).fau = s.fau ∧ (checkStopped b s).chs = s.chs ∧
    (checkStopped b s).mtr = s.mtr ∧ (checkStopped b s).bil = s.bil ∧ (checkStopped b s).hpt = s.hpt ∧
    (checkStopped b s).pending = s.pending ∧ (checkStopped b s).choices = s.choices := by simp [checkStopped]

@[simp] theorem checkOnline_frame  :
    (checkOnline s).clock = s.clock ∧ (checkOnline s).fau = s.fau ∧ (checkOnline s).chs = s.chs ∧
    (checkOnline s).mtr = s.mtr ∧ (checkOnline s).bil = s.bil ∧ (checkOnline s).hpt = s.hpt ∧
    (checkOnline s).pending = s.pending ∧ (checkOnline s).choices = s.choices := by
  simp only [checkOnline]; (repeat' split) <;> simp

@[simp] theorem groupCheck_frame (b : Bool) :
    (groupCheck b s).clock = s.clock ∧ (groupCheck b s).fau = s.fau ∧ (groupCheck b s).chs = s.chs ∧
    (groupCheck b s).mtr = s.mtr ∧ (groupCheck b s).bil = s.bil ∧ (groupCheck b s).hpt = s.hpt ∧
    (groupCheck b s).pending = s.pending ∧ (groupCheck b s).choices = s.choices := by
  unfold groupCheck; (repeat' split) <;> simp

@[simp] theorem takeIntent_frame (n g : Nat) (k : IntentKind) (key : Nat) :
    (takeIntent n g k key s).clock = s.clock ∧ (takeIntent n g k key s).fau = s.fau ∧
    (takeIntent n g k key s).chs = s.chs ∧ (takeIntent n g k key s).mtr = s.mtr ∧
    (takeIntent n g k key s).bil = s.bil ∧ (takeIntent n g k key s).hpt = s.hpt ∧
    (takeIntent n g k key s).pending = s.pending ∧ (takeIntent n g k key s).choices = s.choices := by
  unfold takeIntent; (repeat' split) <;> simp

@[simp] theorem runningChange_frame (b : Bool) :
    (runningChange b s).clock = s.clock ∧ (runningChange b s).fau = s.fau ∧
    (runningChange b s).chs = s.chs ∧ (runningChange b s).mtr = s.mtr ∧ (runningChange b s).bil = s.bil ∧
    (runningChange b s).hpt = s.hpt ∧ (runningChange b s).pending = s.pending ∧
    (runningChange b s).choices = s.choices := by simp [runningChange]

@[simp] theorem breakerChange_frame (b : Bool) :
    (breakerChange b s).clock = s.clock ∧ (breakerChange b s).fau = s.fau ∧
    (breakerChange b s).chs = s.chs ∧ (breakerChange b s).mtr = s.mtr ∧ (breakerChange b s).bil = s.bil ∧
    (breakerChange b s).hpt = s.hpt ∧ (breakerChange b s).pending = s.pending ∧
    (breakerChange b s).choices = s.choices := by
  unfold breakerChange; split <;> simp

@[simp] theorem setFaultChange_frame (b : Bool) :
    (setFaultChange b s).clock = s.clock ∧ (setFaultChange b s).fau = s.fau ∧
    (setFaultChange b s).chs = s.chs ∧ (setFaultChange b s).mtr = s.mtr ∧
    (setFaultChange b s).bil = s.bil ∧ (setFaultChange b s).hpt = s.hpt ∧
    (setFaultChange b s).pending = s.pending ∧ (setFaultChange b s).choices = s.choices := by simp [setFaultChange]

@[simp] theorem crankFailed_frame  :
    (crankFailed s).clock = s.clock ∧ (crankFailed s).fau = s.fau ∧ (crankFailed s).chs = s.chs ∧
    (crankFailed s).mtr = s.mtr ∧ (crankFailed s).bil = s.bil ∧ (crankFailed s).hpt = s.hpt ∧
    (crankFailed s).pending = s.pending ∧ (crankFailed s).choices = s.choices := by simp [crankFailed]

@[simp] theorem changeMode_frame (m : RunMode) :
    (changeMode m s).clock = s.clock ∧ (changeMode m s).fau = s.fau ∧ (changeMode m s).chs = s.chs ∧
    (changeMode m s).mtr = s.mtr ∧ (changeMode m s).bil = s.bil ∧ (changeMode m s).hpt = s.hpt ∧
    (changeMode m s).pending = s.pending ∧ (changeMode m s).choices = s.choices := by
  simp only [changeMode]; (repeat' split) <;> simp

@[simp] theorem runOn_frame (tag : Byte) :
    (runOn tag s).clock = s.clock ∧ (runOn tag s).fau = s.fau ∧ (runOn tag s).chs = s.chs ∧
    (runOn tag s).mtr = s.mtr ∧ (runOn tag s).bil = s.bil ∧ (runOn tag s).pending = s.pending ∧
    (runOn tag s).choices = s.choices := by
  unfold runOn; split <;> simp

@[simp] theorem runOff_frame (tag : Byte) :
    (runOff tag s).clock = s.clock ∧ (runOff tag s).fau = s.fau ∧ (runOff tag s).chs = s.chs ∧
    (runOff tag s).mtr = s.mtr ∧ (runOff tag s).bil = s.bil ∧ (runOff tag s).pending = s.pending ∧
    (runOff tag s).choices = s.choices := by
  unfold runOff; split <;> simp

/-! ### The Fuel Accounting Unit (Machine/Fuel.lean) -/

@[simp] theorem refuelTest_frame (n : Nat) :
    (refuelTest n s).clock = s.clock ∧ (refuelTest n s).slc = s.slc ∧ (refuelTest n s).pvt = s.pvt ∧
    (refuelTest n s).setc = s.setc ∧ (refuelTest n s).plu = s.plu ∧ (refuelTest n s).chs = s.chs ∧
    (refuelTest n s).fpc = s.fpc ∧ (refuelTest n s).mtr = s.mtr ∧ (refuelTest n s).bil = s.bil ∧
    (refuelTest n s).hpt = s.hpt ∧ (refuelTest n s).pending = s.pending ∧
    (refuelTest n s).choices = s.choices := by simp [refuelTest]

@[simp] theorem recomputeFuel_frame  :
    (recomputeFuel s).clock = s.clock ∧ (recomputeFuel s).slc = s.slc ∧ (recomputeFuel s).pvt = s.pvt ∧
    (recomputeFuel s).setc = s.setc ∧ (recomputeFuel s).plu = s.plu ∧ (recomputeFuel s).chs = s.chs ∧
    (recomputeFuel s).fpc = s.fpc ∧ (recomputeFuel s).mtr = s.mtr ∧ (recomputeFuel s).bil = s.bil ∧
    (recomputeFuel s).hpt = s.hpt ∧ (recomputeFuel s).pending = s.pending ∧
    (recomputeFuel s).choices = s.choices := by
  unfold recomputeFuel; split <;> simp

@[simp] theorem burnUnlotted_frame (n : Nat) :
    (burnUnlotted n s).clock = s.clock ∧ (burnUnlotted n s).slc = s.slc ∧ (burnUnlotted n s).pvt = s.pvt ∧
    (burnUnlotted n s).setc = s.setc ∧ (burnUnlotted n s).plu = s.plu ∧ (burnUnlotted n s).chs = s.chs ∧
    (burnUnlotted n s).fpc = s.fpc ∧ (burnUnlotted n s).mtr = s.mtr ∧ (burnUnlotted n s).bil = s.bil ∧
    (burnUnlotted n s).hpt = s.hpt ∧ (burnUnlotted n s).pending = s.pending ∧
    (burnUnlotted n s).choices = s.choices := by
  simp only [burnUnlotted]; (repeat' split) <;> simp

@[simp] theorem burn_frame (n : Nat) :
    (burn n s).clock = s.clock ∧ (burn n s).slc = s.slc ∧ (burn n s).pvt = s.pvt ∧
    (burn n s).setc = s.setc ∧ (burn n s).plu = s.plu ∧ (burn n s).chs = s.chs ∧ (burn n s).fpc = s.fpc ∧
    (burn n s).mtr = s.mtr ∧ (burn n s).bil = s.bil ∧ (burn n s).hpt = s.hpt ∧
    (burn n s).pending = s.pending ∧ (burn n s).choices = s.choices := by simp [burn]

@[simp] theorem fuelSample_frame  :
    (fuelSample s).clock = s.clock ∧ (fuelSample s).slc = s.slc ∧ (fuelSample s).pvt = s.pvt ∧
    (fuelSample s).setc = s.setc ∧ (fuelSample s).plu = s.plu ∧ (fuelSample s).chs = s.chs ∧
    (fuelSample s).fpc = s.fpc ∧ (fuelSample s).mtr = s.mtr ∧ (fuelSample s).bil = s.bil ∧
    (fuelSample s).hpt = s.hpt ∧ (fuelSample s).pending = s.pending ∧ (fuelSample s).choices = s.choices := by
  unfold fuelSample; split <;> simp

@[simp] theorem joinLot_frame (l : Lot) :
    (joinLot l s).clock = s.clock ∧ (joinLot l s).slc = s.slc ∧ (joinLot l s).pvt = s.pvt ∧
    (joinLot l s).setc = s.setc ∧ (joinLot l s).plu = s.plu ∧ (joinLot l s).chs = s.chs ∧
    (joinLot l s).fpc = s.fpc ∧ (joinLot l s).mtr = s.mtr ∧ (joinLot l s).bil = s.bil ∧
    (joinLot l s).hpt = s.hpt ∧ (joinLot l s).pending = s.pending ∧ (joinLot l s).choices = s.choices := by
  simp only [joinLot]; (repeat' split) <;> simp

@[simp] theorem strayPulse_frame (k : Nat) :
    (strayPulse k s).clock = s.clock ∧ (strayPulse k s).slc = s.slc ∧ (strayPulse k s).pvt = s.pvt ∧
    (strayPulse k s).setc = s.setc ∧ (strayPulse k s).plu = s.plu ∧ (strayPulse k s).chs = s.chs ∧
    (strayPulse k s).fpc = s.fpc ∧ (strayPulse k s).mtr = s.mtr ∧ (strayPulse k s).bil = s.bil ∧
    (strayPulse k s).hpt = s.hpt ∧ (strayPulse k s).pending = s.pending ∧
    (strayPulse k s).choices = s.choices := by simp [strayPulse]

@[simp] theorem fuelPulse_frame  :
    (fuelPulse s).clock = s.clock ∧ (fuelPulse s).slc = s.slc ∧ (fuelPulse s).pvt = s.pvt ∧
    (fuelPulse s).setc = s.setc ∧ (fuelPulse s).plu = s.plu ∧ (fuelPulse s).chs = s.chs ∧
    (fuelPulse s).fpc = s.fpc ∧ (fuelPulse s).mtr = s.mtr ∧ (fuelPulse s).bil = s.bil ∧
    (fuelPulse s).hpt = s.hpt ∧ (fuelPulse s).pending = s.pending ∧ (fuelPulse s).choices = s.choices := by
  unfold fuelPulse; split <;> simp

@[simp] theorem closeDelivery_frame (b : Bool) (d : Delivery) (c : FuelConfig) :
    ((closeDelivery b d c s).2).clock = s.clock ∧ ((closeDelivery b d c s).2).setc = s.setc ∧
    ((closeDelivery b d c s).2).chs = s.chs ∧ ((closeDelivery b d c s).2).fpc = s.fpc ∧
    ((closeDelivery b d c s).2).mtr = s.mtr ∧ ((closeDelivery b d c s).2).bil = s.bil ∧
    ((closeDelivery b d c s).2).hpt = s.hpt ∧ ((closeDelivery b d c s).2).pending = s.pending ∧
    ((closeDelivery b d c s).2).choices = s.choices := by simp [closeDelivery]

@[simp] theorem postDiverge_frame (b : Bool) (d : Int) :
    (postDiverge b d s).clock = s.clock ∧ (postDiverge b d s).slc = s.slc ∧
    (postDiverge b d s).pvt = s.pvt ∧ (postDiverge b d s).setc = s.setc ∧
    (postDiverge b d s).fau = s.fau ∧ (postDiverge b d s).plu = s.plu ∧ (postDiverge b d s).chs = s.chs ∧
    (postDiverge b d s).fpc = s.fpc ∧ (postDiverge b d s).mtr = s.mtr ∧ (postDiverge b d s).bil = s.bil ∧
    (postDiverge b d s).hpt = s.hpt ∧ (postDiverge b d s).pending = s.pending ∧
    (postDiverge b d s).choices = s.choices := by simp [postDiverge]

@[simp] theorem compareLevel_frame (n : Nat) (c : FuelConfig) :
    (compareLevel n c s).clock = s.clock ∧ (compareLevel n c s).setc = s.setc ∧
    (compareLevel n c s).chs = s.chs ∧ (compareLevel n c s).fpc = s.fpc ∧
    (compareLevel n c s).mtr = s.mtr ∧ (compareLevel n c s).bil = s.bil ∧
    (compareLevel n c s).hpt = s.hpt ∧ (compareLevel n c s).pending = s.pending ∧
    (compareLevel n c s).choices = s.choices := by
  simp only [compareLevel]; (repeat' split) <;> simp

@[simp] theorem levelCheck_frame  :
    (levelCheck s).clock = s.clock ∧ (levelCheck s).setc = s.setc ∧ (levelCheck s).chs = s.chs ∧
    (levelCheck s).fpc = s.fpc ∧ (levelCheck s).mtr = s.mtr ∧ (levelCheck s).bil = s.bil ∧
    (levelCheck s).hpt = s.hpt ∧ (levelCheck s).pending = s.pending ∧ (levelCheck s).choices = s.choices := by
  unfold levelCheck; (repeat' split) <;> simp

@[simp] theorem applyResync_frame (d : Int) (c : FuelConfig) :
    (applyResync d c s).clock = s.clock ∧ (applyResync d c s).slc = s.slc ∧
    (applyResync d c s).pvt = s.pvt ∧ (applyResync d c s).setc = s.setc ∧
    (applyResync d c s).plu = s.plu ∧ (applyResync d c s).chs = s.chs ∧ (applyResync d c s).fpc = s.fpc ∧
    (applyResync d c s).mtr = s.mtr ∧ (applyResync d c s).bil = s.bil ∧ (applyResync d c s).hpt = s.hpt ∧
    (applyResync d c s).pending = s.pending ∧ (applyResync d c s).choices = s.choices := by simp [applyResync]

@[simp] theorem resync_frame (n : Nat) (c : FuelConfig) :
    ((resync n c s).2).clock = s.clock ∧ ((resync n c s).2).setc = s.setc ∧
    ((resync n c s).2).chs = s.chs ∧ ((resync n c s).2).fpc = s.fpc ∧ ((resync n c s).2).mtr = s.mtr ∧
    ((resync n c s).2).bil = s.bil ∧ ((resync n c s).2).hpt = s.hpt ∧
    ((resync n c s).2).pending = s.pending ∧ ((resync n c s).2).choices = s.choices := by simp [resync]

@[simp] theorem takeHeldPulses_frame (k : Nat) :
    (takeHeldPulses k s).clock = s.clock ∧ (takeHeldPulses k s).slc = s.slc ∧
    (takeHeldPulses k s).pvt = s.pvt ∧ (takeHeldPulses k s).setc = s.setc ∧
    (takeHeldPulses k s).plu = s.plu ∧ (takeHeldPulses k s).chs = s.chs ∧
    (takeHeldPulses k s).mtr = s.mtr ∧ (takeHeldPulses k s).bil = s.bil ∧
    (takeHeldPulses k s).hpt = s.hpt ∧ (takeHeldPulses k s).pending = s.pending ∧
    (takeHeldPulses k s).choices = s.choices := by simp [takeHeldPulses]

@[simp] theorem firstFuelCommit_frame (c : ConfigRecord) :
    (firstFuelCommit c s).clock = s.clock ∧ (firstFuelCommit c s).slc = s.slc ∧
    (firstFuelCommit c s).pvt = s.pvt ∧ (firstFuelCommit c s).setc = s.setc ∧
    (firstFuelCommit c s).plu = s.plu ∧ (firstFuelCommit c s).chs = s.chs ∧
    (firstFuelCommit c s).mtr = s.mtr ∧ (firstFuelCommit c s).bil = s.bil ∧
    (firstFuelCommit c s).hpt = s.hpt ∧ (firstFuelCommit c s).pending = s.pending ∧
    (firstFuelCommit c s).choices = s.choices := by simp [firstFuelCommit]

@[simp] theorem fuelCommit_frame (c : ConfigRecord) :
    (fuelCommit c s).clock = s.clock ∧ (fuelCommit c s).slc = s.slc ∧ (fuelCommit c s).pvt = s.pvt ∧
    (fuelCommit c s).setc = s.setc ∧ (fuelCommit c s).plu = s.plu ∧ (fuelCommit c s).chs = s.chs ∧
    (fuelCommit c s).mtr = s.mtr ∧ (fuelCommit c s).bil = s.bil ∧ (fuelCommit c s).hpt = s.hpt ∧
    (fuelCommit c s).pending = s.pending ∧ (fuelCommit c s).choices = s.choices := by
  unfold fuelCommit; split <;> simp

/-! ### The Metering Unit (Machine/Metering.lean) -/

@[simp] theorem changeChannel_frame (i : Nat) (f : Channel → Channel) :
    (changeChannel i f s).clock = s.clock ∧ (changeChannel i f s).slc = s.slc ∧
    (changeChannel i f s).pvt = s.pvt ∧ (changeChannel i f s).setc = s.setc ∧
    (changeChannel i f s).fau = s.fau ∧ (changeChannel i f s).plu = s.plu ∧
    (changeChannel i f s).chs = s.chs ∧ (changeChannel i f s).fpc = s.fpc ∧
    (changeChannel i f s).bil = s.bil ∧ (changeChannel i f s).hpt = s.hpt ∧
    (changeChannel i f s).evf = s.evf ∧ (changeChannel i f s).pending = s.pending ∧
    (changeChannel i f s).choices = s.choices := by simp [changeChannel]

@[simp] theorem applyRelay_frame (i : Nat) :
    (applyRelay i s).clock = s.clock ∧ (applyRelay i s).slc = s.slc ∧ (applyRelay i s).pvt = s.pvt ∧
    (applyRelay i s).setc = s.setc ∧ (applyRelay i s).fau = s.fau ∧ (applyRelay i s).plu = s.plu ∧
    (applyRelay i s).chs = s.chs ∧ (applyRelay i s).bil = s.bil ∧ (applyRelay i s).hpt = s.hpt ∧
    (applyRelay i s).pending = s.pending ∧ (applyRelay i s).choices = s.choices := by simp [applyRelay]

@[simp] theorem applyRelays_frame (l : List Nat) :
    (applyRelays l s).clock = s.clock ∧ (applyRelays l s).slc = s.slc ∧ (applyRelays l s).pvt = s.pvt ∧
    (applyRelays l s).setc = s.setc ∧ (applyRelays l s).fau = s.fau ∧ (applyRelays l s).plu = s.plu ∧
    (applyRelays l s).chs = s.chs ∧ (applyRelays l s).bil = s.bil ∧ (applyRelays l s).hpt = s.hpt ∧
    (applyRelays l s).pending = s.pending ∧ (applyRelays l s).choices = s.choices := by
  unfold applyRelays
  induction l generalizing s with
  | nil => simp
  | cons i l ih => simp [ih]

@[simp] theorem capacityRequest_frame (b : Bool) (l : List Nat) :
    (capacityRequest b l s).clock = s.clock ∧ (capacityRequest b l s).slc = s.slc ∧
    (capacityRequest b l s).pvt = s.pvt ∧ (capacityRequest b l s).setc = s.setc ∧
    (capacityRequest b l s).fau = s.fau ∧ (capacityRequest b l s).plu = s.plu ∧
    (capacityRequest b l s).chs = s.chs ∧ (capacityRequest b l s).bil = s.bil ∧
    (capacityRequest b l s).hpt = s.hpt ∧ (capacityRequest b l s).pending = s.pending ∧
    (capacityRequest b l s).choices = s.choices := by simp [capacityRequest]

@[simp] theorem clearAllCapacity_frame  :
    (clearAllCapacity s).clock = s.clock ∧ (clearAllCapacity s).slc = s.slc ∧
    (clearAllCapacity s).pvt = s.pvt ∧ (clearAllCapacity s).setc = s.setc ∧
    (clearAllCapacity s).fau = s.fau ∧ (clearAllCapacity s).plu = s.plu ∧
    (clearAllCapacity s).chs = s.chs ∧ (clearAllCapacity s).bil = s.bil ∧
    (clearAllCapacity s).hpt = s.hpt ∧ (clearAllCapacity s).pending = s.pending ∧
    (clearAllCapacity s).choices = s.choices := by simp [clearAllCapacity]

@[simp] theorem reservePending_frame (a t : Nat) :
    (reservePending a t s).clock = s.clock ∧ (reservePending a t s).slc = s.slc ∧
    (reservePending a t s).pvt = s.pvt ∧ (reservePending a t s).setc = s.setc ∧
    (reservePending a t s).fau = s.fau ∧ (reservePending a t s).plu = s.plu ∧
    (reservePending a t s).chs = s.chs ∧ (reservePending a t s).fpc = s.fpc ∧
    (reservePending a t s).bil = s.bil ∧ (reservePending a t s).hpt = s.hpt ∧
    (reservePending a t s).evf = s.evf ∧ (reservePending a t s).pending = s.pending := by simp [reservePending]

@[simp] theorem leavePair_frame (i : Nat) :
    (leavePair i s).clock = s.clock ∧ (leavePair i s).slc = s.slc ∧ (leavePair i s).pvt = s.pvt ∧
    (leavePair i s).setc = s.setc ∧ (leavePair i s).fau = s.fau ∧ (leavePair i s).plu = s.plu ∧
    (leavePair i s).chs = s.chs ∧ (leavePair i s).fpc = s.fpc ∧ (leavePair i s).bil = s.bil ∧
    (leavePair i s).hpt = s.hpt ∧ (leavePair i s).evf = s.evf ∧ (leavePair i s).pending = s.pending ∧
    (leavePair i s).choices = s.choices := by
  unfold leavePair; split <;> simp

@[simp] theorem requestResolve_frame (t k : Nat) :
    (requestResolve t k s).clock = s.clock ∧ (requestResolve t k s).slc = s.slc ∧
    (requestResolve t k s).pvt = s.pvt ∧ (requestResolve t k s).setc = s.setc ∧
    (requestResolve t k s).fau = s.fau ∧ (requestResolve t k s).plu = s.plu ∧
    (requestResolve t k s).chs = s.chs ∧ (requestResolve t k s).fpc = s.fpc ∧
    (requestResolve t k s).bil = s.bil ∧ (requestResolve t k s).hpt = s.hpt ∧
    (requestResolve t k s).pending = s.pending ∧ (requestResolve t k s).choices = s.choices := by simp [requestResolve]

@[simp] theorem changeAccount_frame (i : Nat) (f : Account → Account) :
    (changeAccount i f s).clock = s.clock ∧ (changeAccount i f s).slc = s.slc ∧
    (changeAccount i f s).pvt = s.pvt ∧ (changeAccount i f s).setc = s.setc ∧
    (changeAccount i f s).fau = s.fau ∧ (changeAccount i f s).plu = s.plu ∧
    (changeAccount i f s).chs = s.chs ∧ (changeAccount i f s).fpc = s.fpc ∧
    (changeAccount i f s).mtr = s.mtr ∧ (changeAccount i f s).hpt = s.hpt ∧
    (changeAccount i f s).evf = s.evf ∧ (changeAccount i f s).pending = s.pending ∧
    (changeAccount i f s).choices = s.choices := by simp [changeAccount]

@[simp] theorem becomeOver_frame (i : Nat) :
    (becomeOver i s).clock = s.clock ∧ (becomeOver i s).slc = s.slc ∧ (becomeOver i s).pvt = s.pvt ∧
    (becomeOver i s).setc = s.setc ∧ (becomeOver i s).fau = s.fau ∧ (becomeOver i s).plu = s.plu ∧
    (becomeOver i s).chs = s.chs ∧ (becomeOver i s).fpc = s.fpc ∧ (becomeOver i s).hpt = s.hpt ∧
    (becomeOver i s).pending = s.pending ∧ (becomeOver i s).choices = s.choices := by simp [becomeOver]

@[simp] theorem creditTests_frame (l : List Nat) :
    (creditTests l s).clock = s.clock ∧ (creditTests l s).slc = s.slc ∧ (creditTests l s).pvt = s.pvt ∧
    (creditTests l s).setc = s.setc ∧ (creditTests l s).fau = s.fau ∧ (creditTests l s).plu = s.plu ∧
    (creditTests l s).chs = s.chs ∧ (creditTests l s).hpt = s.hpt ∧
    (creditTests l s).pending = s.pending ∧ (creditTests l s).choices = s.choices := by
  have key : ∀ (is : List Nat) (s : State),
      KeepsAllBut [.mtr, .bil, .evf] s (is.foldl (fun s i => becomeOver i s) s) := by
    intro is
    induction is with
    | nil => intro s; exact KeepsAllBut.refl _ s
    | cons i is ih => intro s; exact (keepsAllBut_of (by simp)).trans (ih _)
  unfold creditTests
  simp [(key _ s).clock, (key _ s).slc, (key _ s).pvt, (key _ s).setc, (key _ s).fau, (key _ s).plu,
    (key _ s).chs, (key _ s).hpt, (key _ s).pending, (key _ s).choices]

@[simp] theorem formGroupCi_frame (g : Nat) :
    (formGroupCi g s).clock = s.clock ∧ (formGroupCi g s).slc = s.slc ∧ (formGroupCi g s).pvt = s.pvt ∧
    (formGroupCi g s).setc = s.setc ∧ (formGroupCi g s).fau = s.fau ∧ (formGroupCi g s).plu = s.plu ∧
    (formGroupCi g s).chs = s.chs ∧ (formGroupCi g s).fpc = s.fpc ∧ (formGroupCi g s).bil = s.bil ∧
    (formGroupCi g s).hpt = s.hpt ∧ (formGroupCi g s).evf = s.evf ∧
    (formGroupCi g s).pending = s.pending ∧ (formGroupCi g s).choices = s.choices := by
  unfold formGroupCi; split <;> simp

@[simp] theorem formGroupCis_frame  :
    (formGroupCis s).clock = s.clock ∧ (formGroupCis s).slc = s.slc ∧ (formGroupCis s).pvt = s.pvt ∧
    (formGroupCis s).setc = s.setc ∧ (formGroupCis s).fau = s.fau ∧ (formGroupCis s).plu = s.plu ∧
    (formGroupCis s).chs = s.chs ∧ (formGroupCis s).fpc = s.fpc ∧ (formGroupCis s).bil = s.bil ∧
    (formGroupCis s).hpt = s.hpt ∧ (formGroupCis s).evf = s.evf ∧ (formGroupCis s).pending = s.pending ∧
    (formGroupCis s).choices = s.choices := by
  have key := foldl_keeps (l := [.mtr]) (fun s g => formGroupCi g s)
    (fun s g => keepsAllBut_of (by simp)) (billingGroups s) s
  unfold formGroupCis
  split
  · simp
  · exact ⟨key.clock, key.slc, key.pvt, key.setc, key.fau, key.plu, key.chs, key.fpc, key.bil, key.hpt,
      key.evf, key.pending, key.choices⟩

@[simp] theorem addPending_frame (a t e : Nat) (r : Rate) :
    (addPending a t e r s).clock = s.clock ∧ (addPending a t e r s).slc = s.slc ∧
    (addPending a t e r s).pvt = s.pvt ∧ (addPending a t e r s).setc = s.setc ∧
    (addPending a t e r s).fau = s.fau ∧ (addPending a t e r s).plu = s.plu ∧
    (addPending a t e r s).chs = s.chs ∧ (addPending a t e r s).fpc = s.fpc ∧
    (addPending a t e r s).bil = s.bil ∧ (addPending a t e r s).hpt = s.hpt ∧
    (addPending a t e r s).evf = s.evf ∧ (addPending a t e r s).pending = s.pending ∧
    (addPending a t e r s).choices = s.choices := by simp [addPending]

@[simp] theorem priceEnergy_frame (a t e : Nat) (r : Rate) :
    (priceEnergy a t e r s).clock = s.clock ∧ (priceEnergy a t e r s).slc = s.slc ∧
    (priceEnergy a t e r s).pvt = s.pvt ∧ (priceEnergy a t e r s).setc = s.setc ∧
    (priceEnergy a t e r s).fau = s.fau ∧ (priceEnergy a t e r s).plu = s.plu ∧
    (priceEnergy a t e r s).chs = s.chs ∧ (priceEnergy a t e r s).fpc = s.fpc ∧
    (priceEnergy a t e r s).hpt = s.hpt ∧ (priceEnergy a t e r s).pending = s.pending ∧
    (priceEnergy a t e r s).choices = s.choices := by
  unfold priceEnergy; split <;> simp

@[simp] theorem chargeChannel_frame (r : Rate) (i : Nat) :
    (chargeChannel r i s).clock = s.clock ∧ (chargeChannel r i s).slc = s.slc ∧
    (chargeChannel r i s).pvt = s.pvt ∧ (chargeChannel r i s).setc = s.setc ∧
    (chargeChannel r i s).fau = s.fau ∧ (chargeChannel r i s).plu = s.plu ∧
    (chargeChannel r i s).chs = s.chs ∧ (chargeChannel r i s).fpc = s.fpc ∧
    (chargeChannel r i s).hpt = s.hpt ∧ (chargeChannel r i s).pending = s.pending ∧
    (chargeChannel r i s).choices = s.choices := by
  simp only [chargeChannel]; (repeat' split) <;> simp

@[simp] theorem chargeSample_frame  :
    (chargeSample s).clock = s.clock ∧ (chargeSample s).slc = s.slc ∧ (chargeSample s).pvt = s.pvt ∧
    (chargeSample s).setc = s.setc ∧ (chargeSample s).fau = s.fau ∧ (chargeSample s).plu = s.plu ∧
    (chargeSample s).chs = s.chs ∧ (chargeSample s).hpt = s.hpt ∧ (chargeSample s).pending = s.pending ∧
    (chargeSample s).choices = s.choices := by
  have key : ∀ r, KeepsAllBut [.mtr, .bil, .evf] (formGroupCis s)
      ((List.range 16).foldl (fun s i => chargeChannel r i s) (formGroupCis s)) := fun r =>
    foldl_keeps _ (fun s i => keepsAllBut_of (by simp)) _ _
  unfold chargeSample
  simp [(key _).clock, (key _).slc, (key _).pvt, (key _).setc, (key _).fau, (key _).plu, (key _).chs,
    (key _).hpt, (key _).pending, (key _).choices]

@[simp] theorem remapChannel_frame (i : Nat) (m : Option (Nat × Nat)) (n : Nat) :
    (remapChannel i m n s).clock = s.clock ∧ (remapChannel i m n s).slc = s.slc ∧
    (remapChannel i m n s).pvt = s.pvt ∧ (remapChannel i m n s).setc = s.setc ∧
    (remapChannel i m n s).fau = s.fau ∧ (remapChannel i m n s).plu = s.plu ∧
    (remapChannel i m n s).chs = s.chs ∧ (remapChannel i m n s).bil = s.bil ∧
    (remapChannel i m n s).hpt = s.hpt ∧ (remapChannel i m n s).pending = s.pending := by
  unfold remapChannel; split <;> simp

@[simp] theorem pricePending_frame (a b : Nat) (p : PendingRec) :
    (pricePending a b p s).clock = s.clock ∧ (pricePending a b p s).slc = s.slc ∧
    (pricePending a b p s).pvt = s.pvt ∧ (pricePending a b p s).setc = s.setc ∧
    (pricePending a b p s).fau = s.fau ∧ (pricePending a b p s).plu = s.plu ∧
    (pricePending a b p s).chs = s.chs ∧ (pricePending a b p s).fpc = s.fpc ∧
    (pricePending a b p s).mtr = s.mtr ∧ (pricePending a b p s).hpt = s.hpt ∧
    (pricePending a b p s).evf = s.evf ∧ (pricePending a b p s).pending = s.pending ∧
    (pricePending a b p s).choices = s.choices := by simp [pricePending]

@[simp] theorem resolveKey_frame (k a b : Nat) :
    (resolveKey k a b s).clock = s.clock ∧ (resolveKey k a b s).slc = s.slc ∧
    (resolveKey k a b s).pvt = s.pvt ∧ (resolveKey k a b s).setc = s.setc ∧
    (resolveKey k a b s).fau = s.fau ∧ (resolveKey k a b s).plu = s.plu ∧
    (resolveKey k a b s).chs = s.chs ∧ (resolveKey k a b s).hpt = s.hpt ∧
    (resolveKey k a b s).pending = s.pending ∧ (resolveKey k a b s).choices = s.choices := by
  have key : ∀ (l : List PendingRec) (s : State), KeepsAllBut [.bil] s
      (l.foldl (fun s p => pricePending a b p s) s) := fun l s =>
    foldl_keeps _ (fun s i => keepsAllBut_of (by simp)) _ _
  unfold resolveKey
  simp [(key _ _).clock, (key _ _).slc, (key _ _).pvt, (key _ _).setc, (key _ _).fau, (key _ _).plu,
    (key _ _).chs, (key _ _).hpt, (key _ _).pending, (key _ _).choices]

@[simp] theorem resolveTimerEnd_frame (t : Nat) :
    (resolveTimerEnd t s).clock = s.clock ∧ (resolveTimerEnd t s).slc = s.slc ∧
    (resolveTimerEnd t s).pvt = s.pvt ∧ (resolveTimerEnd t s).setc = s.setc ∧
    (resolveTimerEnd t s).fau = s.fau ∧ (resolveTimerEnd t s).plu = s.plu ∧
    (resolveTimerEnd t s).chs = s.chs ∧ (resolveTimerEnd t s).fpc = s.fpc ∧
    (resolveTimerEnd t s).bil = s.bil ∧ (resolveTimerEnd t s).hpt = s.hpt ∧
    (resolveTimerEnd t s).pending = s.pending ∧ (resolveTimerEnd t s).choices = s.choices := by
  simp only [resolveTimerEnd]; (repeat' split) <;> simp

/-! ### The Billing Unit (Machine/Billing.lean) -/

@[simp] theorem produce_frame (i : Nat) (b : Bool) (n : Nat) :
    (produce i b n s).clock = s.clock ∧ (produce i b n s).slc = s.slc ∧ (produce i b n s).pvt = s.pvt ∧
    (produce i b n s).setc = s.setc ∧ (produce i b n s).fau = s.fau ∧ (produce i b n s).plu = s.plu ∧
    (produce i b n s).chs = s.chs ∧ (produce i b n s).fpc = s.fpc ∧ (produce i b n s).mtr = s.mtr ∧
    (produce i b n s).hpt = s.hpt ∧ (produce i b n s).evf = s.evf ∧
    (produce i b n s).pending = s.pending ∧ (produce i b n s).choices = s.choices := by simp [produce]

@[simp] theorem serveClosing_frame (i : Nat) (b : Bool) (n k : Nat) :
    (serveClosing i b n k s).clock = s.clock ∧ (serveClosing i b n k s).slc = s.slc ∧
    (serveClosing i b n k s).pvt = s.pvt ∧ (serveClosing i b n k s).setc = s.setc ∧
    (serveClosing i b n k s).fau = s.fau ∧ (serveClosing i b n k s).plu = s.plu ∧
    (serveClosing i b n k s).chs = s.chs ∧ (serveClosing i b n k s).fpc = s.fpc ∧
    (serveClosing i b n k s).mtr = s.mtr ∧ (serveClosing i b n k s).hpt = s.hpt ∧
    (serveClosing i b n k s).evf = s.evf ∧ (serveClosing i b n k s).pending = s.pending ∧
    (serveClosing i b n k s).choices = s.choices := by
  induction k generalizing s with
  | zero => simp [serveClosing]
  | succ k ih => unfold serveClosing; split <;> simp [ih]

@[simp] theorem reportLogFull_frame (i : Nat) :
    (reportLogFull i s).clock = s.clock ∧ (reportLogFull i s).slc = s.slc ∧
    (reportLogFull i s).pvt = s.pvt ∧ (reportLogFull i s).setc = s.setc ∧
    (reportLogFull i s).fau = s.fau ∧ (reportLogFull i s).plu = s.plu ∧ (reportLogFull i s).chs = s.chs ∧
    (reportLogFull i s).fpc = s.fpc ∧ (reportLogFull i s).mtr = s.mtr ∧ (reportLogFull i s).hpt = s.hpt ∧
    (reportLogFull i s).pending = s.pending ∧ (reportLogFull i s).choices = s.choices := by simp [reportLogFull]

@[simp] theorem carryAccount_frame (i : Nat) :
    (carryAccount i s).clock = s.clock ∧ (carryAccount i s).slc = s.slc ∧ (carryAccount i s).pvt = s.pvt ∧
    (carryAccount i s).setc = s.setc ∧ (carryAccount i s).fau = s.fau ∧ (carryAccount i s).plu = s.plu ∧
    (carryAccount i s).chs = s.chs ∧ (carryAccount i s).fpc = s.fpc ∧ (carryAccount i s).mtr = s.mtr ∧
    (carryAccount i s).hpt = s.hpt ∧ (carryAccount i s).pending = s.pending ∧
    (carryAccount i s).choices = s.choices := by simp [carryAccount]

@[simp] theorem closeSlot_frame (b : Bool) (n i : Nat) :
    (closeSlot b n i s).clock = s.clock ∧ (closeSlot b n i s).slc = s.slc ∧
    (closeSlot b n i s).pvt = s.pvt ∧ (closeSlot b n i s).setc = s.setc ∧
    (closeSlot b n i s).fau = s.fau ∧ (closeSlot b n i s).plu = s.plu ∧ (closeSlot b n i s).chs = s.chs ∧
    (closeSlot b n i s).fpc = s.fpc ∧ (closeSlot b n i s).mtr = s.mtr ∧ (closeSlot b n i s).hpt = s.hpt ∧
    (closeSlot b n i s).pending = s.pending ∧ (closeSlot b n i s).choices = s.choices := by simp [closeSlot]

@[simp] theorem closeInterval_frame (b : Bool) (n : Nat) :
    (closeInterval b n s).clock = s.clock ∧ (closeInterval b n s).slc = s.slc ∧
    (closeInterval b n s).pvt = s.pvt ∧ (closeInterval b n s).setc = s.setc ∧
    (closeInterval b n s).fau = s.fau ∧ (closeInterval b n s).plu = s.plu ∧
    (closeInterval b n s).chs = s.chs ∧ (closeInterval b n s).fpc = s.fpc ∧
    (closeInterval b n s).mtr = s.mtr ∧ (closeInterval b n s).hpt = s.hpt ∧
    (closeInterval b n s).pending = s.pending ∧ (closeInterval b n s).choices = s.choices := by
  have key := foldl_keeps (l := [.bil, .evf]) (fun s i => closeSlot b n i s)
    (fun s i => keepsAllBut_of (by simp)) (List.range 64) s
  unfold closeInterval
  simp [key.clock, key.slc, key.pvt, key.setc, key.fau, key.plu, key.chs, key.fpc, key.mtr, key.hpt,
    key.pending, key.choices]

@[simp] theorem intervalBoundary_frame  :
    (intervalBoundary s).clock = s.clock ∧ (intervalBoundary s).slc = s.slc ∧
    (intervalBoundary s).pvt = s.pvt ∧ (intervalBoundary s).setc = s.setc ∧
    (intervalBoundary s).fau = s.fau ∧ (intervalBoundary s).plu = s.plu ∧
    (intervalBoundary s).chs = s.chs ∧ (intervalBoundary s).fpc = s.fpc ∧
    (intervalBoundary s).mtr = s.mtr ∧ (intervalBoundary s).hpt = s.hpt ∧
    (intervalBoundary s).pending = s.pending ∧ (intervalBoundary s).choices = s.choices := by simp [intervalBoundary]

@[simp] theorem timeChange_frame (n : Nat) :
    (timeChange n s).clock = s.clock ∧ (timeChange n s).slc = s.slc ∧ (timeChange n s).pvt = s.pvt ∧
    (timeChange n s).setc = s.setc ∧ (timeChange n s).fau = s.fau ∧ (timeChange n s).plu = s.plu ∧
    (timeChange n s).chs = s.chs ∧ (timeChange n s).fpc = s.fpc ∧ (timeChange n s).mtr = s.mtr ∧
    (timeChange n s).hpt = s.hpt ∧ (timeChange n s).pending = s.pending ∧
    (timeChange n s).choices = s.choices := by simp [timeChange]

@[simp] theorem billingCommit_frame (n : Nat) :
    (billingCommit n s).clock = s.clock ∧ (billingCommit n s).slc = s.slc ∧
    (billingCommit n s).pvt = s.pvt ∧ (billingCommit n s).setc = s.setc ∧
    (billingCommit n s).fau = s.fau ∧ (billingCommit n s).plu = s.plu ∧ (billingCommit n s).chs = s.chs ∧
    (billingCommit n s).fpc = s.fpc ∧ (billingCommit n s).mtr = s.mtr ∧ (billingCommit n s).hpt = s.hpt ∧
    (billingCommit n s).evf = s.evf ∧ (billingCommit n s).pending = s.pending ∧
    (billingCommit n s).choices = s.choices := by simp [billingCommit]

@[simp] theorem returnOpen_frame (i : Nat) :
    (returnOpen i s).clock = s.clock ∧ (returnOpen i s).slc = s.slc ∧ (returnOpen i s).pvt = s.pvt ∧
    (returnOpen i s).setc = s.setc ∧ (returnOpen i s).fau = s.fau ∧ (returnOpen i s).plu = s.plu ∧
    (returnOpen i s).chs = s.chs ∧ (returnOpen i s).hpt = s.hpt ∧ (returnOpen i s).pending = s.pending ∧
    (returnOpen i s).choices = s.choices := by simp [returnOpen]

@[simp] theorem changeLimit_frame (i n : Nat) :
    (changeLimit i n s).clock = s.clock ∧ (changeLimit i n s).slc = s.slc ∧
    (changeLimit i n s).pvt = s.pvt ∧ (changeLimit i n s).setc = s.setc ∧
    (changeLimit i n s).fau = s.fau ∧ (changeLimit i n s).plu = s.plu ∧ (changeLimit i n s).chs = s.chs ∧
    (changeLimit i n s).hpt = s.hpt ∧ (changeLimit i n s).pending = s.pending ∧
    (changeLimit i n s).choices = s.choices := by simp [changeLimit]

@[simp] theorem closeAccount_frame (i : Nat) :
    ((closeAccount i s).2).clock = s.clock ∧ ((closeAccount i s).2).slc = s.slc ∧
    ((closeAccount i s).2).pvt = s.pvt ∧ ((closeAccount i s).2).setc = s.setc ∧
    ((closeAccount i s).2).fau = s.fau ∧ ((closeAccount i s).2).plu = s.plu ∧
    ((closeAccount i s).2).chs = s.chs ∧ ((closeAccount i s).2).fpc = s.fpc ∧
    ((closeAccount i s).2).mtr = s.mtr ∧ ((closeAccount i s).2).hpt = s.hpt ∧
    ((closeAccount i s).2).pending = s.pending ∧ ((closeAccount i s).2).choices = s.choices := by
  simp only [closeAccount]; (repeat' split) <;> simp

@[simp] theorem ackBilling_frame (n : Nat) :
    (ackBilling n s).clock = s.clock ∧ (ackBilling n s).slc = s.slc ∧ (ackBilling n s).pvt = s.pvt ∧
    (ackBilling n s).setc = s.setc ∧ (ackBilling n s).fau = s.fau ∧ (ackBilling n s).plu = s.plu ∧
    (ackBilling n s).chs = s.chs ∧ (ackBilling n s).fpc = s.fpc ∧ (ackBilling n s).mtr = s.mtr ∧
    (ackBilling n s).hpt = s.hpt ∧ (ackBilling n s).evf = s.evf ∧ (ackBilling n s).pending = s.pending ∧
    (ackBilling n s).choices = s.choices := by
  have key : ∀ s : State, KeepsAllBut [.bil] s
      ((List.range 64).foldl (fun s i => serveClosing i false s.siteSec 128 s) s) := fun s =>
    foldl_keeps _ (fun s i => keepsAllBut_of (by simp)) _ _
  unfold ackBilling
  simp [(key _).clock, (key _).slc, (key _).pvt, (key _).setc, (key _).fau, (key _).plu,
    (key _).chs, (key _).fpc, (key _).mtr, (key _).hpt, (key _).evf, (key _).pending, (key _).choices]

/-! ### The Changeover Sequencer (Machine/Changeover.lean) -/

@[simp] theorem askPulse_frame (f : Feeder) (l : PulseLine) :
    (askPulse f l s).clock = s.clock ∧ (askPulse f l s).slc = s.slc ∧ (askPulse f l s).pvt = s.pvt ∧
    (askPulse f l s).setc = s.setc ∧ (askPulse f l s).fau = s.fau ∧ (askPulse f l s).plu = s.plu ∧
    (askPulse f l s).chs = s.chs ∧ (askPulse f l s).mtr = s.mtr ∧ (askPulse f l s).bil = s.bil ∧
    (askPulse f l s).hpt = s.hpt ∧ (askPulse f l s).evf = s.evf ∧ (askPulse f l s).pending = s.pending ∧
    (askPulse f l s).choices = s.choices := by
  unfold askPulse; split <;> simp

@[simp] theorem changeFeeder_frame (f : Feeder) (g : FeederRec → FeederRec) :
    (changeFeeder f g s).clock = s.clock ∧ (changeFeeder f g s).slc = s.slc ∧
    (changeFeeder f g s).pvt = s.pvt ∧ (changeFeeder f g s).setc = s.setc ∧
    (changeFeeder f g s).fau = s.fau ∧ (changeFeeder f g s).plu = s.plu ∧
    (changeFeeder f g s).fpc = s.fpc ∧ (changeFeeder f g s).mtr = s.mtr ∧
    (changeFeeder f g s).bil = s.bil ∧ (changeFeeder f g s).hpt = s.hpt ∧
    (changeFeeder f g s).evf = s.evf ∧ (changeFeeder f g s).pending = s.pending ∧
    (changeFeeder f g s).choices = s.choices := by
  unfold changeFeeder; split <;> simp

@[simp] theorem postContactor_frame (f : Feeder) (c : ContactorCause) :
    (postContactor f c s).clock = s.clock ∧ (postContactor f c s).slc = s.slc ∧
    (postContactor f c s).pvt = s.pvt ∧ (postContactor f c s).setc = s.setc ∧
    (postContactor f c s).fau = s.fau ∧ (postContactor f c s).plu = s.plu ∧
    (postContactor f c s).chs = s.chs ∧ (postContactor f c s).fpc = s.fpc ∧
    (postContactor f c s).mtr = s.mtr ∧ (postContactor f c s).bil = s.bil ∧
    (postContactor f c s).hpt = s.hpt ∧ (postContactor f c s).pending = s.pending ∧
    (postContactor f c s).choices = s.choices := by simp [postContactor]

@[simp] theorem contactorTimeout_frame (f : Feeder) (c : ContactorCause) :
    (contactorTimeout f c s).clock = s.clock ∧ (contactorTimeout f c s).slc = s.slc ∧
    (contactorTimeout f c s).pvt = s.pvt ∧ (contactorTimeout f c s).setc = s.setc ∧
    (contactorTimeout f c s).fau = s.fau ∧ (contactorTimeout f c s).plu = s.plu ∧
    (contactorTimeout f c s).fpc = s.fpc ∧ (contactorTimeout f c s).mtr = s.mtr ∧
    (contactorTimeout f c s).bil = s.bil ∧ (contactorTimeout f c s).hpt = s.hpt ∧
    (contactorTimeout f c s).pending = s.pending ∧ (contactorTimeout f c s).choices = s.choices := by simp [contactorTimeout]

@[simp] theorem makeClaim_frame (f : Feeder) (k : ClaimKind) (c : Nat) (o : ClaimOrigin) (kw : Nat) :
    (makeClaim f k c o kw s).clock = s.clock ∧ (makeClaim f k c o kw s).pvt = s.pvt ∧
    (makeClaim f k c o kw s).setc = s.setc ∧ (makeClaim f k c o kw s).fau = s.fau ∧
    (makeClaim f k c o kw s).plu = s.plu ∧ (makeClaim f k c o kw s).fpc = s.fpc ∧
    (makeClaim f k c o kw s).mtr = s.mtr ∧ (makeClaim f k c o kw s).bil = s.bil ∧
    (makeClaim f k c o kw s).hpt = s.hpt ∧ (makeClaim f k c o kw s).pending = s.pending ∧
    (makeClaim f k c o kw s).choices = s.choices := by simp [makeClaim]

@[simp] theorem endClaim_frame (w : ReleaseReason) :
    (endClaim w s).clock = s.clock ∧ (endClaim w s).pvt = s.pvt ∧ (endClaim w s).setc = s.setc ∧
    (endClaim w s).fau = s.fau ∧ (endClaim w s).plu = s.plu ∧ (endClaim w s).fpc = s.fpc ∧
    (endClaim w s).mtr = s.mtr ∧ (endClaim w s).bil = s.bil ∧ (endClaim w s).hpt = s.hpt ∧
    (endClaim w s).pending = s.pending ∧ (endClaim w s).choices = s.choices := by
  unfold endClaim; split <;> simp

@[simp] theorem failClaim_frame (w : ReleaseReason) (r : FailReason) :
    (failClaim w r s).clock = s.clock ∧ (failClaim w r s).pvt = s.pvt ∧ (failClaim w r s).setc = s.setc ∧
    (failClaim w r s).fau = s.fau ∧ (failClaim w r s).plu = s.plu ∧ (failClaim w r s).fpc = s.fpc ∧
    (failClaim w r s).mtr = s.mtr ∧ (failClaim w r s).bil = s.bil ∧ (failClaim w r s).hpt = s.hpt ∧
    (failClaim w r s).pending = s.pending ∧ (failClaim w r s).choices = s.choices := by
  unfold failClaim; split <;> simp

@[simp] theorem buildConfirm_frame (c : ClaimRec) :
    (buildConfirm c s).clock = s.clock ∧ (buildConfirm c s).pvt = s.pvt ∧
    (buildConfirm c s).setc = s.setc ∧ (buildConfirm c s).fau = s.fau ∧ (buildConfirm c s).plu = s.plu ∧
    (buildConfirm c s).fpc = s.fpc ∧ (buildConfirm c s).mtr = s.mtr ∧ (buildConfirm c s).bil = s.bil ∧
    (buildConfirm c s).hpt = s.hpt ∧ (buildConfirm c s).pending = s.pending ∧
    (buildConfirm c s).choices = s.choices := by simp [buildConfirm]

@[simp] theorem shedCapacity_frame (c : ClaimRec) :
    (shedCapacity c s).clock = s.clock ∧ (shedCapacity c s).slc = s.slc ∧ (shedCapacity c s).pvt = s.pvt ∧
    (shedCapacity c s).setc = s.setc ∧ (shedCapacity c s).fau = s.fau ∧ (shedCapacity c s).plu = s.plu ∧
    (shedCapacity c s).bil = s.bil ∧ (shedCapacity c s).hpt = s.hpt ∧
    (shedCapacity c s).pending = s.pending ∧ (shedCapacity c s).choices = s.choices := by simp [shedCapacity]

@[simp] theorem collect_frame (c : ClaimRec) :
    (collect c s).clock = s.clock ∧ (collect c s).pvt = s.pvt ∧ (collect c s).setc = s.setc ∧
    (collect c s).fau = s.fau ∧ (collect c s).plu = s.plu ∧ (collect c s).bil = s.bil ∧
    (collect c s).hpt = s.hpt ∧ (collect c s).pending = s.pending ∧ (collect c s).choices = s.choices := by simp [collect]

@[simp] theorem setBoard_frame (b : BoardState) :
    (setBoard b s).clock = s.clock ∧ (setBoard b s).setc = s.setc ∧ (setBoard b s).fau = s.fau ∧
    (setBoard b s).plu = s.plu ∧ (setBoard b s).fpc = s.fpc ∧ (setBoard b s).mtr = s.mtr ∧
    (setBoard b s).bil = s.bil ∧ (setBoard b s).hpt = s.hpt ∧ (setBoard b s).pending = s.pending ∧
    (setBoard b s).choices = s.choices := by simp [setBoard]

@[simp] theorem enterDark_frame  :
    (enterDark s).clock = s.clock ∧ (enterDark s).setc = s.setc ∧ (enterDark s).fau = s.fau ∧
    (enterDark s).plu = s.plu ∧ (enterDark s).fpc = s.fpc ∧ (enterDark s).mtr = s.mtr ∧
    (enterDark s).bil = s.bil ∧ (enterDark s).hpt = s.hpt ∧ (enterDark s).pending = s.pending ∧
    (enterDark s).choices = s.choices := by simp [enterDark]

@[simp] theorem enterIsolated_frame (c : IsolateCause) :
    (enterIsolated c s).clock = s.clock ∧ (enterIsolated c s).setc = s.setc ∧
    (enterIsolated c s).fau = s.fau ∧ (enterIsolated c s).plu = s.plu ∧ (enterIsolated c s).fpc = s.fpc ∧
    (enterIsolated c s).mtr = s.mtr ∧ (enterIsolated c s).bil = s.bil ∧ (enterIsolated c s).hpt = s.hpt ∧
    (enterIsolated c s).pending = s.pending ∧ (enterIsolated c s).choices = s.choices := by simp [enterIsolated]

@[simp] theorem welded_frame (f : Feeder) :
    (welded f s).clock = s.clock ∧ (welded f s).setc = s.setc ∧ (welded f s).fau = s.fau ∧
    (welded f s).plu = s.plu ∧ (welded f s).fpc = s.fpc ∧ (welded f s).mtr = s.mtr ∧
    (welded f s).bil = s.bil ∧ (welded f s).hpt = s.hpt ∧ (welded f s).pending = s.pending ∧
    (welded f s).choices = s.choices := by
  simp only [welded]; (repeat' split) <;> simp

@[simp] theorem enterDead_frame  :
    (enterDead s).clock = s.clock ∧ (enterDead s).setc = s.setc ∧ (enterDead s).fau = s.fau ∧
    (enterDead s).plu = s.plu ∧ (enterDead s).fpc = s.fpc ∧ (enterDead s).mtr = s.mtr ∧
    (enterDead s).bil = s.bil ∧ (enterDead s).hpt = s.hpt ∧ (enterDead s).pending = s.pending ∧
    (enterDead s).choices = s.choices := by simp [enterDead]

@[simp] theorem pulseOpen_frame (f : Feeder) :
    (pulseOpen f s).clock = s.clock ∧ (pulseOpen f s).slc = s.slc ∧ (pulseOpen f s).pvt = s.pvt ∧
    (pulseOpen f s).setc = s.setc ∧ (pulseOpen f s).fau = s.fau ∧ (pulseOpen f s).plu = s.plu ∧
    (pulseOpen f s).mtr = s.mtr ∧ (pulseOpen f s).bil = s.bil ∧ (pulseOpen f s).hpt = s.hpt ∧
    (pulseOpen f s).evf = s.evf ∧ (pulseOpen f s).pending = s.pending ∧
    (pulseOpen f s).choices = s.choices := by simp [pulseOpen]

@[simp] theorem leaveForced_frame (f : Feeder) :
    (leaveForced f s).clock = s.clock ∧ (leaveForced f s).setc = s.setc ∧ (leaveForced f s).fau = s.fau ∧
    (leaveForced f s).plu = s.plu ∧ (leaveForced f s).fpc = s.fpc ∧ (leaveForced f s).mtr = s.mtr ∧
    (leaveForced f s).bil = s.bil ∧ (leaveForced f s).hpt = s.hpt ∧
    (leaveForced f s).pending = s.pending ∧ (leaveForced f s).choices = s.choices := by simp [leaveForced]

@[simp] theorem forcedMade_frame  :
    (forcedMade s).clock = s.clock ∧ (forcedMade s).setc = s.setc ∧ (forcedMade s).fau = s.fau ∧
    (forcedMade s).plu = s.plu ∧ (forcedMade s).bil = s.bil ∧ (forcedMade s).hpt = s.hpt ∧
    (forcedMade s).pending = s.pending ∧ (forcedMade s).choices = s.choices := by
  unfold forcedMade; split <;> simp

@[simp] theorem forcedChangeover_frame (f : Feeder) :
    (forcedChangeover f s).clock = s.clock ∧ (forcedChangeover f s).setc = s.setc ∧
    (forcedChangeover f s).fau = s.fau ∧ (forcedChangeover f s).plu = s.plu ∧
    (forcedChangeover f s).bil = s.bil ∧ (forcedChangeover f s).hpt = s.hpt ∧
    (forcedChangeover f s).pending = s.pending ∧ (forcedChangeover f s).choices = s.choices := by simp [forcedChangeover]

@[simp] theorem startTopup_frame  :
    (startTopup s).clock = s.clock ∧ (startTopup s).slc = s.slc ∧ (startTopup s).pvt = s.pvt ∧
    (startTopup s).setc = s.setc ∧ (startTopup s).fau = s.fau ∧ (startTopup s).plu = s.plu ∧
    (startTopup s).fpc = s.fpc ∧ (startTopup s).mtr = s.mtr ∧ (startTopup s).bil = s.bil ∧
    (startTopup s).hpt = s.hpt ∧ (startTopup s).evf = s.evf ∧ (startTopup s).pending = s.pending ∧
    (startTopup s).choices = s.choices := by simp [startTopup]

@[simp] theorem enterSettled_frame (f : Feeder) (b : Bool) :
    (enterSettled f b s).clock = s.clock ∧ (enterSettled f b s).setc = s.setc ∧
    (enterSettled f b s).fau = s.fau ∧ (enterSettled f b s).plu = s.plu ∧
    (enterSettled f b s).bil = s.bil ∧ (enterSettled f b s).hpt = s.hpt ∧
    (enterSettled f b s).pending = s.pending ∧ (enterSettled f b s).choices = s.choices := by simp [enterSettled]

@[simp] theorem closure_frame (c : ClaimRec) :
    (closure c s).clock = s.clock ∧ (closure c s).setc = s.setc ∧ (closure c s).fau = s.fau ∧
    (closure c s).plu = s.plu ∧ (closure c s).bil = s.bil ∧ (closure c s).hpt = s.hpt ∧
    (closure c s).pending = s.pending ∧ (closure c s).choices = s.choices := by simp [closure]

@[simp] theorem blockClose_frame  :
    (blockClose s).clock = s.clock ∧ (blockClose s).setc = s.setc ∧ (blockClose s).fau = s.fau ∧
    (blockClose s).plu = s.plu ∧ (blockClose s).fpc = s.fpc ∧ (blockClose s).mtr = s.mtr ∧
    (blockClose s).bil = s.bil ∧ (blockClose s).hpt = s.hpt ∧ (blockClose s).pending = s.pending ∧
    (blockClose s).choices = s.choices := by simp [blockClose]

@[simp] theorem pulseClose_frame (f : Feeder) :
    (pulseClose f s).clock = s.clock ∧ (pulseClose f s).slc = s.slc ∧ (pulseClose f s).pvt = s.pvt ∧
    (pulseClose f s).setc = s.setc ∧ (pulseClose f s).fau = s.fau ∧ (pulseClose f s).plu = s.plu ∧
    (pulseClose f s).mtr = s.mtr ∧ (pulseClose f s).bil = s.bil ∧ (pulseClose f s).hpt = s.hpt ∧
    (pulseClose f s).evf = s.evf ∧ (pulseClose f s).pending = s.pending ∧
    (pulseClose f s).choices = s.choices := by simp [pulseClose]

@[simp] theorem enterClosing_frame (c : ClaimRec) :
    (enterClosing c s).clock = s.clock ∧ (enterClosing c s).setc = s.setc ∧
    (enterClosing c s).fau = s.fau ∧ (enterClosing c s).plu = s.plu ∧ (enterClosing c s).bil = s.bil ∧
    (enterClosing c s).hpt = s.hpt ∧ (enterClosing c s).pending = s.pending ∧
    (enterClosing c s).choices = s.choices := by simp [enterClosing]

@[simp] theorem fallbackDone_frame (c : ClaimRec) :
    (fallbackDone c s).clock = s.clock ∧ (fallbackDone c s).setc = s.setc ∧
    (fallbackDone c s).fau = s.fau ∧ (fallbackDone c s).plu = s.plu ∧ (fallbackDone c s).bil = s.bil ∧
    (fallbackDone c s).hpt = s.hpt ∧ (fallbackDone c s).pending = s.pending ∧
    (fallbackDone c s).choices = s.choices := by simp [fallbackDone]

@[simp] theorem fallbackFailed_frame  :
    (fallbackFailed s).clock = s.clock ∧ (fallbackFailed s).setc = s.setc ∧
    (fallbackFailed s).fau = s.fau ∧ (fallbackFailed s).plu = s.plu ∧ (fallbackFailed s).bil = s.bil ∧
    (fallbackFailed s).hpt = s.hpt ∧ (fallbackFailed s).pending = s.pending ∧
    (fallbackFailed s).choices = s.choices := by simp [fallbackFailed]

@[simp] theorem enterFallback_frame (r : FailReason) (c : ClaimRec) :
    (enterFallback r c s).clock = s.clock ∧ (enterFallback r c s).setc = s.setc ∧
    (enterFallback r c s).fau = s.fau ∧ (enterFallback r c s).plu = s.plu ∧
    (enterFallback r c s).bil = s.bil ∧ (enterFallback r c s).hpt = s.hpt ∧
    (enterFallback r c s).pending = s.pending ∧ (enterFallback r c s).choices = s.choices := by simp [enterFallback]

@[simp] theorem enterOpening_frame (c : ClaimRec) :
    (enterOpening c s).clock = s.clock ∧ (enterOpening c s).setc = s.setc ∧
    (enterOpening c s).fau = s.fau ∧ (enterOpening c s).plu = s.plu ∧ (enterOpening c s).bil = s.bil ∧
    (enterOpening c s).hpt = s.hpt ∧ (enterOpening c s).pending = s.pending ∧
    (enterOpening c s).choices = s.choices := by simp [enterOpening]

@[simp] theorem leaveReturn_frame (c : ClaimRec) :
    (leaveReturn c s).clock = s.clock ∧ (leaveReturn c s).setc = s.setc ∧ (leaveReturn c s).fau = s.fau ∧
    (leaveReturn c s).plu = s.plu ∧ (leaveReturn c s).bil = s.bil ∧ (leaveReturn c s).hpt = s.hpt ∧
    (leaveReturn c s).pending = s.pending ∧ (leaveReturn c s).choices = s.choices := by simp [leaveReturn]

@[simp] theorem leaveTopup_frame (c : ClaimRec) :
    (leaveTopup c s).clock = s.clock ∧ (leaveTopup c s).setc = s.setc ∧ (leaveTopup c s).fau = s.fau ∧
    (leaveTopup c s).plu = s.plu ∧ (leaveTopup c s).bil = s.bil ∧ (leaveTopup c s).hpt = s.hpt ∧
    (leaveTopup c s).pending = s.pending ∧ (leaveTopup c s).choices = s.choices := by
  unfold leaveTopup; split <;> simp

@[simp] theorem confirmClaim_frame (c : ClaimRec) :
    (confirmClaim c s).clock = s.clock ∧ (confirmClaim c s).setc = s.setc ∧
    (confirmClaim c s).fau = s.fau ∧ (confirmClaim c s).plu = s.plu ∧ (confirmClaim c s).bil = s.bil ∧
    (confirmClaim c s).hpt = s.hpt ∧ (confirmClaim c s).pending = s.pending ∧
    (confirmClaim c s).choices = s.choices := by
  unfold confirmClaim; split <;> simp

@[simp] theorem takePledge_frame (a b c d : Nat) :
    (takePledge a b c d s).clock = s.clock ∧ (takePledge a b c d s).setc = s.setc ∧
    (takePledge a b c d s).fau = s.fau ∧ (takePledge a b c d s).plu = s.plu ∧
    (takePledge a b c d s).bil = s.bil ∧ (takePledge a b c d s).hpt = s.hpt ∧
    (takePledge a b c d s).pending = s.pending ∧ (takePledge a b c d s).choices = s.choices := by
  unfold takePledge; (repeat' split) <;> simp

@[simp] theorem takeRevoke_frame (a b c d e : Nat) :
    (takeRevoke a b c d e s).clock = s.clock ∧ (takeRevoke a b c d e s).slc = s.slc ∧
    (takeRevoke a b c d e s).pvt = s.pvt ∧ (takeRevoke a b c d e s).setc = s.setc ∧
    (takeRevoke a b c d e s).fau = s.fau ∧ (takeRevoke a b c d e s).plu = s.plu ∧
    (takeRevoke a b c d e s).fpc = s.fpc ∧ (takeRevoke a b c d e s).mtr = s.mtr ∧
    (takeRevoke a b c d e s).bil = s.bil ∧ (takeRevoke a b c d e s).hpt = s.hpt ∧
    (takeRevoke a b c d e s).pending = s.pending ∧ (takeRevoke a b c d e s).choices = s.choices := by
  unfold takeRevoke; split <;> simp

@[simp] theorem boardPeerGone_frame (n : Nat) :
    (boardPeerGone n s).clock = s.clock ∧ (boardPeerGone n s).slc = s.slc ∧
    (boardPeerGone n s).pvt = s.pvt ∧ (boardPeerGone n s).setc = s.setc ∧
    (boardPeerGone n s).fau = s.fau ∧ (boardPeerGone n s).plu = s.plu ∧ (boardPeerGone n s).fpc = s.fpc ∧
    (boardPeerGone n s).mtr = s.mtr ∧ (boardPeerGone n s).bil = s.bil ∧ (boardPeerGone n s).hpt = s.hpt ∧
    (boardPeerGone n s).evf = s.evf ∧ (boardPeerGone n s).pending = s.pending ∧
    (boardPeerGone n s).choices = s.choices := by simp [boardPeerGone]

@[simp] theorem muteBoard_frame  :
    (muteBoard s).clock = s.clock ∧ (muteBoard s).setc = s.setc ∧ (muteBoard s).fau = s.fau ∧
    (muteBoard s).plu = s.plu ∧ (muteBoard s).bil = s.bil ∧ (muteBoard s).hpt = s.hpt ∧
    (muteBoard s).pending = s.pending ∧ (muteBoard s).choices = s.choices := by
  unfold muteBoard; split <;> simp

@[simp] theorem feedbackConflict_frame  :
    (feedbackConflict s).clock = s.clock ∧ (feedbackConflict s).setc = s.setc ∧
    (feedbackConflict s).fau = s.fau ∧ (feedbackConflict s).plu = s.plu ∧
    (feedbackConflict s).fpc = s.fpc ∧ (feedbackConflict s).mtr = s.mtr ∧
    (feedbackConflict s).bil = s.bil ∧ (feedbackConflict s).hpt = s.hpt ∧
    (feedbackConflict s).pending = s.pending ∧ (feedbackConflict s).choices = s.choices := by simp [feedbackConflict]

@[simp] theorem uncommandedOpen_frame (f : Feeder) :
    (uncommandedOpen f s).clock = s.clock ∧ (uncommandedOpen f s).setc = s.setc ∧
    (uncommandedOpen f s).fau = s.fau ∧ (uncommandedOpen f s).plu = s.plu ∧
    (uncommandedOpen f s).fpc = s.fpc ∧ (uncommandedOpen f s).mtr = s.mtr ∧
    (uncommandedOpen f s).bil = s.bil ∧ (uncommandedOpen f s).hpt = s.hpt ∧
    (uncommandedOpen f s).pending = s.pending ∧ (uncommandedOpen f s).choices = s.choices := by
  simp only [uncommandedOpen]; (repeat' split) <;> simp

@[simp] theorem closedByHand_frame (f : Feeder) :
    (closedByHand f s).clock = s.clock ∧ (closedByHand f s).setc = s.setc ∧
    (closedByHand f s).fau = s.fau ∧ (closedByHand f s).plu = s.plu ∧ (closedByHand f s).bil = s.bil ∧
    (closedByHand f s).hpt = s.hpt ∧ (closedByHand f s).pending = s.pending ∧
    (closedByHand f s).choices = s.choices := by simp [closedByHand]

@[simp] theorem positionChange_frame (f : Feeder) (b : Bool) :
    (positionChange f b s).clock = s.clock ∧ (positionChange f b s).setc = s.setc ∧
    (positionChange f b s).fau = s.fau ∧ (positionChange f b s).plu = s.plu ∧
    (positionChange f b s).bil = s.bil ∧ (positionChange f b s).hpt = s.hpt ∧
    (positionChange f b s).pending = s.pending ∧ (positionChange f b s).choices = s.choices := by
  unfold positionChange; (repeat' split) <;> simp

@[simp] theorem boardSample_frame  :
    (boardSample s).clock = s.clock ∧ (boardSample s).slc = s.slc ∧ (boardSample s).pvt = s.pvt ∧
    (boardSample s).setc = s.setc ∧ (boardSample s).fau = s.fau ∧ (boardSample s).plu = s.plu ∧
    (boardSample s).fpc = s.fpc ∧ (boardSample s).mtr = s.mtr ∧ (boardSample s).bil = s.bil ∧
    (boardSample s).hpt = s.hpt ∧ (boardSample s).evf = s.evf ∧ (boardSample s).pending = s.pending ∧
    (boardSample s).choices = s.choices := by simp [boardSample]

@[simp] theorem deriveBoard_frame (c : ConfigRecord) :
    (deriveBoard c s).clock = s.clock ∧ (deriveBoard c s).setc = s.setc ∧ (deriveBoard c s).fau = s.fau ∧
    (deriveBoard c s).plu = s.plu ∧ (deriveBoard c s).fpc = s.fpc ∧ (deriveBoard c s).mtr = s.mtr ∧
    (deriveBoard c s).bil = s.bil ∧ (deriveBoard c s).hpt = s.hpt ∧
    (deriveBoard c s).pending = s.pending ∧ (deriveBoard c s).choices = s.choices := by
  simp only [deriveBoard]; (repeat' split) <;> simp

@[simp] theorem convertClaim_frame (c : ClaimRec) (f : Feeder) :
    (convertClaim c f s).clock = s.clock ∧ (convertClaim c f s).slc = s.slc ∧
    (convertClaim c f s).pvt = s.pvt ∧ (convertClaim c f s).setc = s.setc ∧
    (convertClaim c f s).fau = s.fau ∧ (convertClaim c f s).plu = s.plu ∧
    (convertClaim c f s).mtr = s.mtr ∧ (convertClaim c f s).bil = s.bil ∧
    (convertClaim c f s).hpt = s.hpt ∧ (convertClaim c f s).evf = s.evf ∧
    (convertClaim c f s).pending = s.pending ∧ (convertClaim c f s).choices = s.choices := by simp [convertClaim]

@[simp] theorem sourceLost_frame (f : Feeder) :
    (sourceLost f s).clock = s.clock ∧ (sourceLost f s).setc = s.setc ∧ (sourceLost f s).fau = s.fau ∧
    (sourceLost f s).plu = s.plu ∧ (sourceLost f s).bil = s.bil ∧ (sourceLost f s).hpt = s.hpt ∧
    (sourceLost f s).pending = s.pending ∧ (sourceLost f s).choices = s.choices := by
  unfold sourceLost; split <;> simp

@[simp] theorem openLimitPassed_frame (f : Feeder) :
    (openLimitPassed f s).clock = s.clock ∧ (openLimitPassed f s).setc = s.setc ∧
    (openLimitPassed f s).fau = s.fau ∧ (openLimitPassed f s).plu = s.plu ∧
    (openLimitPassed f s).bil = s.bil ∧ (openLimitPassed f s).hpt = s.hpt ∧
    (openLimitPassed f s).pending = s.pending ∧ (openLimitPassed f s).choices = s.choices := by
  unfold openLimitPassed; split <;> simp

@[simp] theorem closeFailed_frame (c : ClaimRec) :
    (closeFailed c s).clock = s.clock ∧ (closeFailed c s).setc = s.setc ∧ (closeFailed c s).fau = s.fau ∧
    (closeFailed c s).plu = s.plu ∧ (closeFailed c s).bil = s.bil ∧ (closeFailed c s).hpt = s.hpt ∧
    (closeFailed c s).pending = s.pending ∧ (closeFailed c s).choices = s.choices := by
  unfold closeFailed; split <;> simp

@[simp] theorem topUp_frame  :
    (topUp s).clock = s.clock ∧ (topUp s).setc = s.setc ∧ (topUp s).fau = s.fau ∧ (topUp s).plu = s.plu ∧
    (topUp s).bil = s.bil ∧ (topUp s).hpt = s.hpt ∧ (topUp s).pending = s.pending ∧
    (topUp s).choices = s.choices := by
  unfold topUp; split <;> simp

@[simp] theorem beginReturn_frame (f : Feeder) :
    (beginReturn f s).clock = s.clock ∧ (beginReturn f s).setc = s.setc ∧ (beginReturn f s).fau = s.fau ∧
    (beginReturn f s).plu = s.plu ∧ (beginReturn f s).bil = s.bil ∧ (beginReturn f s).hpt = s.hpt ∧
    (beginReturn f s).pending = s.pending ∧ (beginReturn f s).choices = s.choices := by
  simp only [beginReturn]; (repeat' split) <;> simp

@[simp] theorem restore_frame (f : Feeder) :
    (restore f s).clock = s.clock ∧ (restore f s).setc = s.setc ∧ (restore f s).fau = s.fau ∧
    (restore f s).plu = s.plu ∧ (restore f s).bil = s.bil ∧ (restore f s).hpt = s.hpt ∧
    (restore f s).pending = s.pending ∧ (restore f s).choices = s.choices := by simp [restore]

/-! ### The Field Port (Machine/FieldPort.lean) -/

@[simp] theorem goodAnswer_frame (b : List Byte) :
    (goodAnswer b s).clock = s.clock ∧ (goodAnswer b s).slc = s.slc ∧ (goodAnswer b s).pvt = s.pvt ∧
    (goodAnswer b s).setc = s.setc ∧ (goodAnswer b s).fau = s.fau ∧ (goodAnswer b s).plu = s.plu ∧
    (goodAnswer b s).chs = s.chs ∧ (goodAnswer b s).mtr = s.mtr ∧ (goodAnswer b s).bil = s.bil ∧
    (goodAnswer b s).hpt = s.hpt ∧ (goodAnswer b s).pending = s.pending ∧
    (goodAnswer b s).choices = s.choices := by simp [goodAnswer]

@[simp] theorem miss_frame (k : FaultKind) (b : List Byte) :
    (miss k b s).clock = s.clock ∧ (miss k b s).slc = s.slc ∧ (miss k b s).pvt = s.pvt ∧
    (miss k b s).setc = s.setc ∧ (miss k b s).fau = s.fau ∧ (miss k b s).plu = s.plu ∧
    (miss k b s).chs = s.chs ∧ (miss k b s).mtr = s.mtr ∧ (miss k b s).bil = s.bil ∧
    (miss k b s).hpt = s.hpt ∧ (miss k b s).pending = s.pending ∧ (miss k b s).choices = s.choices := by simp [miss]

@[simp] theorem deliverSample_frame  :
    (deliverSample s).clock = s.clock ∧ (deliverSample s).hpt = s.hpt ∧
    (deliverSample s).pending = s.pending ∧ (deliverSample s).choices = s.choices := by simp [deliverSample]

@[simp] theorem endPoll_frame  :
    (endPoll s).clock = s.clock ∧ (endPoll s).hpt = s.hpt ∧ (endPoll s).pending = s.pending ∧
    (endPoll s).choices = s.choices := by simp [endPoll]

@[simp] theorem takeAnswer_frame (b : List Byte) :
    (takeAnswer b s).clock = s.clock ∧ (takeAnswer b s).hpt = s.hpt ∧
    (takeAnswer b s).pending = s.pending ∧ (takeAnswer b s).choices = s.choices := by simp [takeAnswer]

@[simp] theorem readyRises_frame (b : List Byte) (e : Bool) :
    (readyRises b e s).clock = s.clock ∧ (readyRises b e s).hpt = s.hpt ∧
    (readyRises b e s).pending = s.pending ∧ (readyRises b e s).choices = s.choices := by
  unfold readyRises; (repeat' split) <;> simp

@[simp] theorem clockedIn_frame (b : List Byte) :
    (clockedIn b s).clock = s.clock ∧ (clockedIn b s).hpt = s.hpt ∧ (clockedIn b s).pending = s.pending ∧
    (clockedIn b s).choices = s.choices := by
  unfold clockedIn; (repeat' split) <;> simp

@[simp] theorem closeWindow_frame  :
    (closeWindow s).clock = s.clock ∧ (closeWindow s).hpt = s.hpt ∧ (closeWindow s).pending = s.pending ∧
    (closeWindow s).choices = s.choices := by
  unfold closeWindow; (repeat' split) <;> simp

@[simp] theorem levelEvent_frame (l : FieldLine) (b : Bool) :
    (levelEvent l b s).clock = s.clock ∧ (levelEvent l b s).fau = s.fau ∧ (levelEvent l b s).bil = s.bil ∧
    (levelEvent l b s).hpt = s.hpt ∧ (levelEvent l b s).pending = s.pending ∧
    (levelEvent l b s).choices = s.choices := by
  unfold levelEvent; split <;> simp

@[simp] theorem filteredChange_frame (l : FieldLine) :
    (filteredChange l s).clock = s.clock ∧ (filteredChange l s).fau = s.fau ∧
    (filteredChange l s).bil = s.bil ∧ (filteredChange l s).hpt = s.hpt ∧
    (filteredChange l s).pending = s.pending ∧ (filteredChange l s).choices = s.choices := by simp [filteredChange]

@[simp] theorem filterCommit_frame (n : Nat) :
    (filterCommit n s).clock = s.clock ∧ (filterCommit n s).slc = s.slc ∧ (filterCommit n s).pvt = s.pvt ∧
    (filterCommit n s).setc = s.setc ∧ (filterCommit n s).fau = s.fau ∧ (filterCommit n s).plu = s.plu ∧
    (filterCommit n s).chs = s.chs ∧ (filterCommit n s).mtr = s.mtr ∧ (filterCommit n s).bil = s.bil ∧
    (filterCommit n s).hpt = s.hpt ∧ (filterCommit n s).evf = s.evf ∧
    (filterCommit n s).pending = s.pending ∧ (filterCommit n s).choices = s.choices := by simp [filterCommit]

@[simp] theorem countPulse_frame  :
    (countPulse s).clock = s.clock ∧ (countPulse s).slc = s.slc ∧ (countPulse s).pvt = s.pvt ∧
    (countPulse s).setc = s.setc ∧ (countPulse s).plu = s.plu ∧ (countPulse s).chs = s.chs ∧
    (countPulse s).mtr = s.mtr ∧ (countPulse s).bil = s.bil ∧ (countPulse s).hpt = s.hpt ∧
    (countPulse s).pending = s.pending ∧ (countPulse s).choices = s.choices := by
  simp only [countPulse]; (repeat' split) <;> simp

/-! ### Reception and the peer view (Machine/Reception.lean) -/

@[simp] theorem changePeer_frame (n : Nat) (f : Peer → Peer) :
    (changePeer n f s).clock = s.clock ∧ (changePeer n f s).slc = s.slc ∧
    (changePeer n f s).setc = s.setc ∧ (changePeer n f s).fau = s.fau ∧ (changePeer n f s).plu = s.plu ∧
    (changePeer n f s).chs = s.chs ∧ (changePeer n f s).fpc = s.fpc ∧ (changePeer n f s).mtr = s.mtr ∧
    (changePeer n f s).bil = s.bil ∧ (changePeer n f s).hpt = s.hpt ∧ (changePeer n f s).evf = s.evf ∧
    (changePeer n f s).pending = s.pending ∧ (changePeer n f s).choices = s.choices := by simp [changePeer]

@[simp] theorem refreshPeer_frame (n : Nat) :
    (refreshPeer n s).clock = s.clock ∧ (refreshPeer n s).slc = s.slc ∧ (refreshPeer n s).setc = s.setc ∧
    (refreshPeer n s).fau = s.fau ∧ (refreshPeer n s).plu = s.plu ∧ (refreshPeer n s).chs = s.chs ∧
    (refreshPeer n s).fpc = s.fpc ∧ (refreshPeer n s).mtr = s.mtr ∧ (refreshPeer n s).bil = s.bil ∧
    (refreshPeer n s).hpt = s.hpt ∧ (refreshPeer n s).evf = s.evf ∧
    (refreshPeer n s).pending = s.pending ∧ (refreshPeer n s).choices = s.choices := by simp [refreshPeer]

@[simp] theorem peerGone_frame (n : Nat) :
    (peerGone n s).clock = s.clock ∧ (peerGone n s).setc = s.setc ∧ (peerGone n s).fau = s.fau ∧
    (peerGone n s).fpc = s.fpc ∧ (peerGone n s).mtr = s.mtr ∧ (peerGone n s).bil = s.bil ∧
    (peerGone n s).hpt = s.hpt ∧ (peerGone n s).pending = s.pending ∧ (peerGone n s).choices = s.choices := by simp [peerGone]

@[simp] theorem losePeer_frame (n : Nat) :
    (losePeer n s).clock = s.clock ∧ (losePeer n s).setc = s.setc ∧ (losePeer n s).fau = s.fau ∧
    (losePeer n s).fpc = s.fpc ∧ (losePeer n s).mtr = s.mtr ∧ (losePeer n s).bil = s.bil ∧
    (losePeer n s).hpt = s.hpt ∧ (losePeer n s).pending = s.pending ∧ (losePeer n s).choices = s.choices := by simp [losePeer]

@[simp] theorem peerStale_frame (n : Nat) :
    (peerStale n s).clock = s.clock ∧ (peerStale n s).slc = s.slc ∧ (peerStale n s).setc = s.setc ∧
    (peerStale n s).fau = s.fau ∧ (peerStale n s).plu = s.plu ∧ (peerStale n s).chs = s.chs ∧
    (peerStale n s).fpc = s.fpc ∧ (peerStale n s).mtr = s.mtr ∧ (peerStale n s).bil = s.bil ∧
    (peerStale n s).hpt = s.hpt ∧ (peerStale n s).evf = s.evf ∧ (peerStale n s).pending = s.pending ∧
    (peerStale n s).choices = s.choices := by
  unfold peerStale; split <;> simp

@[simp] theorem peerLost_frame (n : Nat) :
    (peerLost n s).clock = s.clock ∧ (peerLost n s).setc = s.setc ∧ (peerLost n s).fau = s.fau ∧
    (peerLost n s).fpc = s.fpc ∧ (peerLost n s).mtr = s.mtr ∧ (peerLost n s).bil = s.bil ∧
    (peerLost n s).hpt = s.hpt ∧ (peerLost n s).pending = s.pending ∧ (peerLost n s).choices = s.choices := by
  unfold peerLost; split <;> simp

@[simp] theorem peerRemoved_frame (n : Nat) :
    (peerRemoved n s).clock = s.clock ∧ (peerRemoved n s).slc = s.slc ∧ (peerRemoved n s).setc = s.setc ∧
    (peerRemoved n s).fau = s.fau ∧ (peerRemoved n s).plu = s.plu ∧ (peerRemoved n s).chs = s.chs ∧
    (peerRemoved n s).fpc = s.fpc ∧ (peerRemoved n s).mtr = s.mtr ∧ (peerRemoved n s).bil = s.bil ∧
    (peerRemoved n s).hpt = s.hpt ∧ (peerRemoved n s).evf = s.evf ∧
    (peerRemoved n s).pending = s.pending ∧ (peerRemoved n s).choices = s.choices := by
  unfold peerRemoved; split <;> simp

@[simp] theorem postPeerNew_frame (n : Nat) (b : StatusBody) (r : Bool) :
    (postPeerNew n b r s).clock = s.clock ∧ (postPeerNew n b r s).slc = s.slc ∧
    (postPeerNew n b r s).pvt = s.pvt ∧ (postPeerNew n b r s).setc = s.setc ∧
    (postPeerNew n b r s).fau = s.fau ∧ (postPeerNew n b r s).plu = s.plu ∧
    (postPeerNew n b r s).chs = s.chs ∧ (postPeerNew n b r s).fpc = s.fpc ∧
    (postPeerNew n b r s).mtr = s.mtr ∧ (postPeerNew n b r s).bil = s.bil ∧
    (postPeerNew n b r s).hpt = s.hpt ∧ (postPeerNew n b r s).pending = s.pending ∧
    (postPeerNew n b r s).choices = s.choices := by simp [postPeerNew]

@[simp] theorem newPeer_frame (n : Nat) (b : StatusBody) :
    (newPeer n b s).clock = s.clock ∧ (newPeer n b s).slc = s.slc ∧ (newPeer n b s).setc = s.setc ∧
    (newPeer n b s).fau = s.fau ∧ (newPeer n b s).plu = s.plu ∧ (newPeer n b s).chs = s.chs ∧
    (newPeer n b s).fpc = s.fpc ∧ (newPeer n b s).mtr = s.mtr ∧ (newPeer n b s).bil = s.bil ∧
    (newPeer n b s).hpt = s.hpt ∧ (newPeer n b s).pending = s.pending ∧
    (newPeer n b s).choices = s.choices := by
  unfold newPeer; (repeat' split) <;> simp

@[simp] theorem takeStatus_frame (n : Nat) (b : StatusBody) :
    (takeStatus n b s).clock = s.clock ∧ (takeStatus n b s).setc = s.setc ∧
    (takeStatus n b s).fau = s.fau ∧ (takeStatus n b s).fpc = s.fpc ∧ (takeStatus n b s).mtr = s.mtr ∧
    (takeStatus n b s).bil = s.bil ∧ (takeStatus n b s).hpt = s.hpt ∧
    (takeStatus n b s).pending = s.pending ∧ (takeStatus n b s).choices = s.choices := by
  unfold takeStatus; split <;> simp

@[simp] theorem enterMute_frame  :
    (enterMute s).clock = s.clock ∧ (enterMute s).setc = s.setc ∧ (enterMute s).fau = s.fau ∧
    (enterMute s).bil = s.bil ∧ (enterMute s).pending = s.pending ∧ (enterMute s).choices = s.choices := by
  simp only [enterMute]; (repeat' split) <;> simp

@[simp] theorem duplicateId_frame (b : List Byte) :
    (duplicateId b s).clock = s.clock ∧ (duplicateId b s).setc = s.setc ∧ (duplicateId b s).fau = s.fau ∧
    (duplicateId b s).bil = s.bil ∧ (duplicateId b s).pending = s.pending ∧
    (duplicateId b s).choices = s.choices := by simp [duplicateId]

@[simp] theorem listClaim_frame (c : ClaimId) (g : Nat) (k : ClaimKind) (n m : Nat) :
    (listClaim c g k n m s).clock = s.clock ∧ (listClaim c g k n m s).setc = s.setc ∧
    (listClaim c g k n m s).fau = s.fau ∧ (listClaim c g k n m s).chs = s.chs ∧
    (listClaim c g k n m s).fpc = s.fpc ∧ (listClaim c g k n m s).mtr = s.mtr ∧
    (listClaim c g k n m s).bil = s.bil ∧ (listClaim c g k n m s).hpt = s.hpt ∧
    (listClaim c g k n m s).pending = s.pending ∧ (listClaim c g k n m s).choices = s.choices := by simp [listClaim]

@[simp] theorem takeClaim_frame (c : ClaimId) (g : Nat) (k : ClaimKind) (n m : Nat) :
    (takeClaim c g k n m s).clock = s.clock ∧ (takeClaim c g k n m s).fau = s.fau ∧
    (takeClaim c g k n m s).chs = s.chs ∧ (takeClaim c g k n m s).mtr = s.mtr ∧
    (takeClaim c g k n m s).bil = s.bil ∧ (takeClaim c g k n m s).hpt = s.hpt ∧
    (takeClaim c g k n m s).pending = s.pending ∧ (takeClaim c g k n m s).choices = s.choices := by simp [takeClaim]

@[simp] theorem deliverOther_frame (n : Nat) (b : Bulletin) (c : List Byte) :
    (deliverOther n b c s).clock = s.clock ∧ (deliverOther n b c s).fau = s.fau ∧
    (deliverOther n b c s).bil = s.bil ∧ (deliverOther n b c s).hpt = s.hpt ∧
    (deliverOther n b c s).pending = s.pending ∧ (deliverOther n b c s).choices = s.choices := by
  unfold deliverOther; split <;> simp

@[simp] theorem deliver_frame (n : Nat) (b : Bulletin) (c : List Byte) :
    (deliver n b c s).clock = s.clock ∧ (deliver n b c s).fau = s.fau ∧ (deliver n b c s).bil = s.bil ∧
    (deliver n b c s).pending = s.pending ∧ (deliver n b c s).choices = s.choices := by
  unfold deliver; split <;> simp

@[simp] theorem frameEnded_frame (b : Bool) :
    (frameEnded b s).clock = s.clock ∧ (frameEnded b s).pvt = s.pvt ∧ (frameEnded b s).setc = s.setc ∧
    (frameEnded b s).fau = s.fau ∧ (frameEnded b s).plu = s.plu ∧ (frameEnded b s).chs = s.chs ∧
    (frameEnded b s).fpc = s.fpc ∧ (frameEnded b s).mtr = s.mtr ∧ (frameEnded b s).bil = s.bil ∧
    (frameEnded b s).hpt = s.hpt ∧ (frameEnded b s).evf = s.evf ∧ (frameEnded b s).pending = s.pending ∧
    (frameEnded b s).choices = s.choices := by simp [frameEnded]

@[simp] theorem frameReceived_frame (l : List Byte) (b : Bool) :
    (frameReceived l b s).clock = s.clock ∧ (frameReceived l b s).fau = s.fau ∧
    (frameReceived l b s).bil = s.bil ∧ (frameReceived l b s).pending = s.pending ∧
    (frameReceived l b s).choices = s.choices := by
  simp only [frameReceived]; (repeat' split) <;> simp

@[simp] theorem recomputePeer_frame (n : Nat) :
    (recomputePeer n s).clock = s.clock ∧ (recomputePeer n s).setc = s.setc ∧
    (recomputePeer n s).fau = s.fau ∧ (recomputePeer n s).fpc = s.fpc ∧ (recomputePeer n s).mtr = s.mtr ∧
    (recomputePeer n s).bil = s.bil ∧ (recomputePeer n s).hpt = s.hpt ∧
    (recomputePeer n s).pending = s.pending ∧ (recomputePeer n s).choices = s.choices := by
  unfold recomputePeer; split <;> simp

@[simp] theorem peerCommit_frame (a b : Nat) :
    (peerCommit a b s).clock = s.clock ∧ (peerCommit a b s).setc = s.setc ∧
    (peerCommit a b s).fau = s.fau ∧ (peerCommit a b s).fpc = s.fpc ∧ (peerCommit a b s).mtr = s.mtr ∧
    (peerCommit a b s).bil = s.bil ∧ (peerCommit a b s).hpt = s.hpt ∧
    (peerCommit a b s).pending = s.pending ∧ (peerCommit a b s).choices = s.choices := by
  have key : ∀ (ns : List Nat) (s : State), KeepsAllBut [.plu, .chs, .slc, .evf, .pvt] s
      (ns.foldl (fun s n => recomputePeer n s) s) := fun ns s =>
    foldl_keeps _ (fun s i => keepsAllBut_of (by simp)) _ _
  unfold peerCommit
  simp [(key _ _).clock, (key _ _).setc, (key _ _).fau, (key _ _).fpc, (key _ _).mtr, (key _ _).bil,
    (key _ _).hpt, (key _ _).pending, (key _ _).choices]

/-! ### The event unit and the Host Port (Machine/EventUnit.lean, Machine/HostPort.lean) -/

@[simp] theorem ackEvents_frame (n : Nat) :
    (ackEvents n s).clock = s.clock ∧ (ackEvents n s).slc = s.slc ∧ (ackEvents n s).pvt = s.pvt ∧
    (ackEvents n s).setc = s.setc ∧ (ackEvents n s).fau = s.fau ∧ (ackEvents n s).plu = s.plu ∧
    (ackEvents n s).chs = s.chs ∧ (ackEvents n s).fpc = s.fpc ∧ (ackEvents n s).mtr = s.mtr ∧
    (ackEvents n s).bil = s.bil ∧ (ackEvents n s).hpt = s.hpt ∧ (ackEvents n s).pending = s.pending ∧
    (ackEvents n s).choices = s.choices := by simp [ackEvents]

@[simp] theorem takeRecord_frame (a b c : Byte) (l : List Byte) :
    (takeRecord a b c l s).clock = s.clock ∧ (takeRecord a b c l s).slc = s.slc ∧
    (takeRecord a b c l s).pvt = s.pvt ∧ (takeRecord a b c l s).setc = s.setc ∧
    (takeRecord a b c l s).fau = s.fau ∧ (takeRecord a b c l s).plu = s.plu ∧
    (takeRecord a b c l s).chs = s.chs ∧ (takeRecord a b c l s).fpc = s.fpc ∧
    (takeRecord a b c l s).mtr = s.mtr ∧ (takeRecord a b c l s).bil = s.bil ∧
    (takeRecord a b c l s).pending = s.pending ∧ (takeRecord a b c l s).choices = s.choices := by
  simp only [takeRecord]; (repeat' split) <;> simp

@[simp] theorem endTransaction_frame (l : List Byte) :
    (endTransaction l s).clock = s.clock ∧ (endTransaction l s).slc = s.slc ∧
    (endTransaction l s).pvt = s.pvt ∧ (endTransaction l s).setc = s.setc ∧
    (endTransaction l s).fau = s.fau ∧ (endTransaction l s).plu = s.plu ∧
    (endTransaction l s).chs = s.chs ∧ (endTransaction l s).fpc = s.fpc ∧
    (endTransaction l s).mtr = s.mtr ∧ (endTransaction l s).bil = s.bil ∧
    (endTransaction l s).pending = s.pending ∧ (endTransaction l s).choices = s.choices := by
  unfold endTransaction; split <;> simp

@[simp] theorem setCommit_frame (c : ConfigRecord) :
    (setCommit c s).clock = s.clock ∧ (setCommit c s).fau = s.fau ∧ (setCommit c s).chs = s.chs ∧
    (setCommit c s).mtr = s.mtr ∧ (setCommit c s).bil = s.bil ∧ (setCommit c s).hpt = s.hpt ∧
    (setCommit c s).pending = s.pending ∧ (setCommit c s).choices = s.choices := by
  simp only [setCommit]; (repeat' split) <;> simp

@[simp] theorem pledgeCommit_frame (c : ConfigRecord) :
    (pledgeCommit c s).clock = s.clock ∧ (pledgeCommit c s).slc = s.slc ∧ (pledgeCommit c s).pvt = s.pvt ∧
    (pledgeCommit c s).setc = s.setc ∧ (pledgeCommit c s).fau = s.fau ∧ (pledgeCommit c s).chs = s.chs ∧
    (pledgeCommit c s).fpc = s.fpc ∧ (pledgeCommit c s).mtr = s.mtr ∧ (pledgeCommit c s).bil = s.bil ∧
    (pledgeCommit c s).hpt = s.hpt ∧ (pledgeCommit c s).evf = s.evf ∧
    (pledgeCommit c s).pending = s.pending ∧ (pledgeCommit c s).choices = s.choices := by
  unfold pledgeCommit; split <;> simp

@[simp] theorem boardCommit_frame (c : ConfigRecord) :
    (boardCommit c s).clock = s.clock ∧ (boardCommit c s).setc = s.setc ∧ (boardCommit c s).fau = s.fau ∧
    (boardCommit c s).plu = s.plu ∧ (boardCommit c s).bil = s.bil ∧ (boardCommit c s).hpt = s.hpt ∧
    (boardCommit c s).pending = s.pending ∧ (boardCommit c s).choices = s.choices := by
  unfold boardCommit; split <;> simp

@[simp] theorem identityCommit_frame (c : ConfigRecord) :
    (identityCommit c s).clock = s.clock ∧ (identityCommit c s).slc = s.slc ∧
    (identityCommit c s).pvt = s.pvt ∧ (identityCommit c s).setc = s.setc ∧
    (identityCommit c s).fau = s.fau ∧ (identityCommit c s).plu = s.plu ∧
    (identityCommit c s).chs = s.chs ∧ (identityCommit c s).fpc = s.fpc ∧
    (identityCommit c s).mtr = s.mtr ∧ (identityCommit c s).bil = s.bil ∧
    (identityCommit c s).evf = s.evf ∧ (identityCommit c s).pending = s.pending ∧
    (identityCommit c s).choices = s.choices := by simp [identityCommit]

@[simp] theorem eventCommit_frame (c : ConfigRecord) :
    (eventCommit c s).clock = s.clock ∧ (eventCommit c s).slc = s.slc ∧ (eventCommit c s).pvt = s.pvt ∧
    (eventCommit c s).setc = s.setc ∧ (eventCommit c s).fau = s.fau ∧ (eventCommit c s).plu = s.plu ∧
    (eventCommit c s).chs = s.chs ∧ (eventCommit c s).fpc = s.fpc ∧ (eventCommit c s).mtr = s.mtr ∧
    (eventCommit c s).bil = s.bil ∧ (eventCommit c s).hpt = s.hpt ∧
    (eventCommit c s).pending = s.pending ∧ (eventCommit c s).choices = s.choices := by simp [eventCommit]

@[simp] theorem commitRecord_frame (c : ConfigRecord) :
    (commitRecord c s).clock = s.clock ∧ (commitRecord c s).pending = s.pending ∧
    (commitRecord c s).choices = s.choices := by simp [commitRecord]

@[simp] theorem setSiteTime_frame (n : Nat) (o : Int) :
    (setSiteTime n o s).slc = s.slc ∧ (setSiteTime n o s).setc = s.setc ∧
    (setSiteTime n o s).fau = s.fau ∧ (setSiteTime n o s).plu = s.plu ∧ (setSiteTime n o s).chs = s.chs ∧
    (setSiteTime n o s).fpc = s.fpc ∧ (setSiteTime n o s).mtr = s.mtr ∧ (setSiteTime n o s).hpt = s.hpt ∧
    (setSiteTime n o s).pending = s.pending ∧ (setSiteTime n o s).choices = s.choices := by simp [setSiteTime]

@[simp] theorem lastMoment_frame  :
    (lastMoment s).slc = s.slc ∧ (lastMoment s).pvt = s.pvt ∧ (lastMoment s).setc = s.setc ∧
    (lastMoment s).fau = s.fau ∧ (lastMoment s).plu = s.plu ∧ (lastMoment s).chs = s.chs ∧
    (lastMoment s).fpc = s.fpc ∧ (lastMoment s).mtr = s.mtr ∧ (lastMoment s).bil = s.bil ∧
    (lastMoment s).hpt = s.hpt ∧ (lastMoment s).evf = s.evf ∧ (lastMoment s).pending = s.pending ∧
    (lastMoment s).choices = s.choices := by simp [lastMoment]

@[simp] theorem softReset_frame  :
    (softReset s).clock = s.clock ∧ (softReset s).setc = s.setc ∧ (softReset s).fau = s.fau ∧
    (softReset s).fpc = s.fpc ∧ (softReset s).mtr = s.mtr ∧ (softReset s).bil = s.bil ∧
    (softReset s).pending = s.pending ∧ (softReset s).choices = s.choices := by simp [softReset]

end Sys2Proof.Machine
end

