-- ==== Sys2Proof/Laws/Ops.lean ====
section
/-! SUPPORT. The spec lemmas of the operations every block uses: what each answers, said once. -/

namespace Sys2Proof.Machine

variable (s : State)

/-! ### Lists of fixed length -/

@[simp] theorem adjust_length {α : Type} (f : α → α) (i : Nat) (l : List α) : (adjust f i l).length = l.length := by
  induction l generalizing i with
  | nil => cases i <;> rfl
  | cons x xs ih => cases i <;> simp [adjust, ih]

/-- An adjusted place reads as the function of what it held; every other place as before. -/
theorem nth_adjust {α : Type} (d : α) (f : α → α) (i j : Nat) (l : List α) :
    nth d (adjust f i l) j = if i = j ∧ j < l.length then f (nth d l j) else nth d l j := by
  induction l generalizing i j with
  | nil => cases i <;> simp [adjust, nth]
  | cons x xs ih =>
    cases i with
    | zero => cases j <;> simp [adjust, nth]
    | succ i =>
      cases j with
      | zero => simp [adjust, nth]
      | succ j =>
        have := ih i j
        simp only [nth, adjust, List.getD_cons_succ] at this ⊢
        rw [this]
        simp

@[simp] theorem padTo_length (n : Nat) (l : List Byte) : (padTo n l).length = n := by
  simp [padTo, List.length_take]

/-! ### Arithmetic -/

/-- Rounding to nearest with ties upward: the quotient lies within half a unit (Arithmetic). -/
theorem roundDiv_spec (a b : Nat) (hb : 0 < b) :
    2 * b * roundDiv a b ≤ 2 * a + b ∧ 2 * a + b < 2 * b * roundDiv a b + 2 * b := by
  unfold roundDiv
  have h := Nat.div_add_mod (2 * a + b) (2 * b)
  have h' := Nat.mod_lt (2 * a + b) (show 0 < 2 * b by omega)
  constructor <;> omega

theorem sat32_lt (n : Nat) : sat32 n < 2 ^ 32 := by unfold sat32; omega

theorem fit32_eq {n : Nat} (h : n < 2 ^ 32) : fit32 n = n := if_pos h

theorem add64_eq {a b : Nat} (h : a + b < 2 ^ 64) : add64 a b = a + b := if_pos h

/-! ### Events and faults (chapter 11) -/

@[simp] theorem testAttn_ring : (testAttn s).evf.ring = s.evf.ring := by simp [testAttn]

@[simp] theorem testAttn_lost : (testAttn s).evf.lost = s.evf.lost := by simp [testAttn]

@[simp] theorem testAttn_sticky : (testAttn s).evf.sticky = s.evf.sticky := by simp [testAttn]

@[simp] theorem testAttn_mask : (testAttn s).evf.mask = s.evf.mask := by simp [testAttn]

@[simp] theorem testAttn_first : (testAttn s).evf.first = s.evf.first := by simp [testAttn]

/-- An event posted to a ring with room is written at its end, stamped, with the lost count (R197). -/
theorem postEvent_room (k : EventKind) (u : Subject) (v q : Nat) (h : s.evf.ring.length < 64) :
    (postEvent k u v q s).evf.ring
      = s.evf.ring ++ [⟨k, u, s.siteSec, s.siteMs, v, q, s.evf.lost, s.now⟩] ∧
    (postEvent k u v q s).evf.lost = 0 := by
  simp [postEvent, h]

/-- An event posted to a full ring is dropped and counted (R197). -/
theorem postEvent_full (k : EventKind) (u : Subject) (v q : Nat) (h : 64 ≤ s.evf.ring.length) :
    postEvent k u v q s = s.withEvf { s.evf with lost := min (s.evf.lost + 1) 65535 } := by
  simp [postEvent, Nat.not_lt.mpr h]

/-- A posting changes nothing of the fault capture. -/
@[simp] theorem postEvent_faults (k : EventKind) (u : Subject) (v q : Nat) :
    (postEvent k u v q s).evf.sticky = s.evf.sticky ∧ (postEvent k u v q s).evf.mask = s.evf.mask ∧
    (postEvent k u v q s).evf.first = s.evf.first := by
  unfold postEvent; split <;> simp

/-- A posting writes one record or none: the ring only grows at its end. -/
theorem postEvent_prefix (k : EventKind) (u : Subject) (v q : Nat) :
    s.evf.ring <+: (postEvent k u v q s).evf.ring := by
  unfold postEvent; split <;> simp

/-- A report sets the kind's sticky status and no other (R202). -/
@[simp] theorem reportFault_sticky (k : FaultKind) (c : List Byte) :
    (reportFault k c s).evf.sticky = s.evf.sticky ||| k.bit := by
  simp only [reportFault]; (repeat' split) <;> simp

/-! ### The response (R184, R187) -/

@[simp] theorem respond_response (tag : Byte) (st : Status) (b : List Byte) :
    (respond tag st b s).hpt.response = ⟨tag, st, b⟩ ∧ (respond tag st b s).hpt.inProgress = none := ⟨rfl, rfl⟩

/-- A gated command acts where R189 takes it. -/
theorem gated_taken {role : Option Role} {states : List NodeState} {tag : Byte} {act : State → State}
    (h : s.takes role states = true) : gated role states tag act s = act s := by simp [gated, h]

/-- A gated command is refused with STATE elsewhere. -/
theorem gated_refused {role : Option Role} {states : List NodeState} {tag : Byte} {act : State → State}
    (h : s.takes role states = false) : gated role states tag act s = refuse tag .state s := by simp [gated, h]

/-! ### The transmit queue (R8) -/

@[simp] theorem joinQueue_length (e : TxEntry) (q : List TxEntry) : (joinQueue e q).length = q.length + 1 := by
  induction q with
  | nil => rfl
  | cons x xs ih => unfold joinQueue; split <;> simp [ih]

/-- A bulletin joins at the tail of its class (R8). -/
theorem joinQueue_tail (e : TxEntry) (as bs : List TxEntry) (ha : ∀ x ∈ as, x.cls.code ≤ e.cls.code)
    (hb : ∀ x ∈ bs, e.cls.code < x.cls.code) : joinQueue e (as ++ bs) = as ++ e :: bs := by
  induction as with
  | nil =>
    cases bs with
    | nil => rfl
    | cons b bs => simp [joinQueue, Nat.not_le.mpr (hb b (by simp))]
  | cons a as ih =>
    simp only [List.cons_append, joinQueue, ha a (by simp), if_true]
    rw [ih fun x hx => ha x (by simp [hx])]

/-- An offer made outside RUN is discarded (R8). -/
theorem offer_silent (b : Bulletin) (cls : TxClass) (h : s.hpt.nodeState ≠ .run) : offer b cls s = s := by
  simp [offer, h]

/-- An offer never moves the backoff generator (R16). -/
@[simp] theorem offer_backoffGen (b : Bulletin) (cls : TxClass) :
    (offer b cls s).slc.backoffGen = s.slc.backoffGen := by
  have hn : ∀ t : State, (offerNew b cls t).slc.backoffGen = t.slc.backoffGen := by
    intro t
    simp only [offerNew]
    repeat' split
    all_goals simp
  have hr : ∀ c : Slc, replaceStatus b s.slc = some c → c.backoffGen = s.slc.backoffGen := by
    intro c h
    unfold replaceStatus at h
    repeat' split at h
    all_goals cases h; try rfl
  unfold offer
  split
  · split
    · rename_i c hc
      split at hc
      · simpa using hr c hc
      · cases hc
    · exact hn s
  · rfl

end Sys2Proof.Machine
end

