-- ==== Sys2Proof/WellFormed.lean ====
section
/-! DEFINITION. Which commands can arise at the ports: the operands lie in the ranges the manual gives
them.  The meanings are total on every operand; this check says which terms stand for something the
ports can carry (the ranges the part itself checks, such as a class above 7, are not here: the part
takes those records and refuses them). -/

namespace Sys2Proof

/-- Node ids are 1 to 62 (Identifiers). -/
def nodeIdOk (n : Nat) : Bool := decide (1 ≤ n) && decide (n ≤ 62)

/-- A claim id is a board node id and an 8-bit serial (Identifiers). -/
def claimIdOk (board serial : Nat) : Bool := nodeIdOk board && decide (serial < 256)

/-- The operands of a command lie in the ranges its port can carry. -/
def Instr.wellFormed : Instr → Bool
  | .busIdleTimeout taken => decide (taken.length ≤ 38)            -- the longest frame (R17)
  | .frameReceived rest _ => decide (2 ≤ rest.length) && decide (rest.length ≤ 34)   -- R2
  | .peerStale n => nodeIdOk n
  | .peerLost n => nodeIdOk n
  | .peerRemoved n => nodeIdOk n
  | .frontEndAnswer bytes _ => decide (bytes.length ≤ 109)         -- R207
  | .answerClockedIn bytes => decide (bytes.length ≤ 109)          -- R207
  | .claimExpiry b n => claimIdOk b n
  | .pledgeDeadline b n => claimIdOk b n
  | .resolveRequestTimer slot => decide (slot < 16)                -- R157
  | .configure _ body => decide (body.length = 4) || decide (body.length = 83)   -- R208
  | _ => true

end Sys2Proof
end

