-- ==== Sys2Proof/Tests/Slice0.lean ====
section
/-! SUPPORT. Tests: ill-formed commands that the check refuses, the manual's worked numbers, and for every
statement with hypotheses a state and operands that meet them. -/

namespace Sys2Proof.Tests

open Sys2Proof Sys2Proof.Machine Sys2Proof.Claims

/-! ### WellFormed: an ill-formed term for each check, with a well-formed neighbour -/

theorem test_wf_idleTimeout : (Instr.busIdleTimeout (List.replicate 39 0)).wellFormed = false ∧
    (Instr.busIdleTimeout (List.replicate 38 0)).wellFormed = true := by decide
theorem test_wf_frameReceived : (Instr.frameReceived [0] true).wellFormed = false ∧
    (Instr.frameReceived (List.replicate 35 0) true).wellFormed = false ∧
    (Instr.frameReceived [0, 0] true).wellFormed = true := by decide
theorem test_wf_peerStale : (Instr.peerStale 0).wellFormed = false ∧ (Instr.peerStale 62).wellFormed = true := by
  decide
theorem test_wf_peerLost : (Instr.peerLost 63).wellFormed = false ∧ (Instr.peerLost 1).wellFormed = true := by
  decide
theorem test_wf_peerRemoved : (Instr.peerRemoved 63).wellFormed = false := by decide
theorem test_wf_frontEndAnswer : (Instr.frontEndAnswer (List.replicate 110 0) true).wellFormed = false ∧
    (Instr.frontEndAnswer (List.replicate 109 0) true).wellFormed = true := by decide
theorem test_wf_answerClockedIn : (Instr.answerClockedIn (List.replicate 110 0)).wellFormed = false := by decide
theorem test_wf_claimExpiry : (Instr.claimExpiry 20 256).wellFormed = false ∧
    (Instr.claimExpiry 20 255).wellFormed = true := by decide
theorem test_wf_pledgeDeadline : (Instr.pledgeDeadline 0 1).wellFormed = false := by decide
theorem test_wf_resolveTimer : (Instr.resolveRequestTimer 16).wellFormed = false ∧
    (Instr.resolveRequestTimer 15).wellFormed = true := by decide
theorem test_wf_configure : (Instr.configure 1 [1, 0, 1]).wellFormed = false ∧
    (Instr.configure 1 [1, 0, 1, 0]).wellFormed = true := by decide

/-- No row of the table gives bits (log entry 2). -/
theorem test_no_word_spells (s : State) : decodeTableWord 8 0 = none ∧ s.withFetchWord 8 0 = s := ⟨rfl, rfl⟩

/-! ### The manual's worked numbers -/

/-- R3: the check value of "123456789". -/
theorem test_crc : crc16 [0x31, 0x32, 0x33, 0x34, 0x35, 0x36, 0x37, 0x38, 0x39] = 0x29B1 := by decide +kernel

/-- R172: 15 minutes from 64,020 s (the example of R179), and from the boundary itself. -/
theorem test_nextBoundary : nextBoundary 15 64020 = 64800 ∧ nextBoundary 15 72900 = 73800 := by decide

/-- R175: tc = 4,294,967,500 leaves a carry charge of 205. -/
theorem test_saturated_record :
    let a := { Account.reset with state := .opened, intCharge := 4294967000, carryCharge := 500 }
    sat32 a.totals.2 = 4294967295 ∧ a.produced.carryCharge = 205 := by decide +kernel

/-- R190 and the worked bring-up: a dead time of 200 ms is the field of index 29, and 800 is in range. -/
def record (role : Role) : ConfigRecord := shortRecord 20 role 1 (match role with
  | .genset => 0
  | .board => 2)
theorem test_dead_time : configBadField { record .board with deadTime := 200 }.bytes = some 29 ∧
    configBadField (record .board).bytes = none := by decide +kernel

/-- R190: the full form reads back as the record. -/
theorem test_record_bytes : readConfig (record .board).bytes = record .board ∧
    (record .genset).bytes.length = 83 := by decide +kernel

/-! ### States -/

/-- A GENSET, node 20, in RUN, with a tank of one lot. -/
def genset : State :=
  let s := State.reset
  { s with
    hpt := { s.hpt with
      nodeState := .run, role := some .genset, ownId := some 20, runTag := some 7
      record := some (record .genset), committed := some (record .genset) }
    fau := { s.fau with
      copy := some (record .genset).fuel, lots := [⟨4411, 0, .delivery, 400000, 400000, 1850, 0, false⟩]
      factor := 1000, minutes := 600 }
    plu := { s.plu with profileA := factoryA, profileB := factoryB, derated := 1000, formed := true } }

/-- A BOARD, node 20, in RUN, SETTLED on feeder A with both sources live. -/
def board : State :=
  let s := State.reset
  { s with
    hpt := { s.hpt with
      nodeState := .run, role := some .board, ownId := some 20, runTag := some 7
      record := some (record .board), committed := some (record .board) }
    chs := { s.chs with
      state := .settled, active := some .a, billing := some .a, snapLoad := 1180
      feederA := { s.chs.feederA with group := 1 }, feederB := { s.chs.feederB with group := 2 } }
    fpc := { s.fpc with
      feederA := ⟨true, true, none⟩, sample := { s.fpc.sample with liveA := true, liveB := true } } }

/-- A state at a time, in microseconds of both clocks. -/
def at' (t : Nat) (s : State) : State := s.withClock ⟨t, t⟩

/-- A node state replaced. -/
def inState (n : NodeState) (s : State) : State := s.withHpt { s.hpt with nodeState := n }

/-- The state after a command. -/
def after (c : Instr) (s : State) : State :=
  match exec c s with
  | .next t => t
  | _ => s

/-! ### Commands on small states -/

/-- R191: the run tag is the counter's value, and one more where that was the tag before. -/
theorem test_commit_tag :
    (after (.commit 5) (inState .config genset)).hpt.runTag = some 0 ∧
    (after (.commit 5) ((inState .config genset).withHpt
      { (inState .config genset).hpt with runTag := some 0 })).hpt.runTag = some 1 := by decide +kernel

/-- R76: DELIVERY_OPEN refuses a ticket that a lot holds, and takes another. -/
theorem test_delivery_open :
    (after (.deliveryOpen 9 4411 1920 1250) genset).hpt.response = ⟨9, .inUse, []⟩ ∧
    (after (.deliveryOpen 9 4602 1920 1250) genset).hpt.response = ⟨9, .ok, []⟩ := by decide +kernel

/-- R113, R119: a load of 118.0 kW with a margin of 10 percent asks for 129.8 kW. -/
theorem test_changeover_kw :
    (after (.changeover 1 1) board).hpt.response = ⟨1, .ok, [1, 0x05, 0x12]⟩ := by decide +kernel

/-- R121: a planned changeover covered opens feeder A. -/
theorem test_cover_opens :
    (takePledge 3 20 1 1298 (after (.changeover 1 1) board)).fpc.pulseA
      = some ⟨.openLine, 200 * millisecond⟩ := by decide +kernel

/-- The worked burst of section 11.5: under set B two records do not raise ATTN, and 250 ms do. -/
theorem test_attn_delay :
    let s := State.reset.withEvf { State.reset.evf with mark := 3 }
    let t := postEvent .shedChange (.channel 6) 0 0 (postEvent .shedChange (.channel 5) 0 0 s)
    t.evf.attn = false ∧ (after .attnDelay (at' 249999 t)).evf.attn = false ∧
      (after .attnDelay (at' 250000 t)).evf.attn = true := by decide +kernel

/-- R59, R60 and R189: SET_RUN is refused in AUTO, and on a board. -/
theorem test_set_run_refused :
    (after (.setRun 4 0) genset).hpt.response = ⟨4, .state, []⟩ ∧
    (after (.setRun 4 0) board).hpt.response = ⟨4, .state, []⟩ := by decide +kernel

/-! ### Witnesses: the step, the resets and the gate -/

theorem witness_IdleStepTicks :
    (let s := State.reset.withFpc { State.reset.fpc with nextPoll := 1 }
     s.pending = [] ∧ dueEvents s = []) ∧
    (State.reset.pending = [] ∧ dueEvents State.reset = [.poll]) ∧
    ((at' 20000 State.reset).pending = [] ∧ 2 ≤ (dueEvents (at' 20000 State.reset)).length) := by decide +kernel
theorem witness_GateRefuses :
    (hostGate (.commit 1) = some (1, none, [.config]) ∧ genset.hpt.nodeState ∉ [NodeState.config]) ∧
    (hostGate (.setRun 1 0) = some (1, some .genset, [.run, .mute]) ∧
      ∃ r, some Role.genset = some r ∧ board.hpt.role ≠ some r) :=
  ⟨by decide, rfl, .genset, rfl, by decide⟩
theorem witness_ReadsChangeNothing :
    (readAnswer genset (.readTank 3)).isSome ∧ (readAnswer genset (.readNode 3 2 0)).isSome ∧
    (readAnswer board (.readNode 3 3 0)).isSome ∧ (readAnswer board (.readNode 3 7 1)).isSome ∧
    (readAnswer State.reset (.readPeers 3 62)).isSome := by decide +kernel
theorem witness_FrameOfEveryCommand : ∃ t, exec (.poll) genset = .next t := ⟨_, rfl⟩

/-! ### Witnesses: the site link -/

/-- An INTENT in the queue. -/
def intent : Bulletin := .intent 1 .start 600 3

/-- A node that drives the frame of an entry with `n` collisions behind another entry. -/
def sending (n : Nat) : State :=
  let s := genset
  { s with slc := { s.slc with
    queue := [⟨.release 3 .done, .urgent, 0, none, false⟩, ⟨intent, .normal, n, none, true⟩]
    tx := some ⟨intent.frame 20, .normal, 0, false⟩ } }

theorem witness_BackoffGenerator :
    (∃ f pre post e, (sending 6).slc.tx = some f ∧ f.orphan = false ∧ (sending 6).slc.queue = pre ++ e :: post ∧
      e.sending = true ∧ (∀ x ∈ pre, x.sending = false) ∧ e.attempts < 7) ∧
    (∃ c t, exec (.commit 1) (inState .config genset) = .next t ∧
      (inState .config genset).hpt.nodeState = .config ∧ (inState .config genset).hpt.record = some c ∧
      c.mCrit < c.mLow ∧ c.openingStock ≤ c.capacity) ∧
    (∃ t, exec .poll genset = .next t ∧ (∀ tag, Instr.poll ≠ .commit tag) ∧ Instr.poll ≠ .collision ∧
      Instr.poll ≠ .powerOnReset) ∧
    genset.slc.tx = none ∧
    (let s := { genset with slc := { genset.slc with tx := some ⟨intent.frame 20, .normal, 0, true⟩ } }
     ∃ f, s.slc.tx = some f ∧ f.orphan = true) ∧
    (∀ e, (sending 7).slc.queue.find? (·.sending) = some e → 7 ≤ e.attempts) :=
  ⟨⟨_, [_], [], _, rfl, rfl, rfl, rfl, by simp, by decide⟩,
    ⟨record .genset, _, rfl, rfl, rfl, by decide, by decide⟩, ⟨_, rfl, by simp, by simp, by simp⟩, rfl,
    ⟨_, rfl, rfl⟩, fun _ h => by cases h; decide⟩

/-- The receiver in a state. -/
def hearing (r : RxState) : State := { genset with slc := { genset.slc with rx := r } }

theorem witness_BusAndReceiver :
    (∃ since, ({ genset with slc := { genset.slc with bus := .idle 0 } } : State).slc.bus = .idle since) ∧
    (∃ since, (hearing .waiting).slc.bus = .busy since ∧ (hearing .waiting).slc.rx = .waiting) ∧
    ((hearing (.candidate false)).slc.rx = .candidate false ∧ ([] : List Byte).head? ≠ some syncByte) ∧
    ((hearing (.candidate true)).slc.rx = .candidate true ∧ [syncByte].head? = some syncByte) ∧
    ((hearing (.frame false 3 1 32)).slc.rx = .frame false 3 1 32) ∧
    ((0x4F : Byte) ≠ syncByte ∧ (32 : Byte).toNat ≤ 32 ∧ 32 < (33 : Byte).toNat) ∧
    (∃ since, (at' 20000 genset).slc.bus = .busy since ∧ (at' 20000 genset).slc.link = .normal ∧
      since + 20 * millisecond ≤ (at' 20000 genset).now) ∧
    ({ genset with slc := { genset.slc with link := .stuck } } : State).slc.link = .stuck :=
  ⟨⟨0, rfl⟩, ⟨0, rfl, rfl⟩, ⟨rfl, by simp⟩, ⟨rfl, rfl⟩, rfl, by decide, ⟨0, rfl, rfl, by decide⟩, rfl⟩

theorem witness_BulletinsRoundTrip :
    (Bulletin.confirm 255 (List.replicate 8 (62, 65535))).inRange ∧ (1 ≤ 62 ∧ 62 ≤ 62) ∧ 1 ≤ 1 := by
  simp [Bulletin.inRange]

/-- A STATUS of node 3, and the bytes behind its header. -/
def status : StatusBody := .genset ⟨1, .online, true, false, false, false, 9, 500, 1000, 500, 0, 400, 600⟩

theorem witness_FramesReceived :
    (let s := hearing (.frame true 3 8 2)
     s.slc.rx = .frame true 3 8 2 ∧ [0, 0, 0, (0 : Byte)].length = (2 : Byte).toNat + 2) ∧
    (let s := hearing (.frame false 3 8 2)
     s.slc.rx = .frame false 3 8 2 ∧
       checkFrame 3 8 2 ([0, 0, 0, (0 : Byte)].take 2) ([0, 0, 0, 0].drop 2) = .dropped .crcBad) ∧
    (let s := hearing (.frame false 3 1 17)
     let rest := (Bulletin.status status).payload ++ crcBytes ((Bulletin.status status).covered 3)
     rest.length = (17 : Byte).toNat + 2 ∧
       checkFrame 3 1 17 (rest.take 17) (rest.drop 17) = .valid (.status status) ∧
       s.hpt.ownId ≠ some 3 ∧ s.pvt.peer 3 = none ∧ s.pvt.peers.length < 32) := by decide +kernel

/-- What the receiver finds in the complete frame of a bulletin from a source. -/
def found (src : Byte) (b : Bulletin) : Checked :=
  checkFrame src (byte b.kindCode) (byte b.payload.length) b.payload (crcBytes (b.covered src.toNat))

/-- A frame of every kind is found valid, and one with the own id on a GENSET in RUN and in MUTE, and on a BOARD with
a planned claim and without a claim. -/
theorem witness_FramesReceivedKinds :
    (∀ b ∈ [Bulletin.intent 1 .start 600 3, .claim 1 1 .planned 2 300, .confirm 1 [(20, 120)], .release 1 .done,
      .pledge 20 1 300, .revoke 20 1 100 200], found 3 b = .valid b ∧ b.isStatus = false) ∧
    found 20 (.status status) = .valid (.status status) ∧
    (∀ n ∈ [NodeState.run, .mute], ((inState n (hearing .waiting)).hpt.ownId = some (20 : Byte).toNat ∧
      (inState n (hearing .waiting)).hpt.nodeState = n)) ∧
    (board.hpt.ownId = some (20 : Byte).toNat ∧ board.chs.claim = none ∧
      (let s := board.withChs { board.chs with
        state := .claiming, claim := some ⟨1, .b, 2, .planned, 1, .changeover, 1298, [], none, 9000000⟩ }
       s.hpt.role = some .board ∧ s.chs.state = .claiming ∧
         s.chs.claim = some ⟨1, .b, 2, .planned, 1, .changeover, 1298, [], none, 9000000⟩)) := by decide +kernel
/-- R18, R34, R120: the own id heard ends a planned claim with reason 3, and the board is in MUTE and SETTLED. -/
theorem test_duplicate :
    let s := { board with
      slc := { board.slc with rx := .frame false 20 1 17 }
      chs := { board.chs with
        state := .claiming, claim := some ⟨1, .b, 2, .planned, 1, .changeover, 1298, [], none, 9000000⟩ } }
    let t := after (.frameReceived ((Bulletin.status status).payload
      ++ crcBytes ((Bulletin.status status).covered 20)) true) s
    t.hpt.nodeState = .mute ∧ t.chs.state = .settled ∧ t.chs.claim = none ∧
      (t.evf.ring.map fun r => (r.kind, r.qualifier)) = [(.fault, 7), (.dupId, 0), (.changeoverFailed, 3)] := by decide +kernel

/-- A node ready to start the frame of `e` at `t`, with every penalty flag at `p`. -/
def ready (cls : TxClass) (p : Bool) (t : Nat) : State :=
  let s := at' t genset
  { s with slc := { s.slc with bus := .idle 0, penalty := ⟨p, p, p⟩, queue := [⟨intent, cls, 0, none, false⟩] } }

theorem witness_Transmission :
    (let s := ready .normal false 384
     s.hpt.nodeState = .run ∧ s.slc.link = .normal ∧ s.slc.tx = none ∧ s.slc.bus = .idle 0 ∧
       0 + (6 * gapUnit) ≤ s.now) ∧
    (let s := ready .urgent true 448
     s.slc.bus = .idle 0 ∧ s.slc.penalty.urgent = true ∧ 0 + ((3 + 4) * gapUnit) ≤ s.now) ∧
    (let s := ready .bulk true 832
     s.slc.bus = .idle 0 ∧ s.slc.penalty.bulk = true ∧ 0 + ((9 + 4) * gapUnit) ≤ s.now) ∧
    (∀ n : Nat, ∃ f pre post e, (sending n).slc.tx = some f ∧ f.orphan = false ∧
      (sending n).slc.queue = pre ++ e :: post ∧ e.sending = true ∧ (∀ x ∈ pre, x.sending = false) ∧
      e.bulletin.isStatus = false ∧ e.attempts = n) ∧
    (let s := at' 704 (sending 0)
     ∃ f, s.slc.tx = some f ∧ f.startedAt + f.bytes.length * gapUnit ≤ s.now ∧ s.slc.successor = none) :=
  ⟨by decide, by decide, by decide, fun n => ⟨_, [_], [], _, rfl, rfl, rfl, rfl, by simp, rfl, rfl⟩,
    ⟨_, rfl, by decide, rfl⟩⟩

/-- A GENSET whose queue holds an URGENT and fifteen entries of a class. -/
def full (cls : TxClass) : State :=
  { genset with slc := { genset.slc with
    queue := ⟨.release 1 .done, .urgent, 0, none, false⟩ :: List.replicate 15 ⟨intent, cls, 0, none, false⟩ } }

theorem witness_OffersAndRetry :
    ((inState .mute genset).hpt.nodeState ≠ .run) ∧
    (let s := sending 0
     s.hpt.nodeState = .run ∧ s.slc.queue.length < 16 ∧ intent.isStatus = false) ∧
    (let s := full .bulk
     let e : TxEntry := ⟨intent, .bulk, 0, none, false⟩
     s.hpt.nodeState = .run ∧ s.slc.queue.length = 16 ∧
       s.slc.queue = [⟨.release 1 .done, .urgent, 0, none, false⟩] ++ List.replicate 14 e ++ e :: [] ∧
       (∀ x ∈ List.replicate 14 e, x.cls ≠ .urgent) ∧ s.slc.hold.length < 4) ∧
    (let s := at' 50000 { full .bulk with slc := { (full .bulk).slc with hold := [⟨intent, .normal, 50000⟩] } }
     s.slc.hold = [⟨intent, .normal, 50000⟩] ∧ 50000 ≤ s.now ∧ 16 ≤ s.slc.queue.length) ∧
    (let s := at' 50000 { genset with slc := { genset.slc with hold := [⟨intent, .normal, 50000⟩] } }
     s.slc.hold = [⟨intent, .normal, 50000⟩] ∧ 50000 ≤ s.now ∧ s.slc.queue.length < 16) := by decide

/-- A node that sends its STATUS with a successor waiting, at the `n`-th collision before. -/
def sendingStatus (n : Nat) : State :=
  { genset with slc := { genset.slc with
    queue := [⟨.release 3 .done, .urgent, 0, none, false⟩, ⟨.status status, .bulk, n, none, true⟩]
    tx := some ⟨(Bulletin.status status).frame 20, .bulk, 0, false⟩, successor := some (.status status) } }

/-- A STATUS waits in the queue, is being sent, or waits in the hold; a NORMAL entry is evicted where every BULK is
SENDING; the hold is full; every entry is URGENT; and a STATUS with a successor collides. -/
theorem witness_OffersAndRetryFurther :
    (let e : TxEntry := ⟨.status status, .bulk, 0, none, false⟩
     let s := { genset with slc := { genset.slc with queue := [⟨intent, .normal, 0, none, false⟩, e] } }
     s.hpt.nodeState = .run ∧ e.bulletin.isStatus = true ∧ s.slc.queue = [⟨intent, .normal, 0, none, false⟩] ++ e :: [] ∧
       (∀ x ∈ [(⟨intent, .normal, 0, none, false⟩ : TxEntry)], x.bulletin.isStatus = false) ∧ e.sending = false) ∧
    (let s := { full .normal with slc := { (full .normal).slc with
       hold := [⟨intent, .normal, 50000⟩, ⟨.status status, .bulk, 60000⟩] } }
     s.slc.hold = [⟨intent, .normal, 50000⟩] ++ ⟨.status status, .bulk, 60000⟩ :: [] ∧
       (∀ x ∈ [(⟨intent, .normal, 50000⟩ : HeldBulletin)], x.bulletin.isStatus = false) ∧
       ∀ e ∈ s.slc.queue, e.bulletin.isStatus = false) ∧
    (let n : TxEntry := ⟨intent, .normal, 0, none, false⟩
     let b : TxEntry := ⟨.status status, .bulk, 0, none, true⟩
     let s := { genset with slc := { genset.slc with queue := List.replicate 15 n ++ [b] } }
     s.slc.queue = [] ++ List.replicate 14 n ++ n :: [b] ∧ 16 ≤ s.slc.queue.length ∧ n.sending = false ∧
       (∀ x ∈ [b], x.cls ≠ .urgent ∧ (x.cls = n.cls → x.sending = true)) ∧
       ∀ x ∈ List.replicate 14 n ++ [b], x.cls = .bulk → x.sending = true) ∧
    (let s := { full .normal with slc := { (full .normal).slc with hold := List.replicate 4 ⟨intent, .normal, 50000⟩ } }
     s.hpt.nodeState = .run ∧ 16 ≤ s.slc.queue.length ∧ 4 ≤ s.slc.hold.length ∧
       (∀ e ∈ s.slc.queue, e.bulletin.isStatus = false) ∧ ∀ h ∈ s.slc.hold, h.bulletin.isStatus = false) ∧
    (16 ≤ (full .urgent).slc.queue.length ∧ ∀ x ∈ (full .urgent).slc.queue, x.cls = .urgent ∨ x.sending = true) ∧
    (∀ n, ∃ f pre post e b, (sendingStatus n).slc.tx = some f ∧ f.orphan = false ∧
      (sendingStatus n).slc.queue = pre ++ e :: post ∧ e.sending = true ∧ (∀ x ∈ pre, x.sending = false) ∧
      e.bulletin.isStatus = true ∧ (sendingStatus n).slc.successor = some b ∧ e.attempts = n) :=
  ⟨by decide, by decide, by decide, by decide, by decide,
    fun _ => ⟨_, [_], [], _, _, rfl, rfl, rfl, rfl, by simp, rfl, rfl, rfl⟩⟩

/-! ### Witnesses: the peer view -/

theorem witness_StatusOffered :
    (let s := { genset with pvt := { genset.pvt with statusNext := some 0, extraDue := true } }
     s.pvt.statusNext = some 0 ∧ 0 ≤ s.now ∧ s.hpt.nodeState = .run ∧ s.slc.queue = [] ∧ s.slc.hold = [] ∧
       s.pvt.extraDue = true ∧ s.pvt.lastExtra = none) ∧
    statusNow genset (.genset (gensetStatus genset)) ∧ statusNow board (.board (boardStatus board)) ∧
    (let s := { board with pvt := { board.pvt with statusNext := some 0 } }
     (inState .mute s).hpt.nodeState = .mute ∧ (inState .mute s).pvt.statusNext = some 0) :=
  ⟨by decide, .inl ⟨rfl, rfl⟩, .inr ⟨rfl, rfl⟩, by decide⟩

theorem run_ne_config : NodeState.run ≠ .config := by decide

/-- A GENSET at a time with a record of node 3 of a freshness. -/
def peering (t : Nat) (f : Freshness) (since : Option Int) : State :=
  { at' t genset with pvt := { genset.pvt with peers := [⟨3, 0, status, f, since⟩] } }

theorem witness_PeersAge :
    (∃ p, (peering 6000000 .fresh none).pvt.peer 3 = some p ∧ p.freshness = .fresh ∧
      (3 * (peering 6000000 .fresh none).pvt.base * 1000 : Int)
        ≤ (peering 6000000 .fresh none).siteMillis - p.lastHeard) ∧
    (∃ p, (peering 20000000 .stale none).pvt.peer 3 = some p ∧ p.freshness = .stale ∧
      (10 * (peering 20000000 .stale none).pvt.base * 1000 : Int)
        ≤ (peering 20000000 .stale none).siteMillis - p.lastHeard) ∧
    (∃ p, (peering 120000000 .lost (some 0)).pvt.peer 3 = some p ∧ p.freshness = .lost ∧ p.lostSince = some 0 ∧
      (60 * (peering 120000000 .lost (some 0)).pvt.base * 1000 : Int)
        ≤ (peering 120000000 .lost (some 0)).siteMillis - 0) :=
  ⟨⟨_, rfl, rfl, by decide⟩, ⟨_, rfl, rfl, by decide⟩, ⟨_, rfl, rfl, rfl, by decide⟩⟩

/-- PEER_LOST on a GENSET with pledges to the board that is lost and to another, on a BOARD, and in CONFIG. -/
theorem witness_PeersLost :
    (let s := { peering 20000000 .stale none with plu := { genset.plu with
       waits := [⟨⟨3, 1⟩, 1, .planned, 2, 300, 300, 3, 0, 21000000⟩]
       pledges := [⟨⟨3, 9⟩, 200, .forced, .offered, 1, 21000000⟩, ⟨⟨5, 9⟩, 100, .forced, .offered, 2, 21000000⟩] } }
     Running s ∧ (∃ p, s.pvt.peer 3 = some p ∧ p.freshness = .stale ∧ p.lastHeard = 0) ∧
       ∃ e ∈ s.plu.pledges, e.claim.board ≠ 3) ∧
    OnBoard { at' 20000000 board with pvt := (peering 0 .stale none).pvt } ∧
    (inState .config (peering 20000000 .stale none)).hpt.nodeState = .config :=
  ⟨⟨⟨rfl, run_ne_config⟩, ⟨_, rfl, rfl, rfl⟩, by decide⟩, ⟨rfl, run_ne_config⟩, rfl⟩

/-- A GENSET whose view is full of records of nodes 3 to 34, of a freshness. -/
def crowded (f : Freshness) (since : Option Int) : State :=
  { genset with pvt := { genset.pvt with
    peers := (List.range 32).map fun i => ⟨i + 3, 0, status, f, since⟩ } }

/-- A STATUS of a FRESH and a LOST node, of one that restarted on a GENSET, on a BOARD and in CONFIG, and into a full
view with and without a LOST record. -/
theorem witness_PeersAgeAtStatus :
    (∀ f since, ∃ p, (peering 0 f since).pvt.peer 3 = some p ∧ p.freshness = f ∧ p.status.runTag = status.runTag ∧
      p.status.role = status.role) ∧
    (let other : StatusBody := .genset ⟨1, .online, true, false, false, false, 10, 500, 1000, 500, 0, 400, 600⟩
     status.runTag ≠ other.runTag ∧ Running (peering 0 .fresh none) ∧
       (inState .config (peering 0 .fresh none)).hpt.nodeState = .config ∧
       OnBoard { board with pvt := (peering 0 .fresh none).pvt }) ∧
    (let s := crowded .lost (some 5)
     s.pvt.peer 40 = none ∧ 32 ≤ s.pvt.peers.length ∧
       (∃ q ∈ s.pvt.peers, q.freshness = .lost ∧ q.lostSince = some 5 ∧ q.node = 3) ∧
       ∀ r ∈ s.pvt.peers, r.lostSince = some 5 ∧ 3 ≤ r.node) ∧
    (let s := crowded .stale none
     s.pvt.peer 40 = none ∧ 32 ≤ s.pvt.peers.length ∧ s.pvt.overflowReported = false ∧
       ∀ r ∈ s.pvt.peers, r.freshness ≠ .lost) :=
  ⟨fun _ _ => ⟨_, rfl, rfl, rfl, rfl⟩,
    ⟨by decide, ⟨rfl, by decide⟩, rfl, rfl, by decide⟩, by decide +kernel, by decide +kernel⟩
/-- R32: a full view replaces the record LOST longest, of equals the lower id. -/
theorem test_full_view : ((takeStatus 40 status (crowded .lost (some 5))).pvt.peers.map (·.node)).head? = some 40 ∧
    ((takeStatus 40 status (crowded .stale none)).evf.ring.map (·.kind)) = [.peerOverflow] := by decide +kernel
theorem witness_GroupCostBetween :
    ∃ v, (costInputsOf [⟨3, 500, 1000, 400, 60⟩, ⟨4, 300, 1000, 520, 60⟩]).groupCi = some v ∧
      0 < (costInputsOf [⟨3, 500, 1000, 400, 60⟩, ⟨4, 300, 1000, 520, 60⟩]).weight :=
  ⟨445, by decide⟩

/-- R39, R40: with FRESH sets 3 (ONLINE, 500 of 1000, 600 minutes) and 2 and 4 (STOPPED in AUTO, 300 and 600 minutes),
and the node itself STOPPED, group 1 has a load of 500, a capacity of 1000, a count of 1; best is 4, worst 3. -/
theorem test_group :
    let s := { genset with pvt := { genset.pvt with peers := [⟨3, 0, status, .fresh, none⟩,
      ⟨4, 0, .genset ⟨1, .stopped, true, false, false, false, 9, 0, 1000, 0, 0, 0, 600⟩, .fresh, none⟩,
      ⟨2, 0, .genset ⟨1, .stopped, true, false, false, false, 9, 0, 1000, 0, 0, 0, 300⟩, .fresh, none⟩] } }
    onlineLoad 1 s = 500 ∧ onlineCapacity 1 s = 1000 ∧ onlineCount 1 s = 1 ∧
    (bestStopped 1 s).map (·.node) = some 4 ∧ (worstOnline 1 s).map (·.node) = some 3 := by decide +kernel

/-! ### Witnesses: set control -/

theorem filter_time_over : 0 + State.reset.fpc.filterTime * millisecond ≤ 16000 := by decide

/-- A GENSET whose set state's limit ends at this moment. -/
def timed (st : SetState) (attempts : Nat) : State :=
  let s := at' 5 genset
  s.withSetc { s.setc with state := st, timer := some 5, attempts := attempts }

theorem witness_SetLimitsEnd : ∀ st, TimedOut st (timed st 0) ∧ TimedOut st (timed st 2) ∧
    (timed st 0).setc.attempts ≠ 2 ∧ (timed st 2).setc.attempts = 2 := fun _ =>
  ⟨⟨⟨rfl, run_ne_config⟩, rfl, 5, rfl, le_refl 5⟩, ⟨⟨rfl, run_ne_config⟩, rfl, 5, rfl, le_refl 5⟩,
    (by decide : (0 : Nat) ≠ 2), rfl⟩

/-- A filter whose raw level has differed from its filtered level since 0, on each line, 16 ms later. -/
def steady (level : Bool) (st : SetState) (s : State) : State :=
  let x : Filter := ⟨level, !level, some 0⟩
  let u := (at' 16000 s).withSetc { s.setc with state := st }
  u.withFpc { u.fpc with feederA := x, feederB := x, running := x, breaker := x, setFault := x }

theorem witness_SetInputs :
    (∀ line level st, Stable line level (steady level st genset) ∧ Running (steady level st genset)) ∧
    (inputEffect .running true .cranking).isSome ∧ (inputEffect .running false .cooling).isSome ∧
    (inputEffect .breakerClosed true .syncing).isSome ∧ (inputEffect .breakerClosed false .unloading).isSome ∧
    (inputEffect .setFault true .stopped).isSome ∧ (inputEffect .setFault true .faulted).isNone ∧
    ¬Running (inState .config genset) :=
  ⟨fun line _ _ => ⟨by cases line <;> exact ⟨rfl, 0, rfl, filter_time_over⟩, rfl, run_ne_config⟩,
    rfl, rfl, rfl, rfl, rfl, rfl, fun h => absurd rfl h.2⟩
theorem witness_ClearSet :
    (Running (timed .faulted 3) ∧ (timed .faulted 3).setc.state = .faulted ∧
      (timed .faulted 3).fpc.setFault.level = false) ∧ genset.setc.state ≠ .faulted ∧
    ((steady false .intending genset).fpc.running.level = true ∧
      TimedOut .intending { timed .intending 0 with fpc := (steady false .intending genset).fpc }) ∧
    (let s := { steady false .stopped genset with setc := { genset.setc with mode := .manual } }
     s.fpc.running.level = true ∧ Running s ∧ s.setc.mode = .manual ∧ s.setc.state = .stopped) :=
  ⟨⟨⟨rfl, by decide⟩, rfl, rfl⟩, by decide, ⟨rfl, ⟨rfl, by decide⟩, rfl, 5, rfl, by decide⟩,
    rfl, ⟨rfl, by decide⟩, rfl, rfl⟩
theorem witness_SetModeAndRun :
    (∀ st, Running (timed st 0) ∧ (1 : Byte).toNat = RunMode.manual.code ∧ (timed st 0).setc.mode ≠ .manual) ∧
    (∀ st, let s := (timed st 0).withSetc { (timed st 0).setc with mode := .manual }
      Running s ∧ s.setc.mode = .manual ∧ s.setc.state = st) ∧
    (runEffect true .stopped).isSome ∧ (runEffect false .online).isSome ∧ (runEffect true .online).isNone ∧
    genset.plu.pledges = [] :=
  ⟨fun _ => ⟨⟨rfl, run_ne_config⟩, rfl, (by decide : RunMode.auto ≠ .manual)⟩, fun _ => ⟨⟨rfl, run_ne_config⟩, rfl, rfl⟩, rfl, rfl, rfl, rfl⟩

/-- A STOPPED set of group 1 whose fellow runs at 900 of 1000, with the start watch 30 s old. -/
def needed : State :=
  let s := at' 30000000 genset
  { s with
    pvt := { s.pvt with peers := [⟨3, 30000, .genset ⟨1, .online, true, false, false, false, 9, 900, 1000, 100, 0,
      400, 600⟩, .fresh, none⟩] }
    setc := { s.setc with startWatch := some ⟨0, 0⟩ } }

theorem witness_StartContest :
    (Running needed ∧ needed.setc.mode = .auto ∧ needed.setc.state = .stopped ∧
      0 < onlineCapacity needed.cfg.groupA needed ∧
      needed.cfg.startThreshold
        < min (1000 * onlineLoad needed.cfg.groupA needed / onlineCapacity needed.cfg.groupA needed) 1000 ∧
      needed.fau.factor = 1000 ∧ (∃ v, bestStopped needed.cfg.groupA needed = some v ∧ v.node = needed.eventId) ∧
      needed.hpt.nodeState = .run ∧ needed.slc.queue.length < 15) ∧
    (let s := genset.withSetc { genset.setc with state := .intending, intentKey := some 600 }
     Running s ∧ s.setc.state = .intending ∧ s.setc.intentKey = some 600 ∧
       600 = 600 ∧ 19 < s.eventId ∧ ¬(21 < s.eventId)) :=
  ⟨⟨⟨rfl, by decide⟩, rfl, rfl, by decide +kernel, by decide +kernel, rfl,
      ⟨_, rfl, by decide +kernel⟩, rfl, by decide⟩, ⟨rfl, by decide⟩, rfl, rfl, rfl, by decide +kernel, by decide +kernel⟩

/-- An ONLINE set of group 1 beside one at 100 of 1000 with fewer minutes run dearer, its stop watch 300 s old. -/
def spare (st : SetState) (minutes : Nat) : State :=
  let s := at' 300000000 genset
  { s with
    pvt := { s.pvt with peers := [⟨3, 300000, .genset ⟨1, .online, true, false, false, false, 9, 100, 1000, 900, 0,
      400, minutes⟩, .fresh, none⟩] }
    setc := { s.setc with state := st, stopWatch := some ⟨0, 0⟩ }
    fau := { s.fau with minutes := 60 } }

/-- The stop side: a candidate that leaves, one that stays, and one that heard the load rise as it unloads; and the
contest of STOP_INTENDING at each side of its key and node id. -/
theorem witness_StopContest :
    (Running (spare .online 600) ∧ (spare .online 600).setc.mode = .auto ∧ (spare .online 600).setc.state = .online ∧
      0 < onlineCapacity (spare .online 600).cfg.groupA (spare .online 600) - (spare .online 600).cfg.rating ∧
      (spare .online 600).setc.stopWatch = some ⟨0, 0⟩ ∧
      0 + (spare .online 600).cfg.stopDelay * second ≤ (spare .online 600).now ∧
      (spare .online 600).plu.pledges = [] ∧
      (spare .online 600).cfg.minOnline < onlineCount (spare .online 600).cfg.groupA (spare .online 600) ∧
      (∃ v, worstOnline (spare .online 600).cfg.groupA (spare .online 600) = some v ∧
        v.node = (spare .online 600).eventId)) ∧
    (Running { needed with setc := { needed.setc with state := .unloading } } ∧
      0 < onlineCapacity needed.cfg.groupA { needed with setc := { needed.setc with state := .unloading } } ∧
      needed.cfg.startThreshold < min (1000 * onlineLoad needed.cfg.groupA
        { needed with setc := { needed.setc with state := .unloading } } / onlineCapacity needed.cfg.groupA
        { needed with setc := { needed.setc with state := .unloading } }) 1000) ∧
    (let s := genset.withSetc { genset.setc with state := .stopIntending, intentKey := some 600 }
     Running s ∧ s.setc.intentKey = some 600 ∧ 599 < 600 ∧ s.eventId < 21 ∧ ¬(s.eventId < 20) ∧
       2 ≠ s.cfg.groupA) ∧
    (let s := genset.withSetc { genset.setc with mode := .manual }
     s.setc.mode = .manual) := by
  refine ⟨⟨⟨rfl, by decide⟩, rfl, rfl, ?_⟩, ⟨⟨rfl, by decide⟩, ?_⟩, ⟨⟨rfl, by decide⟩, ?_⟩, rfl⟩ <;> decide +kernel
/-- R49, R55: the worst ranked set intends to stop; an unloading one goes back when the load is high. -/
theorem test_stop_contest : (groupCheck false (spare .online 600)).setc.state = .stopIntending ∧
    (groupCheck false (spare .online 30)).setc.state = .online ∧
    (groupCheck false { needed with setc := { needed.setc with state := .unloading } }).setc.state = .syncing := by
  decide +kernel
theorem test_start_contest : (groupCheck false needed).setc.state = .intending ∧
    (groupCheck false (at' 29999999 needed)).setc.state = .stopped := by decide +kernel

/-! ### Witnesses: fuel -/

/-- A running set at a power, with one lot of so much. -/
def burning (p volume : Nat) : State :=
  { genset with
    fpc := { genset.fpc with running := ⟨true, true, none⟩, sample := { genset.fpc.sample with p := p } }
    fau := { genset.fau with
      copy := some { (record .genset).fuel with curve := [100, 200, 300, 400, 500] }
      lots := [⟨4411, 0, .delivery, 400000, volume, 1850, 0, false⟩] } }

/-- 400 permille of 1000 on the curve 100, 200, 300 … is 65,000 of 9000ths: 7 mL, 2000 left, from the lot. -/
theorem test_burn : (fuelSample (burning 400 400000)).fau.burned = 7 ∧
    (fuelSample (burning 400 400000)).fau.burnResidue = 2000 ∧
    (fuelSample (burning 400 5)).fau.unlotted = 2 ∧ (fuelSample (burning 400 5)).fau.dryReported = true := by
  decide +kernel

theorem witness_SampleBurns :
    (genset.fpc.running.level = false) ∧
    ((burning 400 5).fpc.running.level = true) ∧
    (let s := burning 400 400000
     let b := (s.fau.burnResidue + flowAt 400 1000 [100, 200, 300, 400, 500]) / 9000
     s.fau.copy.isSome ∧ s.fau.costResidue < 1000 ∧ s.fau.burned + b < 2 ^ 64 ∧
       s.fau.burnedCost + (s.fau.costResidue + costOf s.fau.lots + b * 65535) / 1000 < 2 ^ 64 ∧
       s.fau.lastPrice ≤ 65535 ∧ (∀ l ∈ s.fau.lots, l.price ≤ 65535) ∧ b = 7) ∧
    ((([] : List Lot).map (·.remaining)).sum ≤ 7 ∧
      7 < (([] : List Lot).map (·.remaining)).sum + 400000) ∧
    (((burning 400 7).fau.lots.map (·.remaining)).sum = 7 ∧
      ((burning 400 5).fau.lots.map (·.remaining)).sum < 7 ∧ (burning 400 5).fau.dryReported = false) := by
  decide +kernel
theorem witness_FuelFigures :
    (∃ c, genset.fau.copy = some c ∧ genset.fau.refuelWanted = false ∧ c.mCrit < c.mLow) ∧
    ((recomputeFuel genset).fau.minutes = 65535) ∧
    (∃ c, (recomputeFuel (fuelSample (burning 1000 1))).fau.minutes < c ∧ c = 240) ∧
    (let s := genset.withFau { genset.fau with refuelWanted := true }
     s.fau.refuelWanted = true ∧ 240 + 30 ≤ (recomputeFuel s).fau.minutes) :=
  ⟨⟨_, rfl, rfl, by decide⟩, by decide +kernel, ⟨240, by decide +kernel, rfl⟩, by decide +kernel⟩

/-- A GENSET with an open delivery of 500 litres, metered so far. -/
def delivering (metered : Nat) : State :=
  genset.withFau { genset.fau with delivery := some ⟨4602, 1920, 500, metered, 0, 0, 0, 600000000⟩ }

theorem witness_PulsesMetered :
    (∃ c d, (delivering 0).fau.copy = some c ∧ (delivering 0).fau.delivery = some d ∧ 0 < c.pulsesPerLitre ∧
      (∀ p ∈ [((40 : Nat), (40 : Nat))], 40 ≤ p.1 ∧ 40 ≤ p.2) ∧ d.carry < c.pulsesPerLitre ∧
      (delivering 0).fpc.pulses < 2 ^ 32 ∧ d.metered + (d.carry + 1 * 1000) / c.pulsesPerLitre < 2 ^ 32) ∧
    ((39 : Nat) < 40 ∧ (40 : Nat) ≤ 40 ∧ genset.fau.copy.isSome ∧ genset.fau.delivery = none ∧
      genset.fau.strayLast = none) ∧ State.reset.fau.copy = none ∧
    (let s := (at' 60000000 genset).withFau { genset.fau with strayLast := some 0 }
     s.fau.strayLast = some 0 ∧ 0 + 60 * second ≤ s.now) :=
  ⟨⟨_, _, rfl, rfl, by decide, by simp, by decide, by decide, by decide⟩, by decide, rfl, by decide⟩
theorem witness_Deliveries :
    (∀ metered, ∃ c d, Fuelled c (delivering metered) ∧ (delivering metered).fau.delivery = some d) ∧
    (∃ c, Fuelled c genset ∧ genset.fau.delivery = none ∧
      0 < (1 : Word).toNat ∧ (0x7FFFFFFF : Word).toNat < 0x80000000 ∧ 0x80000000 ≤ (0x80000000 : Word).toNat ∧
      (∃ l ∈ genset.fau.lots, l.ticket = (4411 : Word).toNat) ∧ (∀ l ∈ genset.fau.lots, l.ticket ≠ (1 : Word).toNat)) ∧
    (hostGate (.readTank 4) = some (4, some .genset, [.config, .run, .mute]) ∧ State.reset.fau.copy = none) ∧
    (∃ d, (at' 599999999 (delivering 0)).fau.delivery = some d ∧ (at' 599999999 (delivering 0)).now < d.autoClose) ∧
    (∃ d, (at' 600000000 (delivering 9)).fau.delivery = some d ∧ 0 < d.metered ∧
      d.autoClose ≤ (at' 600000000 (delivering 9)).now ∧ genset.fau.lots.length < 8) :=
  ⟨fun _ => ⟨_, _, ⟨rfl, rfl⟩, rfl⟩, ⟨_, ⟨rfl, rfl⟩, rfl, by decide⟩, ⟨rfl, rfl⟩, ⟨_, rfl, by decide⟩,
    _, rfl, by decide⟩

/-- An open delivery metered to 9 mL, with the lot list full. -/
def mergingClose : State :=
  let l : Lot := ⟨4411, 0, .delivery, 1000, 1000, 1850, 0, false⟩
  (delivering 9).withFau { (delivering 9).fau with lots := List.replicate 7 l ++ [{ l with ticket := 4500 }] }

/-- A close into a full list: 9 mL at 1920 join 1000 mL at 1850, which makes 1851, told before the delivery's end. -/
theorem witness_DeliveryMerges :
    mergingClose.fau.lots.length = 8 ∧ (∃ d, mergingClose.fau.delivery = some d ∧ 0 < d.metered) ∧
    (∃ others n m, mergingClose.fau.lots = others ++ [n] ∧
      (after (.deliveryClose 3) mergingClose).fau.lots = others ++ [m] ∧ m.price = 1851 ∧ m.merged = 1) ∧
    ((after (.deliveryClose 3) mergingClose).evf.ring.map fun r => (r.kind, r.value)).take 2
      = [(.lotMerged, 4602), (.deliveryDone, 9)] :=
  ⟨by decide, ⟨_, rfl, by decide⟩, ⟨List.replicate 7 ⟨4411, 0, .delivery, 1000, 1000, 1850, 0, false⟩, _,
    ⟨4500, 1, .delivery, 1009, 1009, 1851, 0, true⟩, rfl, by decide +kernel, rfl, rfl⟩, by decide +kernel⟩

/-- A GENSET with a level reading and its check due. -/
def checked (level : Nat) (fresh : Bool) : State :=
  (at' 60000000 genset).withFau { genset.fau with
    nextCheck := some 60000000, level := some level, levelFresh := fresh, outCount := 2 }

/-- A state with its front end LOST. -/
def unmetered (s : State) : State := s.withFpc { s.fpc with lost := true }

/-- R82, R141: the third check out of tolerance sets DIVERGE; without a sample, or in LOST, the counts stay. -/
theorem test_diverge : (after .levelCheck (checked 405001 true)).fau.diverge = true ∧
    (after .levelCheck (checked 405000 true)).fau.diverge = false ∧
    (after .levelCheck (checked 405001 false)).fau.outCount = 2 ∧
    (after .levelCheck (unmetered (checked 405001 true))).fau.outCount = 2 := by decide +kernel
/-- R83: a resync of 400,000 mL to 399,000 mL is 1,000 mL of shrinkage. -/
theorem test_resync : (after (.resyncTank 3) (checked 399000 true)).fau.shrinkage = 1000 ∧
    (after (.resyncTank 3) (checked 399000 true)).hpt.response.body = [0xFF, 0xFF, 0xFC, 0x18] := by decide +kernel
theorem witness_LevelCheckAndResync :
    (∀ fresh, ∃ c, Fuelled c (checked 405001 fresh) ∧ (checked 405001 fresh).fau.nextCheck = some 60000000 ∧
      60000000 ≤ (checked 405001 fresh).now ∧ (checked 405001 fresh).fau.level = some 405001 ∧
      (checked 405001 fresh).fau.levelFresh = fresh ∧ (checked 405001 fresh).fau.delivery = none ∧
      (checked 405001 fresh).fpc.lost = false ∧ Fuelled c (unmetered (checked 405001 fresh)) ∧
      (unmetered (checked 405001 fresh)).fpc.lost = true) ∧
    (∃ c, Fuelled c (delivering 0) ∧ (delivering 0).fau.delivery.isSome) ∧
    (∃ c, Fuelled c genset ∧ genset.fau.level = none) :=
  ⟨fun _ => ⟨_, ⟨rfl, rfl⟩, rfl, le_refl 60000000, rfl, rfl, rfl, rfl, ⟨rfl, rfl⟩, rfl⟩, ⟨_, ⟨rfl, rfl⟩, rfl⟩,
    ⟨_, ⟨rfl, rfl⟩, rfl⟩⟩
theorem witness_LotListKept : ∃ t, FuelOk genset ∧ step (genset.withPending [.poll]) = .next t ∧
    FuelOk (genset.withPending [.poll]) :=
  have h : FuelOk genset := ⟨by decide, by decide, by decide, by decide, by decide, by decide⟩
  ⟨_, h, rfl, ⟨h.few, h.volumes, h.whole, h.burn, h.cost, h.factor⟩⟩

/-! ### Witnesses: pledges -/

/-- A GENSET that is ONLINE with headroom, a claim of board 4 waiting and one of board 5 pledged to. -/
def pledging (st : PledgeState) : State :=
  let s := at' 7000000 genset
  { s with
    setc := { s.setc with state := .online }
    plu := { s.plu with
      headroom := 500
      waits := [⟨⟨4, 1⟩, 1, .planned, 2, 300, 300, 3, 0, 7000000⟩]
      pledges := [⟨⟨5, 9⟩, 200, .forced, st, 1, 7000000⟩], created := 1 } }

theorem witness_CostIndex :
    (∃ c, Running (pledging .offered) ∧ (pledging .offered).fau.copy = some c ∧ 0 < c.rating ∧
      (pledging .offered).setc.state = .online ∧ c.rating ≤ 10 * 100 ∧ 10 * 100 < c.rating + 10) ∧
    (Running genset ∧ genset.setc.state ≠ .online) :=
  ⟨⟨_, ⟨rfl, by decide⟩, rfl, by decide, rfl, by decide, by decide⟩, ⟨rfl, by decide⟩, by decide⟩
theorem witness_PledgesAtPledger :
    (∀ st, ∃ e, (pledging st).plu.entry ⟨5, 9⟩ = some e ∧ e.state = st ∧ e.deadline ≤ (pledging st).now ∧
      Running (pledging st) ∧ ∀ w ∈ (pledging st).plu.waits, w.claim ≠ e.claim) ∧
    ([(20, 120)].find? (fun e => decide (e.1 = genset.eventId)) = some (20, 120)) ∧
    ([(20, 0)].find? (fun e => decide (e.1 = genset.eventId)) = some (20, 0)) ∧
    ([(3, 120)].find? (fun e => decide (e.1 = genset.eventId)) = none) ∧
    genset.plu.entry ⟨5, 9⟩ = none ∧
    (∃ w, Running (pledging .offered) ∧ w ∈ (pledging .offered).plu.waits ∧ w.expiry ≤ (pledging .offered).now) :=
  ⟨fun st => by cases st <;> exact ⟨_, rfl, rfl, le_refl 7000000, ⟨rfl, run_ne_config⟩, by decide +kernel⟩,
    by decide +kernel, by decide +kernel, by decide +kernel, rfl, _, ⟨rfl, run_ne_config⟩, .head _, le_refl 7000000⟩

/-- R95: with 1000 derated and 200 pledged, a wait of 300 is served whole; with 400 derated, the headroom is spent. -/
theorem test_serves :
    ((pledging .offered).plu.pledges.map (·.claim)).Nodup ∧
    (let t := servePledges (pledging .offered)
     t.plu.pledges.map (·.kw) = [200, 300] ∧ t.plu.headroom = 500 ∧ choose t.plu = none) ∧
    (let t := servePledges ((pledging .offered).withPlu { (pledging .offered).plu with derated := 400 })
     t.plu.pledges.map (·.kw) = [200, 200] ∧ t.plu.headroom = 0 ∧ t.plu.waits.map (·.remaining) = [100]) := by
  decide +kernel

/-- A GENSET with a derated capacity of 500 at a power, under pledges of an older OFFERED 200, a CONFIRMED 150, and
the newest, OFFERED, of 250. -/
def derating (p : Nat) : State :=
  let s := pledging .offered
  { s with
    fpc := { s.fpc with sample := { s.fpc.sample with p := p } }
    plu := { s.plu with
      derated := 500
      pledges := [⟨⟨5, 9⟩, 200, .planned, .offered, 1, 7000000⟩, ⟨⟨6, 1⟩, 150, .forced, .confirmed, 2, 7000000⟩,
        ⟨⟨7, 2⟩, 250, .planned, .offered, 3, 7000000⟩] } }

/-- A room of 300 lowers the older entry in part, one of 150 takes it whole, one of 600 leaves all; and a sample. -/
theorem witness_DerateAndTrip :
    (∀ p, ((derating p).plu.pledges.map (·.claim)).Nodup) ∧
    (let s := derating 200
     let excess := 600 - (s.plu.derated - s.fpc.sample.p)
     (s.plu.pledges.map (·.kw)).sum = 600 ∧ 250 < excess ∧ excess < 250 + 200) ∧
    (let s := derating 350
     let excess := 600 - (s.plu.derated - s.fpc.sample.p)
     250 < excess ∧ excess = 250 + 200) ∧
    (600 ≤ ({ derating 0 with plu := { (derating 0).plu with derated := 600 } } : State).plu.derated) ∧
    (Room (derating 200) ∧ (derating 200).hpt.nodeState = .run ∧ (derating 200).slc.queue.length + 3 ≤ 16) ∧
    (∃ c, Running (derating 200) ∧ (derating 200).fau.copy = some c ∧ (derating 200).setc.state = .online ∧
      (derating 200).fpc.lost = false) :=
  ⟨fun p => (by decide +kernel : ((derating 0).plu.pledges.map (·.claim)).Nodup), by decide, by decide, by decide,
    ⟨.inr (by decide), rfl, by decide⟩, ⟨_, ⟨rfl, run_ne_config⟩, rfl, rfl, rfl⟩⟩
/-- R102, R103: 600 pledged in a room of 300 leaves 150 and 150; a trip takes all three, the newest first. -/
theorem test_derate : ((derateCheck (derating 200)).plu.pledges.map (·.kw)) = [150, 150] ∧
    ((derateCheck (derating 350)).plu.pledges.map (·.kw)) = [150] ∧
    ((tripNotice (derating 200)).evf.ring.map (·.value)) = [250 * 65536, 150 * 65536, 200 * 65536] := by
  decide +kernel
theorem witness_ArbiterChoosesAndServes :
    (Running genset ∧ (1 : Byte).toNat = ProfileName.b.code) ∧
    (∃ w, choose (pledging .offered).plu = some w ∧ (pledging .offered).plu.entry w.claim = none) ∧
    (let s := (pledging .offered).withPlu { (pledging .offered).plu with
       waits := [⟨⟨5, 9⟩, 1, .forced, 2, 300, 300, 3, 0, 7000000⟩] }
     ∃ w e, choose s.plu = some w ∧ s.plu.entry w.claim = some e) ∧ choose genset.plu = none :=
  ⟨⟨⟨rfl, run_ne_config⟩, rfl⟩, ⟨_, rfl, by decide +kernel⟩, ⟨_, _, rfl, rfl⟩, rfl⟩
theorem witness_ClaimListed :
    (2 ≠ genset.cfg.groupA ∧ 1 = genset.cfg.groupA) ∧ (groupCheck true genset).plu.waits = [] ∧
    ((groupCheck true genset).plu.entry ⟨4, 1⟩).isSome = false ∧
    (groupCheck true genset).setc.state ≠ .online := by decide +kernel
/-- R97: a PLANNED claim of 300 kW is served whole, and the PLEDGE is NORMAL. -/
theorem test_serve : (serve ⟨⟨4, 1⟩, 1, .planned, 2, 300, 300, 3, 0, 7000000⟩ (pledging .offered)).slc.queue
      = [⟨.pledge 4 1 300, .normal, 0, none, false⟩] := by decide +kernel
theorem witness_HeadroomLaw :
    (∃ t, HeadroomOk genset ∧ step genset = .next t ∧ genset.setc.state ≠ .online ∧ t.setc.state ≠ .online ∧
      genset.plu.entry ⟨4, 1⟩ = none) ∧ HeadroomOk (pledging .offered) ∧ (pledging .offered).plu.headroom ≠ 0 :=
  ⟨⟨_, fun h => absurd rfl h, rfl, by decide +kernel, by decide +kernel, rfl⟩, fun _ => ⟨rfl, rfl, rfl, rfl⟩,
    by decide +kernel⟩
theorem witness_PledgeTablesKept : ∃ t, PledgesOk (pledging .confirmed) ∧ step (pledging .confirmed) = .next t :=
  ⟨_, ⟨by decide, by decide, by decide, by decide, by decide, fun _ => by decide +kernel, by decide⟩, rfl⟩

/-! ### Witnesses: changeover -/

/-- The BOARD in a board state with a claim of an origin on feeder B, its deadline and limits ending now. -/
def moving (st : BoardState) (origin : ClaimOrigin) (pledges : List PledgeItem) (confirmed : Option Nat) : State :=
  let s := at' 9000000 board
  { s with chs := { s.chs with
    state := st, serial := 1
    claim := some ⟨1, .b, 2, .planned, 1, origin, 1298, pledges, confirmed, 9000000⟩
    openLimit := some ⟨.a, 9000000⟩, deadTimer := some 9000000, closeLimit := some 9000000
    fallbackReason := .closeFail } }

/-- A feeder's filtered position replaced. -/
def placed (f : Feeder) (level : Bool) (s : State) : State :=
  match f with
  | .a => s.withFpc { s.fpc with feederA := ⟨level, level, none⟩ }
  | .b => s.withFpc { s.fpc with feederB := ⟨level, level, none⟩ }

/-- The liveness of the two sources replaced. -/
def lit (a b : Bool) (s : State) : State :=
  s.withFpc { s.fpc with sample := { s.fpc.sample with liveA := a, liveB := b } }

theorem witness_PlannedClaim :
    (board.hpt.role = some .board ∧ board.hpt.nodeState = .run ∧ (7 : Byte).toNat ≤ 7 ∧ 7 < (8 : Byte).toNat ∧
      board.chs.state = .settled ∧ board.chs.active = some .a ∧ board.live (otherFeeder .a) = true ∧
      (board.chs.feeder (otherFeeder .a)).faulty = false ∧ board.slc.queue.length < 16) ∧
    (lit true false board).live (otherFeeder .a) = false ∧
    (∀ o, ∃ c, OnBoard (moving .claiming o [] none) ∧ (moving .claiming o [] none).chs.state = .claiming ∧
      (moving .claiming o [] none).chs.claim = some c ∧ c.confirmed = none ∧
      c.deadline ≤ (moving .claiming o [] none).now ∧ c.origin = o ∧ Room (moving .claiming o [] none)) :=
  ⟨by decide +kernel, by decide +kernel,
    fun o => ⟨_, ⟨rfl, run_ne_config⟩, rfl, rfl, rfl, le_refl 9000000, rfl, .inr (by decide : (0 : Nat) < 16)⟩⟩
theorem witness_PledgesCollected :
    (∃ c, OnBoard (moving .claiming .changeover [⟨20, 400, none⟩] none) ∧
      (moving .claiming .changeover [⟨20, 400, none⟩] none).chs.claim = some c ∧ c.confirmed = none ∧
      (∃ e ∈ c.pledges, e.node = 20) ∧ c.pledges.length < 8 ∧
      ((c.pledges.map (fun e => if e.node = 20 then { e with kw := 1297 } else e)).map (·.kw)).sum < c.requested ∧
      ((c.pledges ++ [(⟨21, 897, none⟩ : PledgeItem)]).map (·.kw)).sum < c.requested ∧ (2 ≠ c.serial)) ∧
    (∃ c, (moving .claiming .changeover (List.replicate 8 ⟨20, 1, none⟩) none).chs.claim = some c ∧
      ¬(∃ e ∈ c.pledges, e.node = 21) ∧ 8 ≤ c.pledges.length) ∧
    (∃ c, (moving .opening .changeover [] (some 0)).chs.claim = some c ∧ c.confirmed.isSome) :=
  ⟨⟨_, ⟨rfl, run_ne_config⟩, rfl, rfl, ⟨_, .head _, rfl⟩, by decide, by decide, by decide, by decide⟩,
    ⟨_, rfl, by decide, by decide⟩, _, rfl, rfl⟩

/-- The end of a collection, by its origin and the positions it meets: the old feeder CLOSED or OPEN, the open limit
running, passed or absent, the target live, dead or barred, and a top-up with each level to give back. -/
theorem witness_CollectionEnds :
    (∀ o, ∃ c, (moving .claiming o [⟨20, 898, none⟩] none).chs.claim = some c ∧ c.origin = o ∧ c.confirmed = none ∧
      c.requested ≤ ((c.pledges ++ [(⟨21, 400, none⟩ : PledgeItem)]).map (·.kw)).sum ∧
      (moving .claiming o [⟨20, 898, none⟩] none).closed (otherFeeder c.target) = true ∧
      (placed .a false (moving .claiming o [] none)).closed (otherFeeder c.target) = false) ∧
    (∃ l, (moving .claiming .loss [] none).chs.openLimit = some l ∧
      l.deadline ≤ (moving .claiming .loss [] none).now ∧
      (at' 8999999 (moving .claiming .loss [] none)).now < l.deadline) ∧
    (let s := placed .a false (moving .claiming .fromDark [] none)
     s.live .b = true ∧ CloseAllowed .b s ∧ s.closed .b = false ∧ (lit true false s).live .b = false ∧
       ¬CloseAllowed .b (moving .claiming .fromDark [] none)) ∧
    (let c : ClaimRec := ⟨1, .a, 1, .topup, 7, .topup, 300, [], none, 9000000⟩
     let s := board.withChs { board.chs with state := .topupClaiming, claim := some c, shed2 := some 300, shed3 := some 200 }
     s.chs.claim = some c ∧ c.origin = .topup ∧ c.kind = .topup ∧ (s.chs.feeder .a).lossWatch = none ∧
       s.chs.shed1 = none ∧ s.chs.shed2 = some 300) := by
  refine ⟨fun o => ⟨_, rfl, rfl, rfl, Nat.le_refl 1298, rfl, rfl⟩, ⟨_, rfl, le_refl 9000000, by decide⟩, ?_, ?_⟩
  · exact ⟨rfl, ⟨rfl, rfl⟩, rfl, rfl, fun h => absurd h.1 (by decide)⟩
  · exact ⟨rfl, rfl, rfl, rfl, rfl, rfl⟩
/-- R126, R130: a forced claim's deadline with the old contactor OPEN is DEAD, and with it CLOSED welded. -/
theorem test_collections :
    (after .claimDeadline (placed .a false (moving .claiming .loss [] none))).chs.state = .dead ∧
    (after .claimDeadline (moving .claiming .loss [] none)).chs.state = .isolated ∧
    (after .claimDeadline (placed .a false (moving .claiming .fromDark [] none))).chs.state = .closing := by
  decide +kernel
/-- R117: pledges of 600 and 900 kW cover 1298 kW as 600 and 698. -/
theorem test_walk : takeWalk 1298 [⟨20, 600, none⟩, ⟨21, 900, none⟩]
    = [⟨20, 600, some 600⟩, ⟨21, 900, some 698⟩] := by decide

/-- A forced claim confirmed at a total, on a board with a load of 1180 and channels of 500, 300 and 200. -/
def shedding : State :=
  let s := board
  let channel (n : Nat) : Channel := { Channel.reset with mapping := some (0, 0), level := n }
  { s with
    chs := { s.chs with snapPowers := 500 :: 300 :: 200 :: List.replicate 13 0 }
    mtr := { s.mtr with channels := channel 1 :: channel 2 :: channel 3 :: List.replicate 13 .reset } }

/-- The claim of `shedding`, with a taken total. -/
def forcedFor (total : Nat) : ClaimRec := ⟨1, .b, 2, .forced, 0, .loss, 1298, [], some total, 0⟩

/-- R128: a load of 118.0 kW with a margin of 10 percent: 107.8 kW fit level 3's shed, 74.8 kW level 2's, 19.8 kW level 1's. -/
theorem test_capacity :
    (shedCapacity (forcedFor 1078) shedding).chs.shedMask = 4 ∧
    (shedCapacity (forcedFor 1077) shedding).chs.shedMask = 6 ∧
    (shedCapacity (forcedFor 748) shedding).chs.shedMask = 6 ∧
    (shedCapacity (forcedFor 198) shedding).chs.shedMask = 7 ∧
    ((shedCapacity (forcedFor 197) shedding).evf.ring.map (·.kind)).head? = some .overcommit := by decide +kernel
theorem witness_CapacityShed :
    ((forcedFor 1298).requested ≤ (forcedFor 1298).confirmed.getD 0) ∧
    ((forcedFor 197).kind = .forced ∧ (forcedFor 197).confirmed.getD 0 < (forcedFor 197).requested ∧
      shedding.chs.shed3 = none ∧ shedding.chs.shed2 = none ∧ shedding.chs.shed1 = none) := by decide +kernel
theorem witness_ContactorLimits :
    (∃ c l, let s := moving .opening .changeover [] (some 1298)
      OnBoard s ∧ s.chs.openLimit = some l ∧ l.deadline ≤ s.now ∧ s.closed l.feeder = true ∧
        s.chs.state = .opening ∧ s.chs.claim = some c ∧ c.origin = .changeover) ∧
    (∃ c, let s := placed .a false (moving .dead .changeover [] (some 1298))
      OnBoard s ∧ s.chs.deadTimer = some 9000000 ∧ 9000000 ≤ s.now ∧ s.chs.state = .dead ∧
        s.chs.claim = some c ∧ s.live c.target = true ∧ (s.chs.feeder c.target).faulty = false ∧
        CloseAllowed c.target s ∧ s.closed c.target = false) ∧
    (let s := moving .dead .changeover [] (some 1298)
     ¬CloseAllowed .b s ∧ (lit true false s).live .b = false) ∧
    (∀ o, ∃ c, let s := moving .closing o [] (some 1298)
      OnBoard s ∧ s.chs.closeLimit = some 9000000 ∧ 9000000 ≤ s.now ∧ s.chs.claim = some c ∧
        s.chs.state = .closing ∧ c.origin = o) ∧
    (∃ c, let s := moving .fallback .loss [] (some 1298)
      OnBoard s ∧ s.chs.closeLimit = some 9000000 ∧ s.chs.claim = some c ∧ s.chs.state = .fallback) :=
  ⟨⟨_, _, ⟨rfl, run_ne_config⟩, rfl, le_refl 9000000, rfl, rfl, rfl, rfl⟩,
    ⟨_, ⟨rfl, run_ne_config⟩, rfl, le_refl 9000000, rfl, rfl, rfl, rfl, ⟨rfl, rfl⟩, rfl⟩,
    ⟨fun h => absurd h.1 (by decide), rfl⟩,
    fun _ => ⟨_, ⟨rfl, run_ne_config⟩, rfl, le_refl 9000000, rfl, rfl, rfl⟩, _, ⟨rfl, run_ne_config⟩, rfl, rfl, rfl⟩
/-- A welded old feeder in CLAIMING and OPENING of every claim that is not planned, and in DARK. -/
theorem witness_Welded :
    (∀ o, ∃ c, let s := moving .claiming o [] none
      OnBoard s ∧ Room s ∧ s.chs.openLimit = some ⟨.a, 9000000⟩ ∧ 9000000 ≤ s.now ∧ s.closed .a = true ∧
        s.chs.claim = some c ∧ c.origin = o ∧ s.chs.state = .claiming ∧
        (moving .opening o [] none).chs.state = .opening) ∧
    (let s := (moving .dark .loss [] none).withChs { (moving .dark .loss [] none).chs with claim := none, active := none }
     OnBoard s ∧ Room s ∧ s.chs.openLimit = some ⟨.a, 9000000⟩ ∧ s.closed .a = true ∧ s.chs.claim = none ∧
       s.chs.state = .dark) :=
  ⟨fun _ => ⟨_, ⟨rfl, run_ne_config⟩, .inr (by decide : (0 : Nat) < 16), rfl, le_refl 9000000, rfl, rfl, rfl, rfl, rfl⟩,
    ⟨rfl, run_ne_config⟩, .inr (by decide : (0 : Nat) < 16), rfl, rfl, rfl, rfl⟩
/-- R126: a weld in CLAIMING of a forced move isolates the board with the old feeder FAULTY. -/
theorem test_weld : (after .openLimit (moving .claiming .loss [] none)).chs.state = .isolated ∧
    (after .openLimit (moving .claiming .loss [] none)).chs.feederA.faulty = true ∧
    ((after .openLimit (moving .claiming .loss [] none)).slc.queue.map (·.bulletin)).head?
      = some (.release 1 .failed) := by decide +kernel
/-- FALLBACK for each reason, an active feeder that opens under a planned and a top-up claim, and a return claim. -/
theorem witness_PositionUnderClaim :
    (∀ why, ∃ c, let s := placed .a false ((moving .fallback .changeover [] none).withChs
        { (moving .fallback .changeover [] none).chs with fallbackReason := why })
      OnBoard s ∧ Room s ∧ (s.closed .a = false ∨ s.closed .b = false) ∧ s.chs.claim = some c ∧
        s.chs.state = .fallback ∧ s.chs.fallbackReason = why) ∧
    (∀ st o, ∃ c, let s := placed .a false (moving st o [] none)
      OnBoard s ∧ Room s ∧ s.closed .a = false ∧ s.chs.claim = some c ∧ s.chs.active = some .a ∧
        s.chs.state = st ∧ c.origin = o) :=
  ⟨fun _ => ⟨_, ⟨rfl, run_ne_config⟩, .inr (by decide : (0 : Nat) < 16), .inl rfl, rfl, rfl, rfl⟩,
    fun _ _ => ⟨_, ⟨rfl, run_ne_config⟩, .inr (by decide : (0 : Nat) < 16), rfl, rfl, rfl, rfl, rfl⟩⟩
theorem witness_PositionChanges :
    (let s := placed .b true board
     OnBoard s ∧ s.closed .a = true ∧ s.closed .b = true ∧ s.chs.state ≠ .isolated) ∧
    (∀ st, ∃ c, let s := placed .a false (moving st .changeover [] (some 1298))
      OnBoard s ∧ s.closed .a = false ∧ s.chs.claim = some c ∧ s.chs.state = st) ∧
    (OnBoard board ∧ board.closed .b = false ∧ board.chs.claim = none ∧ board.chs.state = .settled ∧
      board.chs.active = some .a) ∧
    (let s := board.withChs { board.chs with state := .dark, active := none, billing := none }
     OnBoard s ∧ s.closed .b = false ∧ s.chs.claim = none ∧ s.chs.state = .dark) :=
  ⟨⟨⟨rfl, run_ne_config⟩, rfl, rfl, by decide +kernel⟩, fun _ => ⟨_, ⟨rfl, run_ne_config⟩, rfl, rfl, rfl⟩,
    ⟨⟨rfl, run_ne_config⟩, rfl, rfl, rfl, rfl⟩, ⟨rfl, run_ne_config⟩, rfl, rfl, rfl⟩

/-- A DARK board whose source on A is back for 5 s, and one with a capacity shed and its top-up timer ending. -/
def returning : State :=
  let s := at' 5000000 board
  s.withChs { s.chs with
    state := .dark, active := none, billing := none
    feederA := { s.chs.feederA with returnWatch := some 0 } }

/-- A SETTLED board with a level under capacity shed, whose top-up timer ends now. -/
def toppingUp (n : NodeState) : State :=
  let s := inState n (at' 5000000 board)
  s.withChs { s.chs with shed3 := some 200, topupTimer := some 5000000 }

theorem witness_LossReturnAndTopUp :
    (let s := (at' 200000 board).withChs { board.chs with
       feederA := { board.chs.feederA with lossWatch := some ⟨0, false⟩ } }
     OnBoard s ∧ (s.chs.feeder .a).lossWatch = some ⟨0, false⟩ ∧ 0 + s.cfg.lossConfirm * millisecond ≤ s.now ∧
       s.chs.state = .settled ∧ s.chs.active = some .a ∧ s.hpt.nodeState = .run ∧
       s.live (otherFeeder .a) = true ∧ (s.chs.feeder (otherFeeder .a)).faulty = false) ∧
    (OnBoard returning ∧ returning.chs.state = .dark ∧ returning.hpt.nodeState = .run ∧
      (returning.chs.feeder .a).faulty = false ∧ (returning.chs.feeder .a).returnWatch = some 0 ∧
      0 + returning.cfg.returnConfirm * second ≤ returning.now) ∧
    (∀ n, n ≠ .config → OnBoard (toppingUp n) ∧ (toppingUp n).chs.topupTimer = some 5000000 ∧
      5000000 ≤ (toppingUp n).now ∧ (toppingUp n).chs.state = .settled ∧ (toppingUp n).chs.active = some .a ∧
      (toppingUp n).chs.shed1 = none ∧ (toppingUp n).chs.shed2 = none ∧ (toppingUp n).chs.shed3 = some 200) :=
  ⟨⟨⟨rfl, run_ne_config⟩, rfl, by decide +kernel, rfl, rfl, rfl, rfl, rfl⟩,
    ⟨⟨rfl, run_ne_config⟩, rfl, rfl, rfl, rfl, by decide +kernel⟩,
    fun _ h => ⟨⟨rfl, h⟩, rfl, le_refl 5000000, rfl, rfl, rfl, rfl, rfl⟩⟩

/-- A feeder's loss watch set since 0, 200 ms later. -/
def losing (f : Feeder) (s : State) : State :=
  changeFeeder f (fun r => { r with lossWatch := some ⟨0, false⟩ }) (at' 9000000 s)

theorem loss_time_over : 0 + board.cfg.lossConfirm * millisecond ≤ 9000000 := by decide +kernel

/-- A loss with a planned claim collecting, of a claim's target by each origin, in TOPUP_CLAIMING, in MUTE and
without a usable feeder; a return in MUTE; a sample on a live feeder and in DARK. -/
theorem witness_LossFurther :
    (∀ o, ∃ c, let s := losing .a (moving .claiming o [] none)
      OnBoard s ∧ (s.chs.feeder .a).lossWatch = some ⟨0, false⟩ ∧ 0 + s.cfg.lossConfirm * millisecond ≤ s.now ∧
        s.chs.state = .claiming ∧ s.chs.claim = some c ∧ c.origin = o ∧ c.target = otherFeeder .a) ∧
    (∀ o, ∃ c, let s := losing .b (moving .claiming o [] none)
      OnBoard s ∧ (s.chs.feeder .b).lossWatch = some ⟨0, false⟩ ∧ s.chs.claim = some c ∧ c.origin = o ∧
        c.target = .b ∧ Room s) ∧
    (let s := losing .a (board.withChs { board.chs with
       state := .topupClaiming, claim := some ⟨1, .a, 1, .topup, 7, .topup, 300, [], none, 9000000⟩ })
     OnBoard s ∧ s.chs.state = .topupClaiming ∧ s.chs.active = some .a ∧ s.hpt.nodeState = .run ∧
       s.live (otherFeeder .a) = true ∧ (s.chs.feeder (otherFeeder .a)).faulty = false) ∧
    (let s := inState .mute (losing .a board)
     OnBoard s ∧ s.hpt.nodeState = .mute ∧ s.chs.state = .settled ∧ s.chs.active = some .a ∧
       (lit true false s).live (otherFeeder .a) = false) ∧
    ((inState .mute returning).hpt.nodeState = .mute ∧ OnBoard (inState .mute returning)) ∧
    (OnBoard board ∧ board.chs.state = .settled ∧ board.chs.active = some .a ∧ board.live .a = true) ∧
    (OnBoard returning ∧ returning.chs.state = .dark ∧ ¬OnBoard genset) :=
  ⟨fun _ => ⟨_, ⟨rfl, run_ne_config⟩, rfl, loss_time_over, rfl, rfl, rfl, rfl⟩,
    fun _ => ⟨_, ⟨rfl, run_ne_config⟩, rfl, rfl, rfl, rfl, .inr (by decide : (0 : Nat) < 16)⟩,
    ⟨⟨rfl, run_ne_config⟩, rfl, rfl, rfl, rfl, rfl⟩, ⟨⟨rfl, by decide⟩, rfl, rfl, rfl, rfl⟩,
    ⟨rfl, rfl, by decide⟩, ⟨⟨rfl, run_ne_config⟩, rfl, rfl, rfl⟩, ⟨rfl, run_ne_config⟩, rfl, fun h => by cases h.1⟩
theorem witness_HostRecovery :
    (let s := placed .a false (board.withChs { board.chs with state := .isolated })
     OnBoard s ∧ s.chs.state = .isolated ∧ s.closed .a = false ∧ s.closed .b = false) ∧
    (let s := board.withChs { board.chs with state := .isolated }
     OnBoard s ∧ s.closed .a = true ∧ s.closed (otherFeeder .a) = false ∧ s.chs.claim = none) ∧
    (OnBoard board ∧ board.chs.state = .settled) :=
  ⟨⟨⟨rfl, run_ne_config⟩, rfl, rfl, rfl⟩, ⟨⟨rfl, run_ne_config⟩, rfl, rfl, rfl⟩, ⟨rfl, run_ne_config⟩, rfl⟩
/-- R109, R122: the end of the dead time closes feeder B. -/
theorem witness_CloseLaw : ∃ t p,
    step ((placed .a false (moving .dead .changeover [] (some 1298))).withPending [.deadTimeEnd]) = .next t ∧
    t.fpc.pulse .b = some p ∧ p.line = .closeLine := ⟨_, _, rfl, rfl, rfl⟩
theorem witness_BoardStatesKept : ∃ t, BoardOk board ∧ step board = .next t :=
  ⟨_, fun _ => ⟨⟨fun _ => .inl rfl, fun _ => rfl⟩, fun _ => by decide +kernel, fun c h => by simp [board, State.reset, Chs.reset] at h,
    by decide +kernel⟩, rfl⟩

/-! ### Witnesses: the field port -/

/-- A GENSET with its answer window open, after a good answer of a sequence byte. -/
def polled (last : Option Nat) (clocked : Option (List Byte)) (miss : Nat) (lost : Bool) : State :=
  let s := at' 100000 genset
  s.withFpc { s.fpc with
    window := some ⟨0xA5, 100000, clocked⟩, lastSeq := last, missCount := miss, lost := lost
    sample := { s.fpc.sample with p := 500, powers := 100 :: List.replicate 15 0 }
    channels := ⟨20, 1⟩ :: List.replicate 15 ⟨0, 0⟩ }

/-- An answer with the sequence byte 6 and 3 Wh on channel 0. -/
def answer : List Byte := answerBytes 6 500 (List.replicate 16 100) (3 :: List.replicate 15 0) 14 400000 1

theorem witness_FieldEvents :
    (genset.fpc.nextPoll ≤ genset.now) ∧ ((genset.fpc.filter .running).raw = false) ∧
    ((genset.fpc.filter .running).raw ≠ true) ∧
    (∀ line, Stable line true (steady true .stopped board)) ∧
    (let s := at' 15999 (steady true .stopped board)
     ∀ d, (s.fpc.filter .feederB).since = some d → s.now < d + s.fpc.filterTime * millisecond) ∧
    (let s := board.withFpc { board.fpc with pulseA := some ⟨.openLine, 0⟩ }
     s.fpc.pulse .a = some ⟨.openLine, 0⟩ ∧ 0 ≤ s.now) :=
  ⟨by decide, rfl, by decide, fun line => by cases line <;> exact ⟨rfl, 0, rfl, filter_time_over⟩,
    fun d h => by cases h; decide +kernel, rfl, by decide +kernel⟩
theorem witness_GoodAnswer :
    (∃ w, (polled (some 5) none 4 false).fpc.window = some w ∧ w.clocked = none ∧
      (List.replicate 16 100).length = 16 ∧ (3 :: List.replicate 15 0).length = 16 ∧ 500 < 65536 ∧ 14 < 2 ^ 32 ∧
      400000 < 2 ^ 32 ∧ (∀ x ∈ List.replicate 16 100, x < 65536) ∧ (∀ x ∈ 3 :: List.replicate 15 0, x < 2 ^ 32) ∧
      (polled (some 5) none 4 false).fpc.lastSeq ≠ some (6 : Byte).toNat ∧
      ((6 : Byte).toNat + 256 - 5) % 256 = 1 ∧ (answer.take 50).length < 109) ∧
    (∃ l, (polled (some 255) none 4 false).fpc.lastSeq = some l ∧ ((0 : Byte).toNat + 256 - l) % 256 = 1) ∧
    (polled none none 5 true).fpc.lost = true ∧ (polled none none 5 true).fpc.lostPolls + 1 < 2 ^ 32 ∧
    (∃ w, (polled (some 5) (some (answer.take 50)) 0 false).fpc.window = some w ∧
      w.clocked = some (answer.take 50) ∧ answer.take 50 ++ answer.drop 50 = answer) :=
  ⟨⟨_, rfl, rfl, rfl, rfl, by decide, by decide, by decide, by decide, by decide, by decide, by decide, by decide +kernel⟩,
    ⟨255, rfl, by decide⟩, rfl, by decide, ⟨_, rfl, rfl, List.take_append_drop 50 answer⟩⟩
/-- R139, R140: 3 Wh less the 1 Wh estimated before; a miss at 10.0 kW with a carry of 20 is 3 Wh (120 = 3 × 36 + 12). -/
theorem test_answers :
    answer.length = 109 ∧
    (after (.frontEndAnswer answer true) (polled (some 5) none 0 false)).fpc.sample.energies.head? = some 2 ∧
    (after (.frontEndAnswer answer true) (polled (some 4) none 0 false)).fpc.sample.energies.head? = some 3 ∧
    (after .answerWindowClose (polled (some 5) none 0 false)).fpc.sample.energies.head? = some 3 ∧
    (after .answerWindowClose (polled (some 5) none 0 false)).fpc.channels.head? = some ⟨12, 4⟩ ∧
    (after .answerWindowClose (polled (some 5) none 4 false)).fpc.lost = true := by decide +kernel
theorem witness_MissesEstimate :
    (∀ c, ∃ w, (polled none c 0 false).fpc.window = some w ∧ w.closeAt ≤ (polled none c 0 false).now) ∧
    (∃ w, (at' 99999 (polled none none 0 false)).fpc.window = some w ∧
      (at' 99999 (polled none none 0 false)).now < w.closeAt) ∧
    (∃ w, (polled (some 6) none 0 false).fpc.window = some w ∧ w.clocked = none ∧ answer.length ≤ 109 ∧
      (polled (some 6) none 0 false).fpc.lastSeq = some (answer.headD 0).toNat ∧
      (answer.take 108).length ≠ 109 ∧ (answer.map (· + 1)).foldl (· + ·) 0 ≠ 0) ∧
    (∃ w, (polled (some 6) (some (answer.take 50)) 0 false).fpc.window = some w ∧
      w.clocked = some (answer.take 50) ∧ answer.take 50 ++ answer.drop 50 = answer) ∧
    genset.fpc.window = none :=
  ⟨fun _ => ⟨_, rfl, le_refl 100000⟩, ⟨_, rfl, by decide⟩, ⟨_, rfl, rfl, by decide +kernel⟩,
    ⟨_, rfl, rfl, List.take_append_drop 50 answer⟩, rfl⟩

/-! ### Witnesses: metering, accounts and billing -/

/-- A BOARD whose account 0 (501) is OPEN with 999 of a limit of 1000 millicredits and account 1 (502) OVER;
channel 0 is account 0's on a RESOLVED tariff, channel 1 account 1's, and channel 2 account 0's on a
REFERENCE with 50 Wh pending. -/
def metering : State :=
  let s := at' 600000000 board
  let a (id : Nat) (st : AccountState) : Account :=
    { Account.reset with id := id, state := st, charge := 999, limit := 1000, intEnergy := 5, intCharge := 9 }
  { s with
    mtr := { s.mtr with
      channels := [{ Channel.reset with mapping := some (0, 0), level := 2 },
        { Channel.reset with mapping := some (1, 0), level := 3, credit := true, shed := true },
        { Channel.reset with mapping := some (0, 1), level := 1 }] ++ List.replicate 13 .reset
      tariffs := [⟨.resolved 7 250 1200, none⟩, ⟨.reference 9, some 600000000⟩] ++ List.replicate 14 ⟨.empty, none⟩
      pendings := some ⟨0, 1, 50, 20000, [1]⟩ :: List.replicate 15 none
      heldCis := ⟨400, true⟩ :: List.replicate 14 ⟨0, false⟩ }
    fpc := { s.fpc with
      relays := false :: true :: List.replicate 14 false
      sample := { s.fpc.sample with energies := 10 :: 20 :: 4 :: List.replicate 13 0 } }
    bil := { s.bil with accounts := a 501 .opened :: a 502 .over :: List.replicate 62 .reset } }

/-- R162: 10 Wh at base 250 with 400 passed through at 1200 is 10 × 730,000 / 1,000,000 millicredits: 7 and 300,000. -/
theorem test_charge :
    ((chargeSample metering).account 0).charge = 1006 ∧ ((chargeSample metering).account 0).residue = 300000 ∧
    ((chargeSample metering).account 0).state = .over ∧ ((chargeSample metering).account 0).intEnergy = 19 ∧
    (chargeSample metering).fpc.relays.take 3 = [true, true, true] := by decide +kernel
/-- R158: 50 Wh at base 100 and 20,000 passed through at 1000 is 25,000,000 more: 25 millicredits. -/
theorem test_resolve :
    ((after (.resolveTariff 1 9 100 1000) metering).account 0).charge = 1024 ∧
    (after (.resolveTariff 1 9 100 1000) metering).hpt.response = ⟨1, .ok, [1, 1]⟩ := by decide +kernel
theorem witness_ChannelCommands :
    metering.mtr.channels.length = 16 ∧ metering.fpc.relays.length = 16 ∧ metering.mtr.pendings.length = 16 ∧
    ((15 : Byte).toNat ≤ 15 ∧ 15 < (16 : Byte).toNat ∧ (1 : Byte).toNat ≤ 1 ∧ 1 < (2 : Byte).toNat ∧
      (63 : Byte).toNat ≤ 63 ∧ 63 < (64 : Byte).toNat ∧ (3 : Byte).toNat ≤ 3 ∧ 3 < (4 : Byte).toNat) ∧
    metering.hpt.nodeState ≠ .mute ∧
    ((metering.account 0).state = .opened ∧ metering.tariff 0 ≠ .empty ∧ none ∈ metering.mtr.pendings) ∧
    ((metering.account 2).state = .free) ∧
    (∃ r, some r ∈ metering.mtr.pendings ∧ r.account = 0 ∧ r.tariff = 1 ∧ metering.tariff 1 = .reference 9) ∧
    (metering.channel 2).mapping = some (0, 1) ∧ (inState .mute metering).hpt.nodeState = .mute :=
  ⟨rfl, rfl, rfl, by decide, by decide +kernel, by decide +kernel, by decide +kernel,
    ⟨_, .head _, rfl, rfl, by decide +kernel⟩, by decide +kernel, rfl⟩
theorem witness_TariffCommands :
    metering.mtr.tariffs.length = 16 ∧ metering.bil.accounts.length = 64 ∧
    ((15 : Byte).toNat ≤ 15 ∧ (2 : Byte).toNat ≤ 2 ∧ 2 < (3 : Byte).toNat) ∧
    (∃ r, some r ∈ metering.mtr.pendings ∧ r.tariff = (1 : Byte).toNat) ∧
    (∃ i a, i < 16 ∧ (metering.channel i).mapping = some (a, (0 : Byte).toNat)) ∧
    (∀ r ∈ metering.mtr.pendings.filterMap id, r.tariff ≠ (0 : Byte).toNat) ∧
    (metering.tariff 1 = .reference (9 : Word).toNat ∧ resolvedFor metering 9 0 ≠ [] ∧
      (metering.account 0).charge + ((metering.account 0).residue + 25000000) / 1000000 < 2 ^ 64 ∧
      (metering.account 0).residue < 1000000 ∧ (metering.account 0).state = .opened) ∧
    ((nth ⟨.empty, none⟩ metering.mtr.tariffs 1).timer = some 600000000 ∧ 600000000 ≤ metering.now ∧
      (at' 599999999 metering).now < 600000000 ∧
      ∃ r, some r ∈ metering.mtr.pendings ∧ r.tariff = 1 ∧ 0 < r.energy) :=
  ⟨rfl, rfl, by decide, ⟨_, .head _, rfl⟩, ⟨0, 0, by decide, rfl⟩, by decide +kernel, by decide +kernel,
    rfl, by decide +kernel, by decide +kernel, _, .head _, rfl, by decide⟩
theorem witness_SampleLedger :
    metering.bil.accounts.length = 64 ∧ metering.mtr.channels.length = 16 ∧
    (∀ i, i < 16 → drawn metering i < 2 ^ 32) ∧
    ((metering.account 0).residue < 1000000 ∧ pricedFor metering 400 0 = 7300000 ∧
      drawnFor metering (fun m => m.1 == 0) = 14) ∧
    (metering.mtr.pendings[0]? = some (some ⟨0, 1, 50, 20000, [1]⟩) ∧ metering.tariff 1 = .reference 9 ∧
      drawnFor metering (fun m => m == (0, 1)) = 4) := by decide +kernel

/-- A GENSET of group 1 that is metered as `metering` is, with one fellow online at a power and cost of 520. -/
def billedSet (p : Nat) : State :=
  { metering with
    hpt := genset.hpt
    pvt := { metering.pvt with peers := [⟨3, 600000, .genset ⟨1, .online, true, false, false, false, 9, p, 1000, 100, 0,
      520, 600⟩, .fresh, none⟩] } }

/-- An index formed by weight, by plain mean and not at all; a billing group and none; an account newly OVER and one
that is not; a timer that runs and one that does not. -/
theorem witness_SampleRates :
    metering.mtr.heldCis.length = 15 ∧
    ((∀ g, FormsFor metering g ↔ g = 1 ∨ g = 2) ∧ (costInputs 1 metering).count = 0) ∧
    ((∀ g, FormsFor (billedSet 300) g ↔ g = 1) ∧ 0 < (costInputs 1 (billedSet 300)).weight ∧
      (costInputs 1 (billedSet 0)).weight = 0 ∧ 0 < (costInputs 1 (billedSet 0)).count) ∧
    (billedGroup metering = some 1 ∧ billedGroup (metering.withChs { metering.chs with billing := none }) = none ∧
      billedGroup (billedSet 300) = some 1) ∧
    ((metering.account 0).state = .opened ∧ (metering.account 0).limit = 1000 ∧ 0 < drawn metering 0 ∧
      (metering.channel 0).mapping = some (0, 0) ∧ metering.tariff 0 = .resolved 7 250 1200 ∧
      ((chargeSample metering).account 0).charge = 1006 ∧ (metering.account 1).state ≠ .opened) ∧
    (metering.tariff 1 = .reference 9 ∧ (nth ⟨.empty, none⟩ metering.mtr.tariffs 1).timer = some 600000000) := by
  refine ⟨rfl, ⟨fun g => ?_, by decide +kernel⟩, ⟨fun g => ?_, by decide +kernel⟩, by decide +kernel,
    by decide +kernel, by decide +kernel⟩
  · show _ ∧ (_ ∨ _) ↔ _
    exact ⟨fun h => h.2.elim (·.2) fun x => absurd x.1 (by decide), fun h => ⟨by decide, .inl ⟨rfl, h⟩⟩⟩
  · show _ ∧ (_ ∨ _) ↔ _
    exact ⟨fun h => h.2.elim (fun x => absurd x.1 (by decide)) (·.2), fun h => ⟨by decide, .inr ⟨rfl, h⟩⟩⟩
/-- R160: an index of 520 formed from one set, by weight or plain, and held where none is online. -/
theorem test_group_index : (nth ⟨0, false⟩ (chargeSample (billedSet 300)).mtr.heldCis 0).value = 520 ∧
    (nth ⟨0, false⟩ (chargeSample (billedSet 0)).mtr.heldCis 0).value = 520 ∧
    (nth ⟨0, false⟩ (chargeSample metering).mtr.heldCis 0).value = 400 ∧
    ((chargeSample metering).account 0).staleRate = true ∧
    ((chargeSample (billedSet 300)).account 0).staleRate = false := by decide +kernel
theorem witness_RelayLaw : ∃ t, RelaysOk metering ∧ step metering = .next t ∧
    (t.channel 1).mapping = some (1, 0) ∧ (t.account 1).state = .over ∧ 1 ≤ (t.channel 1).level := by
  refine ⟨_, ?_, rfl, by decide +kernel⟩
  refine ⟨rfl, rfl, rfl, by decide +kernel, by decide +kernel, ?_, ?_, by decide +kernel⟩
  · have h : ∀ i, i < 16 → ((metering.channel i).credit = true ↔
        ((metering.channel i).mapping.any fun m => decide ((metering.account m.1).state = .over)) = true) := by
      decide +kernel
    intro i hi
    rw [h i hi]
    cases (metering.channel i).mapping with
    | none => simp
    | some m => obtain ⟨a, u⟩ := m; simp
  · have h : ∀ i, i < 16 → ((metering.channel i).mapping.all fun m => decide (m.1 < 64)) = true := by
      decide +kernel
    intro i a u hi hm
    simpa [hm] using h i hi

theorem holds_501 : Holds metering 501 0 :=
  ⟨by decide, by decide +kernel, by decide +kernel, fun j hj => absurd hj (Nat.not_lt_zero j)⟩

theorem witness_AccountOpenAndLimit :
    metering.bil.accounts.length = 64 ∧ metering.mtr.channels.length = 16 ∧
    ((1 : Word) ≠ 0 ∧ (∀ i, i < 64 → (metering.account i).state ≠ .free → (metering.account i).id ≠ (1 : Word).toNat) ∧
      (metering.account 2).state = .free ∧ ∀ j, j < 2 → (metering.account j).state ≠ .free) ∧
    (∃ i, i < 64 ∧ (metering.account i).state ≠ .free ∧ (metering.account i).id = (501 : Word).toNat) ∧
    Holds metering (501 : Word).toNat 0 ∧ (metering.account 0).state = .opened ∧
    (0 < (998 : Word).toNat ∧ (998 : Word).toNat < (metering.account 0).charge) ∧
    ¬((999 : Word).toNat < (metering.account 0).charge) ∧ (metering.account 1).state = .over :=
  ⟨rfl, rfl, by decide +kernel, ⟨0, by decide +kernel⟩, holds_501, by decide +kernel, by decide +kernel,
    by decide +kernel, by decide +kernel⟩

/-- The same with no channel and no pending record, the log at a length, and account 0 in a state. -/
def closingLog (n : Nat) (st : AccountState) : State :=
  let s := { metering with mtr := board.mtr }
  let a : Account := { Account.reset with id := 501, state := st, intEnergy := 5, intCharge := 9, carryEnergy := 2 }
  { s with bil := { s.bil with
    accounts := a :: List.replicate 63 .reset
    log := List.replicate n ⟨7, 7, 0, 0, 0, 0, 0, 0, false, false, false, false, false, false, false, false, []⟩ } }

theorem witness_AccountCloseAndAck :
    (∀ n st, (closingLog n st).bil.accounts.length = 64 ∧ (closingLog n st).mtr.channels.length = 16) ∧
    Holds (closingLog 127 .over) (501 : Word).toNat 0 ∧ (closingLog 127 .over).bil.log.length < 128 ∧
    (∀ j, j < 16 → ((closingLog 127 .over).channel j).mapping = none) ∧
    (∀ r ∈ (closingLog 127 .over).mtr.pendings, r = none) ∧
    TotalsBelow (2 ^ 32) ((closingLog 127 .over).account 0) ∧
    128 ≤ (closingLog 128 .opened).bil.log.length ∧ TotalsBelow (2 ^ 64) ((closingLog 128 .opened).account 0) ∧
    ((closingLog 128 .closing).bil.log.length ≤ 128 ∧ (128 : Byte).toNat ≤ (closingLog 128 .closing).bil.log.length ∧
      (closingLog 128 .closing).bil.log.length < (129 : Byte).toNat ∧
      ((closingLog 128 .closing).account 0).state = .closing ∧
      ∀ i, i < 64 → ((closingLog 128 .closing).account i).intEnergy + ((closingLog 128 .closing).account i).carryEnergy
          < 2 ^ 32 ∧ ((closingLog 128 .closing).account i).intCharge
          + ((closingLog 128 .closing).account i).carryCharge < 2 ^ 32) :=
  ⟨fun _ _ => ⟨rfl, rfl⟩,
    ⟨by decide, by decide +kernel, by decide +kernel, fun j hj => absurd hj (Nat.not_lt_zero j)⟩, by decide +kernel,
    by decide +kernel, by decide +kernel, ⟨by decide +kernel, by decide +kernel⟩, by decide +kernel,
    ⟨by decide +kernel, by decide +kernel⟩, by decide +kernel⟩
/-- R178: with the log full a closed account is CLOSING, and one acknowledged record lets its FINAL record be written. -/
theorem test_close_account :
    ((after (.accountClose 3 501) (closingLog 128 .opened)).account 0).state = .closing ∧
    ((after (.ackBilling 4 1) (after (.accountClose 3 501) (closingLog 128 .opened))).bil.log.getLast?.map
      fun r => (r.account, r.energy, r.final, r.carried)) = some (501, 7, true, true) := by decide +kernel
theorem witness_IntervalCloses :
    (metering.bil.accounts.length = 64 ∧ 0 < metering.bil.length ∧ metering.bil.length ≤ 60) ∧
    (at' 899999999 metering).siteSec < metering.bil.boundary ∧
    metering.bil.boundary ≤ (at' 900000000 metering).siteSec ∧
    (metering.siteSec / (15 * 60) = 899 / (15 * 60) ∧ metering.siteSec / (15 * 60) ≠ 900 / (15 * 60)) ∧
    ((metering.withClock ⟨0, 2 ^ 32 * second⟩).clock.site = 2 ^ 32 * second) ∧
    (∀ i, i < 64 → (metering.account i).state ≠ .closing) := by decide +kernel
theorem test_boundary : (after .intervalBoundary (at' 900000000 metering)).bil.log.map
    (fun r => (r.account, r.energy, r.pendingEnergy, r.openedAt, r.closedAt))
      = [(501, 5, 50, 0, 900), (502, 5, 0, 0, 900)] := by decide +kernel
theorem witness_BillingKept : ∃ t, BillingOk metering ∧ step metering = .next t := by
  refine ⟨_, ?_, rfl⟩
  refine ⟨rfl, by decide, by decide, by decide, by decide +kernel, ?_, ?_, ?_, by decide, ?_, by decide⟩
  · have h : ∀ i, i < 64 → (metering.account i).state ≠ .free → (metering.account i).id = 501 + i := by
      decide +kernel
    intro i j hi hj hij a b
    rw [h i hi a, h j hj b]
    omega
  · have h : ∀ i, i < 16 → ((metering.channel i).mapping.all fun m =>
        decide ((metering.account m.1).state = .opened ∨ (metering.account m.1).state = .over)) = true := by
      decide +kernel
    intro i a u hi hm
    simpa [hm] using h i hi
  · have h : ∀ r ∈ metering.mtr.pendings.filterMap id,
        (metering.account r.account).state = .opened := by decide +kernel
    exact fun r hr => .inl (h r (List.mem_filterMap.2 ⟨_, hr, rfl⟩))
  · have h : ∀ i, i < 64 → (metering.account i).state ≠ .closing := by decide +kernel
    exact fun i hi a => absurd a (h i hi)

/-! ### Witnesses: the host port, the resets, and events -/

/-- A state with a transaction under way. -/
def clocking (isPending : Bool) : State :=
  genset.withHpt { genset.hpt with transaction := some ⟨[0, 0, 0, 0], isPending⟩ }

/-- R184, R185: a NOOP with tag 9 is 00 09 00 and the check byte F7; with F8 it is BAD_CHECK. -/
theorem test_noop_record :
    (after (.hostTransaction [0, 9, 0, 0xF7]) (clocking false)).hpt.inProgress = some ⟨9, .noop 9⟩ ∧
    (after (.hostTransaction [0, 9, 0, 0xF8]) (clocking false)).hpt.response = ⟨9, .badCheck, []⟩ ∧
    (after (.hostTransaction [0x77, 9, 0, 0x80]) (clocking false)).hpt.response = ⟨9, .unknown, []⟩ := by
  decide +kernel
theorem witness_CommandRecords :
    genset.hpt.transaction = none ∧ genset.hpt.inProgress = none ∧
    (∃ c, (genset.withHpt { genset.hpt with inProgress := some ⟨1, .commit 1⟩ }).hpt.inProgress = some c) ∧
    (List.replicate 255 (0 : Byte)).length ≤ 255 ∧
    (∃ x, (clocking true).hpt.transaction = some x ∧ x.isPending = true) ∧
    (∃ x, (clocking false).hpt.transaction = some x ∧ x.isPending = false ∧
      hostBody (.setMode 7 1) = some (0x10, 7, [1]) ∧
      [(0x10 : Byte), 7, 1, 1, 0xE7, 0, 0] = 0x10 :: 7 :: byte [(1 : Byte)].length :: [1] ++ 0xE7 :: [0, 0] ∧
      byteSum (0x10 :: 7 :: byte [(1 : Byte)].length :: [1] ++ [0xE7]) = 0 ∧
      [(0 : Byte)].length ≤ (1 : Byte).toNat ∧ (0 : Byte).toNat < [(0xF7 : Byte)].length) :=
  ⟨rfl, rfl, ⟨_, rfl⟩, Nat.le_of_eq List.length_replicate, ⟨_, rfl, rfl⟩, _, rfl, rfl, rfl, by decide +kernel⟩
theorem witness_Configure :
    ((inState .config genset).hpt.nodeState = .config ∧ RecordOk (record .board) ∧ 299 < 300) ∧
    (1 ≤ (62 : Byte).toNat ∧ (62 : Byte).toNat ≤ 62 ∧ 1 ≤ (15 : Byte).toNat ∧ (15 : Byte).toNat ≤ 15) ∧
    ((configFields [63, 1, 0, 16])[0]? = some 63 ∧ (fieldRanges 1)[0]? = some (1, 62) ∧ ¬(1 ≤ 63 ∧ 63 ≤ 62)) ∧
    (let l := configFields { record .board with deadTime := 200 }.bytes
     l[29]? = some 200 ∧ (fieldRanges (l.getD 1 0))[29]? = some (300, 3000) ∧ ¬(300 ≤ 200 ∧ 200 ≤ 3000)) ∧
    (genset.hpt.record = some (record .genset) ∧ State.reset.hpt.record = none) ∧
    ([63, 1, 0, (16 : Byte)].length = 4) :=
  ⟨⟨rfl, by constructor <;> decide, by decide⟩, by decide, by decide +kernel, by decide +kernel, ⟨rfl, rfl⟩, rfl⟩
theorem witness_CommitAndSoftReset :
    (State.reset.hpt.nodeState = .config ∧ State.reset.hpt.record = none) ∧
    (∀ role, (inState .config genset).hpt.nodeState = .config ∧
      (record role).mCrit < (record role).mLow ∧ (record role).openingStock ≤ (record role).capacity) ∧
    ((inState .config genset).hpt.record = some (record .genset) ∧
      (inState .config board).hpt.record = some (record .board) ∧ genset.slc.queue = [] ∧ genset.slc.hold = []) ∧
    (let c := { record .genset with mCrit := 120, mLow := 120 }
     c.mLow ≤ c.mCrit) ∧
    (let c := { record .genset with openingStock := 1000001, capacity := 1000000 }
     c.mCrit < c.mLow ∧ c.capacity < c.openingStock) ∧ genset.evf.mark = 0 ∧ genset.evf.ring.length < 64 :=
  ⟨⟨rfl, rfl⟩, fun role => by cases role <;> decide, ⟨rfl, rfl, rfl, rfl⟩, by decide, by decide, rfl, by decide⟩
/-- A GENSET in CONFIG whose record has the K named, with held pulses, a fuel unit, and a peer last heard 20 s ago. -/
def committing (k held : Nat) (fuel : Fau) : State :=
  let s := inState .config (peering 20000000 .stale none)
  { s with
    hpt := { s.hpt with record := some { record .genset with pulsesPerLitre := k } }
    fpc := { s.fpc with heldPulses := held }
    fau := fuel }

theorem witness_CommitFuel :
    (∃ c, (committing 1000 7 Fau.reset).hpt.record = some c ∧ c.role = .genset ∧ Fau.reset.copy = none ∧
      c.mCrit < c.mLow ∧ c.openingStock ≤ c.capacity) ∧
    (∃ old, genset.fau.copy = some old ∧ old.pulsesPerLitre = (record .genset).pulsesPerLitre ∧
      old.pulsesPerLitre ≠ 777) ∧
    ((committing 1000 7 Fau.reset).pvt.peers.map (·.node)).Nodup ∧
    (∀ p ∈ (committing 1000 7 Fau.reset).pvt.peers, p.node ≤ 62) :=
  ⟨⟨_, rfl, rfl, rfl, by decide, by decide⟩, ⟨_, rfl, by decide, by decide⟩, by decide +kernel, by decide +kernel⟩
/-- R66, R81, R84: 7 held pulses at 777 a litre are 9 mL of stray volume, 7 carried; R37: a record 20 s old is LOST at a
status period of 2 s. -/
theorem test_commit_fuel :
    let t := after (.commit 5) (committing 777 7 Fau.reset)
    t.fau.stray = 9 ∧ t.fau.strayCarry = 7 ∧ t.fpc.heldPulses = 0 ∧
    t.fau.copy = some { (record .genset).fuel with pulsesPerLitre := 777 } ∧
    t.pvt.peers.map (·.freshness) = [.lost] := by decide +kernel
theorem witness_EventsAndFaults :
    (genset.evf.ring.length < 64) ∧ ([(1 : Byte), 2].length ≤ 8) ∧
    (FaultKind.crcBad.inSet genset.evf.mask = false ∧ genset.evf.first.kind = none) ∧
    (FaultKind.crcBad.inSet (genset.withEvf { genset.evf with mask := 1 }).evf.mask = true) ∧
    (genset.evf.ring.length < (1 : Byte).toNat) ∧
    (let s := postEvent .refuel (.node 1) 0 0 genset
     (1 : Byte) ≠ 0 ∧ (1 : Byte).toNat ≤ s.evf.ring.length) ∧
    (let s := reportFault .crcBad [] genset
     s.evf.first.kind = some .crcBad ∧ FaultKind.crcBad.inSet 1 = true ∧ FaultKind.crcBad.inSet 2 = false) := by
  decide +kernel
theorem witness_BoundsKept : ∃ t, Bounded (sending 0) ∧ step ((sending 0).withPending [.collision]) = .next t :=
  ⟨_, ⟨by decide, by decide, by decide, by decide⟩, rfl⟩

end Sys2Proof.Tests
end

section
/-! The frame check (R3): O7. -/

namespace Sys2Proof.Machine

open Sys2Proof.Claims

/-! ### The frame check (Machine/Flags.lean, R3) -/

/-- The two wordings of one bit's step agree: the model tests that the bits differ, R3's reading that they agree. -/
theorem crcBit_eq_crcAfter (reg : BitVec 16) (bit : Bool) : crcBit reg bit = crcAfter reg bit := by
  simp [crcBit, crcAfter]

/-- A byte enters the register as its eight data bits, most significant first. -/
theorem crcByte_eq_foldl (reg : BitVec 16) (b : Byte) : crcByte reg b = (bitsOf b).foldl crcAfter reg := by
  simp only [crcByte, crcBit_eq_crcAfter]
  rfl

theorem crc16_eq_foldl_bits (bytes : List Byte) :
    crc16 bytes = (bytes.flatMap bitsOf).foldl crcAfter 0xFFFF#16 := by
  simp only [crc16, List.foldl_flatMap, ← crcByte_eq_foldl]
  rfl

/-- Two bytes are the halves of a 16-bit register exactly where their concatenation is the register. -/
theorem append_eq_iff_halves (h l : Byte) (reg : BitVec 16) :
    h ++ l = reg ↔ BitVec.ofNat 8 (reg.toNat / 256) = h ∧ BitVec.ofNat 8 (reg.toNat % 256) = l := by
  have hl : (h ++ l).toNat = h.toNat * 256 + l.toNat := by
    rw [BitVec.toNat_append, ← Nat.shiftLeft_add_eq_or_of_lt l.isLt, Nat.shiftLeft_eq]
  have hh := h.isLt
  have hl' := l.isLt
  have hr := reg.isLt
  rw [← BitVec.toNat_inj, ← BitVec.toNat_inj, ← BitVec.toNat_inj]
  simp only [BitVec.toNat_ofNat, hl]
  omega

/-- The two bytes sent are the check, high byte first. -/
theorem crcBytes_eq_iff (bytes : List Byte) (h l : Byte) : crcBytes bytes = [h, l] ↔ h ++ l = crc16 bytes := by
  simp [crcBytes, append_eq_iff_halves]

/-- A complete frame is dropped as CRC_BAD by the comparison of R5's first check and by no later one. -/
theorem checkFrame_crcBad_iff (src kind len : Byte) (payload crc : List Byte) :
    checkFrame src kind len payload crc = .dropped .crcBad ↔ crcBytes ([src, kind, len] ++ payload) ≠ crc := by
  unfold checkFrame
  split
  case isTrue differs => exact iff_of_true rfl differs
  case isFalse agrees =>
    refine iff_of_false ?_ agrees
    repeat' split
    all_goals simp

/-- Settles O7: the register by its bits, the check value by evaluation, and the two bytes in a frame and at the
receiver by `append_eq_iff_halves`. -/
theorem frameCheck : Obligations.FrameCheck := by
  refine ⟨crc16_eq_foldl_bits, by decide +kernel, fun src b => ?_, fun src kind len h l payload => ?_⟩
  · exact ⟨_, _, rfl, (crcBytes_eq_iff _ _ _).mp rfl⟩
  · rw [checkFrame_crcBad_iff, Ne, crcBytes_eq_iff]

end Sys2Proof.Machine
end

section
/-! What each operation leaves of the backoff generator (R16): one rewriting lemma per operation that may write the
site link, and from them the frame of every command. -/

namespace Sys2Proof.Machine

variable (s : State)

@[simp] theorem ite_backoffGen (c : Prop) [Decidable c] (a b : Slc) :
    (if c then a else b).backoffGen = if c then a.backoffGen else b.backoffGen := apply_ite Slc.backoffGen c a b

/-! ### The site link's operations that write the queue, the medium or the receiver -/

@[simp] theorem startFrame_backoffGen : (startFrame s).slc.backoffGen = s.slc.backoffGen := by
  unfold startFrame; split <;> simp

@[simp] theorem frameSent_backoffGen : (frameSent s).slc.backoffGen = s.slc.backoffGen := by
  simp only [frameSent]; repeat' split
  all_goals rfl

@[simp] theorem endBackoffs_backoffGen : (endBackoffs s).slc.backoffGen = s.slc.backoffGen := rfl

@[simp] theorem retryHeld_backoffGen : (retryHeld s).slc.backoffGen = s.slc.backoffGen := by
  unfold retryHeld; split <;> simp

@[simp] theorem becomeStuck_backoffGen : (becomeStuck s).slc.backoffGen = s.slc.backoffGen := by
  simp [becomeStuck]

@[simp] theorem becomeBusy_backoffGen : (becomeBusy s).slc.backoffGen = s.slc.backoffGen := by
  unfold becomeBusy; split <;> simp

@[simp] theorem takeHeader_backoffGen (sync src kind len : Byte) :
    (takeHeader sync src kind len s).slc.backoffGen = s.slc.backoffGen := by
  unfold takeHeader; split <;> simp

@[simp] theorem idleTimeout_backoffGen (taken : List Byte) :
    (idleTimeout taken s).slc.backoffGen = s.slc.backoffGen := by
  unfold idleTimeout; repeat' split
  all_goals simp [Slc.becomeIdle]

@[simp] theorem frameEnded_backoffGen (lineIdle : Bool) :
    (frameEnded lineIdle s).slc.backoffGen = s.slc.backoffGen := by
  simp [frameEnded, Slc.becomeIdle]

/-! ### Offers of the peer view -/

@[simp] theorem offerStatus_backoffGen : (offerStatus s).slc.backoffGen = s.slc.backoffGen := by
  unfold offerStatus; split <;> simp

@[simp] theorem extraCause_backoffGen : (extraCause s).slc.backoffGen = s.slc.backoffGen := by
  simp [extraCause, offerExtra]

@[simp] theorem headroomCause_backoffGen : (headroomCause s).slc.backoffGen = s.slc.backoffGen := by
  simp [headroomCause]

@[simp] theorem statusTimer_backoffGen : (statusTimer s).slc.backoffGen = s.slc.backoffGen := by
  simp only [statusTimer]; repeat' split
  all_goals simp

@[simp] theorem extraStatusDue_backoffGen : (extraStatusDue s).slc.backoffGen = s.slc.backoffGen := by
  simp [extraStatusDue, offerExtra]

/-! ### The Pledge Unit -/

@[simp] theorem serve_backoffGen (w : WaitEntry) : (serve w s).slc.backoffGen = s.slc.backoffGen := by
  simp [serve]

@[simp] theorem arbiterRuns_backoffGen (n : Nat) : (arbiterRuns n s).slc.backoffGen = s.slc.backoffGen := by
  induction n generalizing s with
  | zero => rfl
  | succ n ih =>
    unfold arbiterRuns; repeat' split
    all_goals simp [ih]

@[simp] theorem servePledges_backoffGen : (servePledges s).slc.backoffGen = s.slc.backoffGen := by
  simp [servePledges]

@[simp] theorem settlePledges_backoffGen : (settlePledges s).slc.backoffGen = s.slc.backoffGen := by
  simp [settlePledges]

@[simp] theorem announceRevoke_backoffGen (c : ClaimId) (revoked remaining : Nat) (why : RevokeCause) :
    (announceRevoke c revoked remaining why s).slc.backoffGen = s.slc.backoffGen := by
  simp [announceRevoke]

@[simp] theorem revokeEntries_backoffGen (l : List PledgeEntry) :
    (revokeEntries l s).slc.backoffGen = s.slc.backoffGen := by
  induction l generalizing s with
  | nil => rfl
  | cons e l ih => simp [revokeEntries, ih]

@[simp] theorem derateCheck_backoffGen : (derateCheck s).slc.backoffGen = s.slc.backoffGen := by
  simp [derateCheck]

@[simp] theorem tripEntries_backoffGen (l : List PledgeEntry) :
    (tripEntries l s).slc.backoffGen = s.slc.backoffGen := by
  induction l generalizing s with
  | nil => rfl
  | cons e l ih => simp [tripEntries, ih]

@[simp] theorem tripNotice_backoffGen : (tripNotice s).slc.backoffGen = s.slc.backoffGen := by
  simp [tripNotice]

@[simp] theorem derateChange_backoffGen : (derateChange s).slc.backoffGen = s.slc.backoffGen := by
  simp [derateChange]

@[simp] theorem pledgeSample_backoffGen : (pledgeSample s).slc.backoffGen = s.slc.backoffGen := by
  simp [pledgeSample]

@[simp] theorem takeConfirm_backoffGen (c : ClaimId) (entries : List (Nat × Nat)) (capture : List Byte) :
    (takeConfirm c entries capture s).slc.backoffGen = s.slc.backoffGen := by
  simp only [takeConfirm]; repeat' split
  all_goals simp

@[simp] theorem takeRelease_backoffGen (c : ClaimId) (why : ReleaseReason) :
    (takeRelease c why s).slc.backoffGen = s.slc.backoffGen := by
  simp only [takeRelease]; repeat' split
  all_goals simp

@[simp] theorem pledgeDeadline_backoffGen (c : ClaimId) :
    (pledgeDeadline c s).slc.backoffGen = s.slc.backoffGen := by
  unfold pledgeDeadline; split <;> simp

@[simp] theorem pledgePeerGone_backoffGen (node : Nat) :
    (pledgePeerGone node s).slc.backoffGen = s.slc.backoffGen := by
  simp [pledgePeerGone]

/-! ### The Set Controller -/

@[simp] theorem enterSet_backoffGen (st : SetState) (cause : Option SetCause) (trip : Bool) :
    (enterSet st cause trip s).slc.backoffGen = s.slc.backoffGen := by
  simp [enterSet]

@[simp] theorem enterOnline_backoffGen : (enterOnline s).slc.backoffGen = s.slc.backoffGen := by
  simp [enterOnline]

@[simp] theorem enterSyncing_backoffGen (trip : Bool) :
    (enterSyncing trip s).slc.backoffGen = s.slc.backoffGen := by
  simp [enterSyncing]

@[simp] theorem enterWarming_backoffGen : (enterWarming s).slc.backoffGen = s.slc.backoffGen := by
  simp [enterWarming]

@[simp] theorem enterCranking_backoffGen : (enterCranking s).slc.backoffGen = s.slc.backoffGen := by
  simp [enterCranking]

@[simp] theorem enterUnloading_backoffGen : (enterUnloading s).slc.backoffGen = s.slc.backoffGen := by
  simp [enterUnloading]

@[simp] theorem enterFaulted_backoffGen (cause : SetCause) :
    (enterFaulted cause s).slc.backoffGen = s.slc.backoffGen := by
  simp [enterFaulted]

@[simp] theorem enterStopped_backoffGen : (enterStopped s).slc.backoffGen = s.slc.backoffGen := by
  simp [enterStopped]

@[simp] theorem announceIntent_backoffGen (kind : IntentKind) :
    (announceIntent kind s).slc.backoffGen = s.slc.backoffGen := by
  simp [announceIntent]

@[simp] theorem groupCheck_backoffGen (claimNotice : Bool) :
    (groupCheck claimNotice s).slc.backoffGen = s.slc.backoffGen := by
  simp only [groupCheck, checkStopped, checkOnline]; repeat' split
  all_goals simp

@[simp] theorem takeIntent_backoffGen (sender group : Nat) (kind : IntentKind) (key : Nat) :
    (takeIntent sender group kind key s).slc.backoffGen = s.slc.backoffGen := by
  unfold takeIntent; repeat' split
  all_goals simp

@[simp] theorem runningChange_backoffGen (level : Bool) :
    (runningChange level s).slc.backoffGen = s.slc.backoffGen := by
  simp [runningChange]

@[simp] theorem breakerChange_backoffGen (level : Bool) :
    (breakerChange level s).slc.backoffGen = s.slc.backoffGen := by
  unfold breakerChange; split <;> simp

@[simp] theorem setFaultChange_backoffGen (level : Bool) :
    (setFaultChange level s).slc.backoffGen = s.slc.backoffGen := by
  simp [setFaultChange]

@[simp] theorem crankFailed_backoffGen : (crankFailed s).slc.backoffGen = s.slc.backoffGen := by
  simp [crankFailed]

@[simp] theorem changeMode_backoffGen (mode : RunMode) :
    (changeMode mode s).slc.backoffGen = s.slc.backoffGen := by
  simp only [changeMode]; repeat' split
  all_goals simp

@[simp] theorem runOn_backoffGen (tag : Byte) : (runOn tag s).slc.backoffGen = s.slc.backoffGen := by
  unfold runOn; split <;> simp

@[simp] theorem runOff_backoffGen (tag : Byte) : (runOff tag s).slc.backoffGen = s.slc.backoffGen := by
  unfold runOff; split <;> simp

/-! ### Fuel accounts -/

@[simp] theorem openDelivery_backoffGen (tag : Byte) (ticket : Word) (price litres : Half) :
    (openDelivery tag ticket price litres s).slc.backoffGen = s.slc.backoffGen := by
  simp [openDelivery]

@[simp] theorem closeDelivery_backoffGen (auto : Bool) (d : Delivery) (c : FuelConfig) :
    (closeDelivery auto d c s).2.slc.backoffGen = s.slc.backoffGen := by
  simp [closeDelivery]

@[simp] theorem levelCheck_backoffGen : (levelCheck s).slc.backoffGen = s.slc.backoffGen := by
  simp only [levelCheck, compareLevel]; repeat' split
  all_goals simp

@[simp] theorem resync_backoffGen (level : Nat) (c : FuelConfig) :
    (resync level c s).2.slc.backoffGen = s.slc.backoffGen := by
  simp [resync]

/-! ### The Changeover Sequencer -/

@[simp] theorem makeClaim_backoffGen (target : Feeder) (kind : ClaimKind) (cls : Nat) (origin : ClaimOrigin)
    (kw : Nat) : (makeClaim target kind cls origin kw s).slc.backoffGen = s.slc.backoffGen := by
  simp [makeClaim]

@[simp] theorem endClaim_backoffGen (why : ReleaseReason) :
    (endClaim why s).slc.backoffGen = s.slc.backoffGen := by
  unfold endClaim; split <;> simp

@[simp] theorem failClaim_backoffGen (why : ReleaseReason) (reason : FailReason) :
    (failClaim why reason s).slc.backoffGen = s.slc.backoffGen := by
  unfold failClaim; split <;> simp

@[simp] theorem buildConfirm_backoffGen (c : ClaimRec) :
    (buildConfirm c s).slc.backoffGen = s.slc.backoffGen := by
  simp [buildConfirm]

@[simp] theorem collect_backoffGen (c : ClaimRec) : (collect c s).slc.backoffGen = s.slc.backoffGen := by
  simp [collect]

@[simp] theorem setBoard_backoffGen (st : BoardState) : (setBoard st s).slc.backoffGen = s.slc.backoffGen := by
  simp [setBoard]

@[simp] theorem enterDark_backoffGen : (enterDark s).slc.backoffGen = s.slc.backoffGen := by simp [enterDark]

@[simp] theorem enterIsolated_backoffGen (cause : IsolateCause) :
    (enterIsolated cause s).slc.backoffGen = s.slc.backoffGen := by
  simp [enterIsolated]

@[simp] theorem welded_backoffGen (f : Feeder) : (welded f s).slc.backoffGen = s.slc.backoffGen := by
  simp only [welded]; split <;> simp

@[simp] theorem enterDead_backoffGen : (enterDead s).slc.backoffGen = s.slc.backoffGen := by simp [enterDead]

@[simp] theorem leaveForced_backoffGen (old : Feeder) :
    (leaveForced old s).slc.backoffGen = s.slc.backoffGen := by
  simp [leaveForced]

@[simp] theorem forcedMade_backoffGen : (forcedMade s).slc.backoffGen = s.slc.backoffGen := by
  unfold forcedMade; split <;> simp

@[simp] theorem forcedChangeover_backoffGen (f : Feeder) :
    (forcedChangeover f s).slc.backoffGen = s.slc.backoffGen := by
  simp [forcedChangeover]

@[simp] theorem enterSettled_backoffGen (f : Feeder) (billing : Bool) :
    (enterSettled f billing s).slc.backoffGen = s.slc.backoffGen := by
  simp [enterSettled]

@[simp] theorem closure_backoffGen (c : ClaimRec) : (closure c s).slc.backoffGen = s.slc.backoffGen := by
  simp [closure]

@[simp] theorem blockClose_backoffGen : (blockClose s).slc.backoffGen = s.slc.backoffGen := by
  simp [blockClose]

@[simp] theorem enterClosing_backoffGen (c : ClaimRec) :
    (enterClosing c s).slc.backoffGen = s.slc.backoffGen := by
  simp [enterClosing]

@[simp] theorem fallbackDone_backoffGen (c : ClaimRec) :
    (fallbackDone c s).slc.backoffGen = s.slc.backoffGen := by
  simp [fallbackDone]

@[simp] theorem fallbackFailed_backoffGen : (fallbackFailed s).slc.backoffGen = s.slc.backoffGen := by
  simp [fallbackFailed]

@[simp] theorem enterFallback_backoffGen (reason : FailReason) (c : ClaimRec) :
    (enterFallback reason c s).slc.backoffGen = s.slc.backoffGen := by
  simp [enterFallback]

@[simp] theorem confirmClaim_backoffGen (c : ClaimRec) :
    (confirmClaim c s).slc.backoffGen = s.slc.backoffGen := by
  simp only [confirmClaim, enterOpening, leaveReturn, leaveTopup]; repeat' split
  all_goals simp

@[simp] theorem takePledge_backoffGen (node board serial kw : Nat) :
    (takePledge node board serial kw s).slc.backoffGen = s.slc.backoffGen := by
  simp only [takePledge]; repeat' split
  all_goals simp

@[simp] theorem muteBoard_backoffGen : (muteBoard s).slc.backoffGen = s.slc.backoffGen := by
  unfold muteBoard; split <;> simp

@[simp] theorem uncommandedOpen_backoffGen (f : Feeder) :
    (uncommandedOpen f s).slc.backoffGen = s.slc.backoffGen := by
  simp only [uncommandedOpen]; split <;> simp

@[simp] theorem feedbackConflict_backoffGen : (feedbackConflict s).slc.backoffGen = s.slc.backoffGen := by
  simp [feedbackConflict]

@[simp] theorem closedByHand_backoffGen (f : Feeder) : (closedByHand f s).slc.backoffGen = s.slc.backoffGen := by
  simp [closedByHand]

@[simp] theorem positionChange_backoffGen (f : Feeder) (level : Bool) :
    (positionChange f level s).slc.backoffGen = s.slc.backoffGen := by
  unfold positionChange; repeat' split
  all_goals simp

@[simp] theorem sourceLost_backoffGen (f : Feeder) : (sourceLost f s).slc.backoffGen = s.slc.backoffGen := by
  unfold sourceLost; split <;> simp

@[simp] theorem openLimitPassed_backoffGen (f : Feeder) :
    (openLimitPassed f s).slc.backoffGen = s.slc.backoffGen := by
  unfold openLimitPassed; split <;> simp

@[simp] theorem closeFailed_backoffGen (c : ClaimRec) :
    (closeFailed c s).slc.backoffGen = s.slc.backoffGen := by
  unfold closeFailed; split <;> simp

@[simp] theorem topUp_backoffGen : (topUp s).slc.backoffGen = s.slc.backoffGen := by
  unfold topUp; split <;> simp

@[simp] theorem beginReturn_backoffGen (f : Feeder) :
    (beginReturn f s).slc.backoffGen = s.slc.backoffGen := by
  simp only [beginReturn]; split <;> simp

@[simp] theorem restore_backoffGen (f : Feeder) : (restore f s).slc.backoffGen = s.slc.backoffGen := by
  simp [restore]

@[simp] theorem deriveBoard_backoffGen (c : ConfigRecord) :
    (deriveBoard c s).slc.backoffGen = s.slc.backoffGen := by
  simp only [deriveBoard]; repeat' split
  all_goals simp

/-! ### The Field Port -/

@[simp] theorem endPoll_backoffGen : (endPoll s).slc.backoffGen = s.slc.backoffGen := by
  simp [endPoll, deliverSample]

@[simp] theorem takeAnswer_backoffGen (bytes : List Byte) :
    (takeAnswer bytes s).slc.backoffGen = s.slc.backoffGen := by
  simp [takeAnswer]

@[simp] theorem readyRises_backoffGen (bytes : List Byte) (ended : Bool) :
    (readyRises bytes ended s).slc.backoffGen = s.slc.backoffGen := by
  simp only [readyRises]; repeat' split
  all_goals simp

@[simp] theorem clockedIn_backoffGen (bytes : List Byte) :
    (clockedIn bytes s).slc.backoffGen = s.slc.backoffGen := by
  unfold clockedIn; repeat' split
  all_goals simp

@[simp] theorem closeWindow_backoffGen : (closeWindow s).slc.backoffGen = s.slc.backoffGen := by
  unfold closeWindow; repeat' split
  all_goals simp

@[simp] theorem levelEvent_backoffGen (line : FieldLine) (level : Bool) :
    (levelEvent line level s).slc.backoffGen = s.slc.backoffGen := by
  cases line <;> simp [levelEvent]

@[simp] theorem filteredChange_backoffGen (line : FieldLine) :
    (filteredChange line s).slc.backoffGen = s.slc.backoffGen := by
  simp [filteredChange]

/-! ### Reception and the peer view -/

@[simp] theorem peerGone_backoffGen (node : Nat) : (peerGone node s).slc.backoffGen = s.slc.backoffGen := by
  simp [peerGone]

@[simp] theorem losePeer_backoffGen (node : Nat) : (losePeer node s).slc.backoffGen = s.slc.backoffGen := by
  simp [losePeer]

@[simp] theorem peerLost_backoffGen (node : Nat) : (peerLost node s).slc.backoffGen = s.slc.backoffGen := by
  unfold peerLost; split <;> simp

@[simp] theorem takeStatus_backoffGen (node : Nat) (b : StatusBody) :
    (takeStatus node b s).slc.backoffGen = s.slc.backoffGen := by
  unfold takeStatus; split <;> simp

@[simp] theorem enterMute_backoffGen : (enterMute s).slc.backoffGen = s.slc.backoffGen := by
  simp only [enterMute]; split <;> simp [Slc.emptied]

@[simp] theorem duplicateId_backoffGen (capture : List Byte) :
    (duplicateId capture s).slc.backoffGen = s.slc.backoffGen := by
  simp [duplicateId]

@[simp] theorem takeClaim_backoffGen (c : ClaimId) (group : Nat) (kind : ClaimKind) (cls kw : Nat) :
    (takeClaim c group kind cls kw s).slc.backoffGen = s.slc.backoffGen := by
  simp [takeClaim, listClaim]

@[simp] theorem deliver_backoffGen (src : Nat) (b : Bulletin) (capture : List Byte) :
    (deliver src b capture s).slc.backoffGen = s.slc.backoffGen := by
  unfold deliver deliverOther; repeat' split
  all_goals simp

@[simp] theorem frameReceived_backoffGen (rest : List Byte) (lineIdle : Bool) :
    (frameReceived rest lineIdle s).slc.backoffGen = s.slc.backoffGen := by
  simp only [frameReceived]; repeat' split
  all_goals simp

/-! ### COMMIT and soft reset -/

@[simp] theorem recomputePeer_backoffGen (node : Nat) :
    (recomputePeer node s).slc.backoffGen = s.slc.backoffGen := by
  unfold recomputePeer; split <;> simp

@[simp] theorem foldl_recomputePeer_backoffGen (nodes : List Nat) :
    (nodes.foldl (fun s node => recomputePeer node s) s).slc.backoffGen = s.slc.backoffGen := by
  induction nodes generalizing s with
  | nil => rfl
  | cons n ns ih => simp [ih]

@[simp] theorem peerCommit_backoffGen (period ownId : Nat) :
    (peerCommit period ownId s).slc.backoffGen = s.slc.backoffGen := by
  simp [peerCommit]

@[simp] theorem setCommit_backoffGen (c : ConfigRecord) :
    (setCommit c s).slc.backoffGen = s.slc.backoffGen := by
  simp only [setCommit]; repeat' split
  all_goals simp

@[simp] theorem boardCommit_backoffGen (c : ConfigRecord) :
    (boardCommit c s).slc.backoffGen = s.slc.backoffGen := by
  unfold boardCommit; split <;> simp

/-- A COMMIT that passes its checks loads the generator from seed and node id, and none of its later parts moves
it (R16). -/
theorem commitRecord_backoffGen (c : ConfigRecord) :
    (commitRecord c s).slc.backoffGen = backoffLoad c.seed c.nodeId := by
  simp [commitRecord]

@[simp] theorem softReset_backoffGen : (softReset s).slc.backoffGen = s.slc.backoffGen := by
  simp [softReset, Slc.emptied]


/-! ### The commands -/

theorem gated_backoffGen {role : Option Role} {states : List NodeState} {tag : Byte} {act : State → State}
    (h : (act s).slc.backoffGen = s.slc.backoffGen) :
    (gated role states tag act s).slc.backoffGen = s.slc.backoffGen := by
  simp [gated, h]

theorem fuelCommand_backoffGen {tag : Byte} {act : FuelConfig → State → State}
    (h : ∀ c, (act c s).slc.backoffGen = s.slc.backoffGen) :
    (fuelCommand tag act s).slc.backoffGen = s.slc.backoffGen := by
  refine gated_backoffGen s ?_
  split
  case h_1 => simp
  case h_2 c _ => exact h c

/-- Every command but COMMIT, COLLISION and POWER_ON_RESET leaves the generator (R16). The cases are grouped by the
command's outer form: an operation alone, an operation chosen by the state, a host command behind its gate, a fuel
command behind its working copy. -/
theorem exec_backoffGen (c : Instr) (hcommit : ∀ tag, c ≠ .commit tag) (hcollision : c ≠ .collision)
    (hpower : c ≠ .powerOnReset) : ∃ t, exec c s = .next t ∧ t.slc.backoffGen = s.slc.backoffGen := by
  cases c with
  | powerOnReset => exact absurd rfl hpower
  | collision => exact absurd rfl hcollision
  | commit tag => exact absurd rfl (hcommit tag)
  | busBusy | busIdleTimeout taken | frameHeaderReceived sync src kind len | frameReceived rest lineIdle
  | frameStart | backoffEnd | frameSent | retryHoldRetry | linkStuck | statusTimer | extraStatusDue
  | peerStale node | peerLost node | peerRemoved node | filteredLevelChange line | intentWindowEnd
  | crankLimit | restTimeEnd | warmUpEnd | syncLimit | unloadLimit | coolDownEnd | poll
  | frontEndAnswer bytes ended | answerWindowClose | flowPulse lowUs highUs | strayBurstEnd | levelCheck
  | claimExpiry board serial | pledgeDeadline board serial | sourceLossConfirmed feeder | topupTimer
  | returnConfirmed feeder | pulseEnd feeder | resolveRequestTimer slot | intervalBoundary
  | hostTransaction bytes | siteTimeWrap | attnDelay | transactionBegins | rawLevelChange line level
  | answerClockedIn bytes =>
    exact ⟨_, rfl, by simp⟩
  | deadTimeEnd | closeLimit =>
    refine ⟨_, rfl, ?_⟩
    dsimp only
    repeat' split
    all_goals simp
  | deliveryAutoClose | claimDeadline | openLimit =>
    refine ⟨_, rfl, ?_⟩
    repeat' split
    all_goals simp
  | readPeers tag node | setRun tag run | clearSet tag | readPledges tag | shedHost tag channel op
  | defineTariff tag slot form key base pass | resolveTariff tag key base pass | readBilling tag
  | ackBilling tag count | noop tag | resetSoft tag | setTime tag time | readEvents tag
  | ackEvents tag count | serviceMark tag mark | readFaults tag | clearFaults tag kinds
  | setFaultMask tag kinds =>
    exact ⟨_, rfl, gated_backoffGen s (by simp)⟩
  | setMode tag mode | selectProfile tag profile | changeover tag cls | cancelChangeover tag
  | restore tag feeder | clearFeeder tag feeder | setChannel tag channel enabled account tariff level
  | accountOpen tag id limit | setLimit tag id limit | accountClose tag id | readAccount tag id
  | configure tag body | readNode tag part half =>
    refine ⟨_, rfl, gated_backoffGen s ?_⟩
    repeat' split
    all_goals simp
  | deliveryOpen tag ticket price litres | readTank tag | readLots tag =>
    exact ⟨_, rfl, fuelCommand_backoffGen s fun c => by simp⟩
  | deliveryClose tag | deliveryCancel tag | resyncTank tag =>
    refine ⟨_, rfl, fuelCommand_backoffGen s fun c => ?_⟩
    repeat' split
    all_goals simp

end Sys2Proof.Machine
end

section
/-! The backoff generator (R16): its step, its draw, its load, and O8. -/

namespace Sys2Proof.Machine

/-! ### The generator's step (Machine/Flags.lean, R16) -/

/-- A step moves bits 1 to 15 one place toward the low end and puts the feedback bit on top. -/
theorem backoffStep_getLsbD (g : BitVec 16) (i : Nat) (hi : i < 16) :
    (backoffStep g).getLsbD i =
      if i = 15 then g.getLsbD 0 ^^ g.getLsbD 2 ^^ g.getLsbD 3 ^^ g.getLsbD 5 else g.getLsbD (i + 1) := by
  have top : ∀ b : Bool, (if b then 0x8000#16 else 0).getLsbD i = (b && decide (i = 15)) := by
    intro b
    cases b
    · simp
    · interval_cases i <;> rfl
  simp only [backoffStep, BitVec.getLsbD_or, BitVec.getLsbD_ushiftRight, Nat.add_comm 1 i]
  refine (congrArg (g.getLsbD (i + 1) || ·) (top _)).trans ?_
  split
  case isTrue last => simp [last]
  case isFalse other => simp [other]

/-- A register whose step is 0 was 0: the shift shows bits 1 to 15, and the feedback bit then shows bit 0. -/
theorem backoffStep_ne_zero {g : BitVec 16} (hg : g ≠ 0) : backoffStep g ≠ 0 := by
  intro stepZero
  have bit := fun i hi => backoffStep_getLsbD g i hi
  simp only [stepZero, BitVec.ofNat_eq_ofNat, BitVec.getLsbD_zero] at bit
  have upper : ∀ i, 0 < i → i < 16 → g.getLsbD i = false
    | i + 1, _, hi => by simpa [show i ≠ 15 by omega] using (bit i (by omega)).symm
  have low : g.getLsbD 0 = false := by
    have feedback := bit 15 (by decide)
    simp only [if_true, upper 2, upper 3, upper 5, Nat.reduceLT, Bool.xor_false] at feedback
    exact feedback.symm
  refine hg (BitVec.eq_of_getLsbD_eq fun i hi => ?_)
  rw [BitVec.ofNat_eq_ofNat, BitVec.getLsbD_zero]
  rcases Nat.eq_zero_or_pos i with rfl | pos
  · exact low
  · exact upper i pos hi

/-! ### The entry being sent -/

theorem find?_append_cons {p : TxEntry → Bool} {pre post : List TxEntry} {e : TxEntry}
    (hpre : ∀ x ∈ pre, p x = false) (he : p e = true) : (pre ++ e :: post).find? p = some e := by
  rw [List.find?_append, List.find?_eq_none.mpr fun x hx => by simp [hpre x hx], List.find?_cons_of_pos he]
  rfl

theorem spliceFirst_append_cons {p : TxEntry → Bool} {pre post : List TxEntry} {e : TxEntry}
    (f : TxEntry → List TxEntry) (hpre : ∀ x ∈ pre, p x = false) (he : p e = true) :
    spliceFirst p f (pre ++ e :: post) = pre ++ (f e ++ post) := by
  induction pre with
  | nil => simp [spliceFirst, he]
  | cons x xs ih =>
    simp [spliceFirst, hpre x (by simp), ih fun y hy => hpre y (by simp [hy])]

/-! ### A collision (R14, R16) -/

variable {s : State} {f : TxFrame} {e : TxEntry}

/-- The entry after a collision below the eighth: one more attempt, and the backoff the stepped register draws. -/
def TxEntry.collided (e : TxEntry) (s : State) : TxEntry :=
  { e with
    bulletin := (if e.bulletin.isStatus then s.slc.successor else none).getD e.bulletin
    attempts := e.attempts + 1
    backoffEnd := some (s.clock.site
      + backoffDraw (e.attempts + 1) (backoffStep s.slc.backoffGen) * backoffSlot)
    sending := false }

/-- Below the eighth collision a draw is made: the generator steps, and the entry takes its backoff. -/
theorem collide_draws (htx : s.slc.tx = some f) (hown : f.orphan = false)
    (hfind : s.slc.queue.find? (·.sending) = some e) (hlt : e.attempts < 7) :
    (collide s).slc.backoffGen = backoffStep s.slc.backoffGen ∧
    (collide s).slc.queue = spliceFirst (·.sending) (fun _ => [e.collided s]) s.slc.queue := by
  have hcount : e.attempts + 1 < 8 := by omega
  simp [collide, htx, hown, hfind, hcount, TxEntry.collided]

/-- Where no draw is made the generator keeps its value: nothing sent, a frame that is not retried, or the eighth
collision of the entry. -/
theorem collide_backoffGen_of_no_draw
    (h : s.slc.tx = none ∨ (∃ f, s.slc.tx = some f ∧ f.orphan = true) ∨
      ∀ e, s.slc.queue.find? (·.sending) = some e → 7 ≤ e.attempts) :
    (collide s).slc.backoffGen = s.slc.backoffGen := by
  unfold collide
  split
  case h_1 => rfl
  case h_2 f htx =>
    dsimp only
    split
    case isTrue => rfl
    case isFalse hown =>
      split
      case h_1 => rfl
      case h_2 e hfind =>
        have eighth : 7 ≤ e.attempts := by
          rcases h with h | ⟨f', h, orphan⟩ | h
          · simp [htx] at h
          · simp_all
          · exact h e hfind
        rw [if_neg (by omega)]
        simp

/-! ### COMMIT -/

/-- A COMMIT that R191 takes leaves the generator at the value that R16 loads. -/
theorem exec_commit_backoffGen {t : State} {tag : Byte} {c : ConfigRecord} (h : exec (.commit tag) s = .next t)
    (hconfig : s.hpt.nodeState = .config) (hrecord : s.hpt.record = some c) (hminutes : c.mCrit < c.mLow)
    (hstock : c.openingStock ≤ c.capacity) : t.slc.backoffGen = backoffLoad c.seed c.nodeId := by
  have taken : s.takes none [.config] = true := by simp [State.takes, hconfig]
  simp only [exec, execCommit, gated_taken s taken, hrecord, Nat.not_le.mpr hminutes, Nat.not_lt.mpr hstock,
    if_false, Host.Outcome.next.injEq] at h
  simp [← h, commitRecord_backoffGen]

/-! ### O8 -/

/-- Settles O8: the step by its bits, the draw and its absence by the cases of `collide`, COMMIT by its load, and every
other command by `exec_backoffGen`. -/
theorem backoffGenerator : Obligations.BackoffGenerator := by
  refine ⟨fun g => ⟨fun i hi => ?_, ?_, backoffStep_ne_zero⟩, ?_, ?_, rfl, ?_, ?_⟩
  · rw [backoffStep_getLsbD g i (by omega), if_neg (by omega)]
  · exact backoffStep_getLsbD g 15 (by decide)
  · intro s f pre post e htx hown hqueue hsending hpre hlt
    have hfind : s.slc.queue.find? (·.sending) = some e := hqueue ▸ find?_append_cons hpre hsending
    obtain ⟨hgen, hsplice⟩ := collide_draws htx hown hfind hlt
    refine ⟨collide s, e.collided s, rfl, hgen, ?_, rfl, rfl⟩
    rw [hsplice, hqueue, spliceFirst_append_cons _ hpre hsending]
    rfl
  · exact fun s t tag c h hconfig hrecord hminutes hstock =>
      exec_commit_backoffGen h hconfig hrecord hminutes hstock
  · intro c s t h hcommit hcollision hpower
    obtain ⟨u, hu, keeps⟩ := exec_backoffGen s c hcommit hcollision hpower
    obtain rfl : u = t := Host.Outcome.next.inj (hu.symm.trans h)
    exact keeps
  · exact fun s h => ⟨collide s, rfl, collide_backoffGen_of_no_draw h⟩

end Sys2Proof.Machine
end

section
/-! CLEAR_SET (R58) and the entries of a set left running (R51 to R53): O19. -/

namespace Sys2Proof.Machine

open Sys2Proof.Claims

variable {s t u : State}

/-! ### The gate and the limits (R63, R189) -/

/-- The gate of the Set Controller's commands is a GENSET in RUN or MUTE (R189). -/
theorem takes_genset_iff : s.takes (some .genset) [.run, .mute] = true ↔ Running s := by
  cases h : s.hpt.nodeState <;> simp [State.takes, Running, h]

theorem setTimerEnded_of_timedOut {st : SetState} (h : TimedOut st s) : setTimerEnded st s = true := by
  obtain ⟨⟨role, node⟩, state, d, timer, due⟩ := h
  simp [setTimerEnded, State.gensetWorks, role, node, state, timer, due, reached]

/-! ### H outside ONLINE (R88, R95) -/

theorem arbiterRuns_eq_self (n : Nat) (h : s.plu.headroom = 0) : arbiterRuns n s = s := by
  cases n with
  | zero => rfl
  | succ n => exact if_pos h

/-- With no headroom to offer the arbiter makes no choice, so H stays 0 (R95). -/
theorem servePledges_headroom (h : offeredHeadroom s = 0) : (servePledges s).plu.headroom = 0 := by
  have noRoom : (refreshHeadroom s).plu.headroom = 0 := h
  rw [servePledges, arbiterRuns_eq_self _ noRoom, noRoom]

theorem offeredHeadroom_of_not_online (h : s.setc.state ≠ .online) : offeredHeadroom s = 0 :=
  if_neg fun ⟨_, _, online, _⟩ => h online

/-! ### An entry to a set state (R42, R61) -/

section

variable (s) (st : SetState) (cause : Option SetCause) (trip : Bool)

@[simp] theorem enterSet_setc :
    (enterSet st cause trip s).setc = s.setc.entered st cause s.now s.cfg.warmUp := by simp [enterSet]

@[simp] theorem enterSet_fpc : (enterSet st cause trip s).fpc =
    { s.fpc with runRequest := (setLines st).1, loadEnable := (setLines st).2 } := by
  simp [enterSet, askLines]

theorem enterSet_headroom (h : st ≠ .online) : (enterSet st cause trip s).plu.headroom = 0 := by
  simp only [enterSet, extraCause_frame]
  exact servePledges_headroom (offeredHeadroom_of_not_online (by simpa [Setc.entered] using h))

theorem enterSet_keeps :
    KeepsAllBut [.setc, .fpc, .evf, .plu, .slc, .pvt] s (enterSet st cause trip s) :=
  keepsAllBut_of (by simp)

/-- Every entry rests where the tables of lines and limits say; only ONLINE taken from ONLINE keeps the stop
watch. -/
theorem enterSet_enters (h : st = .online → s.setc.state ≠ .online) :
    Enters st (setLines st).1 (setLines st).2 ((setLimitOf s.cfg.warmUp st).map (s.now + ·))
      (if st = .faulted then cause else none) s.setc.attempts s (enterSet st cause trip s) := by
  refine ⟨?_, enterSet_fpc .., enterSet_keeps s st cause trip, enterSet_headroom s st cause trip⟩
  have leaves : (st = .online ∧ s.setc.state ≠ .online) ↔ st = .online := and_iff_left_of_imp h
  simp [Setc.entered, leaves]

end

/-! ### Entries passed through at once (R43) -/

section

variable {st st' : SetState} {run load run' load' : Bool} {timer timer' : Option Nat}
  {cause cause' : Option SetCause} {attempts attempts' : Nat}

/-- The clock, the node's record and the filtered inputs that the next entry reads are those of before. -/
theorem enters_reads (h : Enters st run load timer cause attempts s t) :
    t.now = s.now ∧ t.cfg = s.cfg ∧ t.fpc.breaker = s.fpc.breaker := by
  obtain ⟨-, fpc, keeps, -⟩ := h
  exact ⟨by simp only [State.now, keeps.clock], by simp only [State.cfg, keeps.hpt], by rw [fpc]⟩

/-- Of a state that clears no watch and is left at once, nothing remains. -/
theorem enters_passed (h : Enters st run load timer cause attempts s t)
    (h' : Enters st' run' load' timer' cause' attempts' t u)
    (passing : st ≠ .stopped ∧ st ≠ .faulted ∧ st ≠ .online) :
    Enters st' run' load' timer' cause' attempts' s u := by
  obtain ⟨setc, fpc, keeps, -⟩ := h
  obtain ⟨setc', fpc', keeps', headroom⟩ := h'
  refine ⟨?_, ?_, keeps.trans keeps', headroom⟩
  · simp [setc', setc, passing]
  · rw [fpc', fpc]

theorem syncs_passed (h : Enters st run load timer cause attempts s t) (h' : Syncs attempts' t u)
    (passing : st ≠ .stopped ∧ st ≠ .faulted ∧ st ≠ .online) : Syncs attempts' s u := by
  obtain ⟨now, -, breaker⟩ := enters_reads h
  rw [Syncs, now, breaker] at h'
  exact ⟨fun opened => enters_passed h (h'.1 opened) passing, fun closed => enters_passed h (h'.2 closed) passing⟩

theorem warms_passed (h : Enters st run load timer cause attempts s t) (h' : Warms t u)
    (passing : st ≠ .stopped ∧ st ≠ .faulted ∧ st ≠ .online) : Warms s u := by
  obtain ⟨now, cfg, -⟩ := enters_reads h
  rw [Warms, now, cfg] at h'
  exact ⟨fun timed => enters_passed h (h'.1 timed) passing, fun zero => syncs_passed h (h'.2 zero) passing⟩

/-- An entry says the attempt count it leaves, so a count set just before it does not show. -/
theorem enters_of_attempts {n : Nat}
    (h : Enters st run load timer cause attempts (s.withSetc { s.setc with attempts := n }) t) :
    Enters st run load timer cause attempts s t := by
  obtain ⟨setc, fpc, keeps, headroom⟩ := h
  have counted : KeepsAllBut [.setc, .fpc, .evf, .plu, .slc, .pvt] s
      (s.withSetc { s.setc with attempts := n }) := keepsAllBut_of (by simp)
  exact ⟨setc, fpc, counted.trans keeps, headroom⟩

end

/-- STOPPED from any state with the attempt count 0 (R58, R60). -/
theorem enterStopped_enters (s : State) :
    Enters .stopped false false none none 0 s (enterStopped (s.withSetc { s.setc with attempts := 0 })) :=
  enters_of_attempts (enterSet_enters _ .stopped none false nofun)

theorem enterSyncing_syncs (trip : Bool) (s : State) : Syncs s.setc.attempts s (enterSyncing trip s) := by
  have syncing : Enters .syncing true true (some (s.now + 60 * second)) none s.setc.attempts s _ :=
    enterSet_enters s .syncing none trip nofun
  have breaker := (enters_reads syncing).2.2
  refine ⟨fun opened => ?_, fun closed => ?_⟩
  · simpa [enterSyncing, breaker, opened] using syncing
  · have online := enters_passed syncing
      (enterSet_enters _ .online none false (by simp [Setc.entered])) (by decide)
    simpa [enterSyncing, enterOnline, breaker, closed, setLines, setLimitOf, Setc.entered] using online

theorem enterWarming_warms (s : State) : Warms s (enterWarming s) := by
  have warming : Enters .warming true false (some (s.now + s.cfg.warmUp * second)) none 0 s _ :=
    enters_of_attempts (enterSet_enters _ .warming none false nofun)
  have cfg := (enters_reads warming).2.1
  refine ⟨fun timed => ?_, fun zero => ?_⟩
  · simpa [enterWarming, cfg, timed] using warming
  · have syncs := syncs_passed warming (enterSyncing_syncs false _) (by decide)
    simpa [enterWarming, cfg, zero, Setc.entered] using syncs

/-- A set that cranks with RUNNING active passes on to WARMING at once (R43, R51). -/
theorem enterCranking_warms (running : s.fpc.running.level = true) : Warms s (enterCranking s) := by
  have cranking := enterSet_enters s .cranking none false nofun
  have warms := warms_passed cranking (enterWarming_warms _) (by decide)
  simpa [enterCranking, running] using warms

/-! ### The commands (R47, R58, R60) -/

theorem exec_clearSet_taken (tag : Byte) (works : Running s) (faulted : s.setc.state = .faulted)
    (noFault : s.fpc.setFault.level = false) : exec (.clearSet tag) s =
      .next ((enterStopped (s.withSetc { s.setc with attempts := 0 })).answered tag .ok []) := by
  simp only [exec, execClearSet, gated_taken s (takes_genset_iff.mpr works)]
  rw [if_pos ⟨faulted, noFault⟩]
  rfl

theorem exec_clearSet_refused (tag : Byte)
    (h : ¬(Running s ∧ s.setc.state = .faulted ∧ s.fpc.setFault.level = false)) :
    exec (.clearSet tag) s = .next (s.answered tag .state []) := by
  simp only [exec, execClearSet]
  by_cases works : Running s
  · rw [gated_taken s (takes_genset_iff.mpr works), if_neg fun clears => h ⟨works, clears⟩]
    rfl
  · rw [gated_refused s (Bool.eq_false_iff.mpr (mt takes_genset_iff.mp works))]
    rfl

theorem exec_intentWindowEnd_of_intending (h : TimedOut .intending s) :
    exec .intentWindowEnd s = .next (enterCranking s) := by
  simp only [exec, execIntentWindowEnd]
  rw [if_pos (setTimerEnded_of_timedOut h)]

theorem exec_setRun_on_of_stopped (tag : Byte) (works : Running s) (manual : s.setc.mode = .manual)
    (stopped : s.setc.state = .stopped) :
    exec (.setRun tag 0) s = .next ((enterCranking s).answered tag .ok []) := by
  simp only [exec, execSetRun, gated_taken s (takes_genset_iff.mpr works)]
  simp [manual, runOn, stopped, respond, State.answered]

/-- Settles O19: the two answers of CLEAR_SET, and the two ways back to CRANKING, which a set left running passes. -/
theorem clearSet : Obligations.ClearSet := by
  refine ⟨fun s tag works faulted noFault => ?_, fun s tag h => ?_, fun s running => ⟨fun ended => ?_, ?_⟩⟩
  · exact ⟨_, exec_clearSet_taken tag works faulted noFault, enterStopped_enters s⟩
  · refine exec_clearSet_refused tag fun ⟨⟨genset, working⟩, faulted, noFault⟩ => ?_
    rcases h with fault | state | config | board
    · simp [noFault] at fault
    · exact state faulted
    · exact working config
    · simp [genset] at board
  · exact ⟨_, exec_intentWindowEnd_of_intending ended, enterCranking_warms running⟩
  · exact fun tag works manual stopped =>
      ⟨_, exec_setRun_on_of_stopped tag works manual stopped, enterCranking_warms running⟩

end Sys2Proof.Machine
end

section
/-! The cost index of a set (R67, R75, R89, R90): O28. -/

namespace Sys2Proof.Machine

open Sys2Proof.Claims

variable (s : State)

/-! ### What the Pledge Unit's operations leave of the index (R89)

Only a sample and the leaving of ONLINE write it: revocations, H and the arbiter's choices do not. -/

@[simp] theorem serve_ci (w : WaitEntry) : (serve w s).plu.ci = s.plu.ci := by
  simp [serve, refreshHeadroom]

@[simp] theorem arbiterRuns_ci (n : Nat) : (arbiterRuns n s).plu.ci = s.plu.ci := by
  induction n generalizing s with
  | zero => rfl
  | succ n ih =>
    unfold arbiterRuns
    split
    · rfl
    · split
      · rfl
      · rw [ih, serve_ci]

@[simp] theorem servePledges_ci : (servePledges s).plu.ci = s.plu.ci := by
  simp [servePledges, refreshHeadroom]

@[simp] theorem settlePledges_ci : (settlePledges s).plu.ci = s.plu.ci := by
  simp [settlePledges]

@[simp] theorem dropPledge_ci (c : ClaimId) : (dropPledge c s).plu.ci = s.plu.ci := rfl

@[simp] theorem revokeEntries_ci (l : List PledgeEntry) : (revokeEntries l s).plu.ci = s.plu.ci := by
  induction l generalizing s with
  | nil => rfl
  | cons e l ih =>
    simp only [revokeEntries]
    split
    · rfl
    · split
      · simp
      · simp [ih]

@[simp] theorem derateCheck_ci : (derateCheck s).plu.ci = s.plu.ci := revokeEntries_ci s _

@[simp] theorem tripEntries_ci (l : List PledgeEntry) : (tripEntries l s).plu.ci = s.plu.ci := by
  induction l generalizing s with
  | nil => rfl
  | cons e l ih =>
    rw [tripEntries, ih]
    split <;> simp

@[simp] theorem tripNotice_ci : (tripNotice s).plu.ci = s.plu.ci := tripEntries_ci s _

/-! ### When the index is written (R89, R90) -/

variable {s}

/-- A sample of a set at work leaves the index it forms from the state before it. -/
theorem pledgeSample_ci (works : Running s) : (pledgeSample s).plu.ci = costIndex s := by
  obtain ⟨role, node⟩ := works
  simp [pledgeSample, State.gensetWorks, role, node]

/-- The index of a set that leaves ONLINE is 0 at once, through the trip notice and the choices of the entry. -/
theorem enterSet_ci_of_leaving_online {st : SetState} (cause : Option SetCause) (trip : Bool)
    (online : s.setc.state = .online) (leaves : st ≠ .online) : (enterSet st cause trip s).plu.ci = 0 := by
  simp only [enterSet, extraCause_frame, servePledges_ci, online]
  split <;> simp [leaves]

/-! ### The value of the index (R67, R75, R89) -/

theorem costIndex_of_online {c : FuelConfig} (online : s.setc.state = .online) (copy : s.fau.copy = some c) :
    costIndex s = costIndexOf (ciPrice s) s.fpc.sample.p c.rating c.curve := by
  simp [costIndex, online, copy]

theorem costIndex_of_not_online (h : s.setc.state ≠ .online) : costIndex s = 0 := by
  unfold costIndex
  split
  case h_1 online _ => exact absurd online h
  case h_2 => rfl

theorem ciPrice_eq_headD (s : State) : ciPrice s = (s.fau.lots.map (·.price)).headD s.fau.lastPrice := by
  cases h : s.fau.lots <;> simp [ciPrice, h]

theorem flowOf_loadOf (p rating : Nat) (curve : List Nat) :
    flowOf curve (loadOf p rating) = flowAt p rating curve := rfl

/-- The floor of the effective power is the tenth of the rating rounded up. -/
theorem effectivePower_eq {rating tenth : Nat} (p : Nat) (covers : rating ≤ 10 * tenth)
    (least : 10 * tenth < rating + 10) : effectivePower p rating = max p tenth := by
  have floor : ceilDiv rating 10 = tenth := by
    unfold ceilDiv
    omega
  rw [effectivePower, floor]

/-- The index is the quotient at the effective power rounded to nearest, cut at 65535 (R89). -/
theorem costIndexOf_rounds (price p : Nat) {rating tenth : Nat} (curve : List Nat) (rated : 0 < rating)
    (covers : rating ≤ 10 * tenth) (least : 10 * tenth < rating + 10) :
    let power := max p tenth
    let n := flowAt power rating curve
    ∃ q, costIndexOf price p rating curve = min q 65535 ∧
      2 * (250 * power) * q ≤ 2 * (price * n) + 250 * power ∧
      2 * (price * n) + 250 * power < 2 * (250 * power) * (q + 1) := by
  intro power n
  have positive : 0 < 250 * power := by
    have : tenth ≤ power := le_max_right p tenth
    omega
  obtain ⟨below, above⟩ := roundDiv_spec (price * n) (250 * power) positive
  refine ⟨roundDiv (price * n) (250 * power), ?_, below, above⟩
  simp only [costIndexOf, effectivePower_eq p covers least, flowOf_loadOf, n, power]

/-- Settles O28: a sample writes the rounded quotient or, outside ONLINE, 0, and leaving ONLINE writes 0. (The
model's function has the obligation's name, so the theorem stands under its unit's.) -/
theorem PledgeUnit.costIndex : Obligations.CostIndex := by
  refine ⟨fun s c tenth price works copy rated online covers least hprice => ?_, fun s works h => ?_,
    fun s st cause trip online leaves => enterSet_ci_of_leaving_online cause trip online leaves⟩
  · rw [pledgeSample_ci works, costIndex_of_online online copy, ciPrice_eq_headD, ← hprice]
    exact costIndexOf_rounds price s.fpc.sample.p c.curve rated covers least
  · rw [pledgeSample_ci works, costIndex_of_not_online h]

end Sys2Proof.Machine
end

section
/-! The frame of every command, and a step's two forms: O1 and O6. -/

namespace Sys2Proof.Machine

open Sys2Proof.Claims

variable {l : List Part} {s : State}

/-! ### The host's commands behind their gates -/

theorem gated_keeps {role : Option Role} {states : List NodeState} {tag : Byte} {act : State → State}
    (answers : Part.hpt ∈ l) (h : KeepsAllBut l s (act s)) : KeepsAllBut l s (gated role states tag act s) := by
  unfold gated
  split
  · exact h
  · exact keepsAllBut_of (by simp [answers])

theorem fuelCommand_keeps {tag : Byte} {act : FuelConfig → State → State} (answers : Part.hpt ∈ l)
    (h : ∀ c, KeepsAllBut l s (act c s)) : KeepsAllBut l s (fuelCommand tag act s) := by
  refine gated_keeps answers ?_
  split
  case h_1 => exact keepsAllBut_of (by simp [answers])
  case h_2 c _ => exact h c

/-! ### The frame of every command -/

/-- Every command answers a next state, within its frame. The cases are grouped by the command's outer form: an
operation alone, an operation chosen by the state, a host command behind its gate, a fuel command behind its
working copy. -/
theorem exec_frame (c : Instr) (s : State) : ∃ t, exec c s = .next t ∧ KeepsAllBut (mayTouch c) s t := by
  cases c with
  | powerOnReset => exact ⟨_, rfl, keepsAllBut_of (by simp [mayTouch])⟩
  | busBusy | busIdleTimeout taken | frameHeaderReceived sync src kind len | frameReceived rest lineIdle
  | frameStart | collision | backoffEnd | frameSent | retryHoldRetry | linkStuck | statusTimer | extraStatusDue
  | peerStale node | peerLost node | peerRemoved node | filteredLevelChange line | intentWindowEnd
  | crankLimit | restTimeEnd | warmUpEnd | syncLimit | unloadLimit | coolDownEnd | poll
  | frontEndAnswer bytes ended | answerWindowClose | flowPulse lowUs highUs | strayBurstEnd | levelCheck
  | claimExpiry board serial | pledgeDeadline board serial | sourceLossConfirmed feeder | topupTimer
  | returnConfirmed feeder | pulseEnd feeder | resolveRequestTimer slot | intervalBoundary
  | hostTransaction bytes | siteTimeWrap | attnDelay | transactionBegins | rawLevelChange line level
  | answerClockedIn bytes =>
    exact ⟨_, rfl, keepsAllBut_of (by simp [mayTouch])⟩
  | deadTimeEnd | closeLimit =>
    refine ⟨_, rfl, ?_⟩
    dsimp only
    repeat' split
    all_goals exact keepsAllBut_of (by simp [mayTouch])
  | deliveryAutoClose | claimDeadline | openLimit =>
    refine ⟨_, rfl, ?_⟩
    repeat' split
    all_goals exact keepsAllBut_of (by simp [mayTouch])
  | readPeers tag node | setRun tag run | clearSet tag | readPledges tag | shedHost tag channel op
  | defineTariff tag slot form key base pass | resolveTariff tag key base pass | readBilling tag
  | ackBilling tag count | noop tag | resetSoft tag | setTime tag time | readEvents tag
  | ackEvents tag count | serviceMark tag mark | readFaults tag | clearFaults tag kinds
  | setFaultMask tag kinds =>
    exact ⟨_, rfl, gated_keeps (by simp [mayTouch]) (keepsAllBut_of (by simp [mayTouch]))⟩
  | setMode tag mode | selectProfile tag profile | changeover tag cls | cancelChangeover tag
  | restore tag feeder | clearFeeder tag feeder | setChannel tag channel enabled account tariff level
  | accountOpen tag id limit | setLimit tag id limit | accountClose tag id | readAccount tag id
  | configure tag body | readNode tag part half | commit tag =>
    refine ⟨_, rfl, gated_keeps (by simp [mayTouch]) ?_⟩
    repeat' split
    all_goals exact keepsAllBut_of (by simp [mayTouch])
  | deliveryOpen tag ticket price litres | readTank tag | readLots tag =>
    exact ⟨_, rfl, fuelCommand_keeps (by simp [mayTouch]) fun c => keepsAllBut_of (by simp [mayTouch, openDelivery])⟩
  | deliveryClose tag | deliveryCancel tag | resyncTank tag =>
    refine ⟨_, rfl, fuelCommand_keeps (by simp [mayTouch]) fun c => ?_⟩
    repeat' split
    all_goals exact keepsAllBut_of (by simp [mayTouch])

/-- Settles O6. -/
theorem frameOfEveryCommand : Obligations.FrameOfEveryCommand := by
  intro c s t h
  obtain ⟨u, hu, keeps⟩ := exec_frame c s
  rw [hu] at h
  cases h
  exact keeps

/-- Settles O1. -/
theorem stepRunsFront : Obligations.StepRunsFront := fun _ _ _ => rfl

end Sys2Proof.Machine
end

section
/-! What an operation tells the event unit and the site link: events behind the ring's, faults beside those that are
set, offers within the queue's and the hold's bounds. One lemma per operation that posts or offers. -/

namespace Sys2Proof.Machine

/-- The event unit and the site link after postings, reports and offers. -/
structure ToldMore (c : Slc) (e : Evf) (c' : Slc) (e' : Evf) : Prop where
  ring : e.ring <+: e'.ring
  ringFits : e.ring.length ≤ 64 → e'.ring.length ≤ 64
  sticky : ∀ k : FaultKind, k.inSet e.sticky = true → k.inSet e'.sticky = true
  queueFits : c.queue.length ≤ 16 → c'.queue.length ≤ 16
  holdFits : c.hold.length ≤ 4 → c'.hold.length ≤ 4
  urgent : ∀ x ∈ c.queue, x.cls = .urgent → x.bulletin.isStatus = false → x ∈ c'.queue

/-- All that reached the event unit and the site link between two states was posted, reported or offered. -/
def Tells (u s : State) : Prop := ToldMore u.slc u.evf s.slc s.evf

theorem Tells.refl (s : State) : Tells s s :=
  ⟨List.prefix_refl _, id, fun _ => id, id, id, fun _ h _ _ => h⟩

theorem Tells.trans {u s t : State} (h : Tells u s) (k : Tells s t) : Tells u t where
  ring := h.ring.trans k.ring
  ringFits := k.ringFits ∘ h.ringFits
  sticky x := k.sticky x ∘ h.sticky x
  queueFits := k.queueFits ∘ h.queueFits
  holdFits := k.holdFits ∘ h.holdFits
  urgent x hx cls status := k.urgent x (h.urgent x hx cls status) cls status

theorem Tells.ite {c : Prop} [Decidable c] {u a b : State} (ha : Tells u a) (hb : Tells u b) :
    Tells u (if c then a else b) := by
  split <;> assumption

theorem tells_foldl {α : Type} {f : State → α → State} (hf : ∀ s a, Tells s (f s a)) {u s : State} (h : Tells u s)
    (xs : List α) : Tells u (xs.foldl f s) := by
  induction xs generalizing s with
  | nil => exact h
  | cons x xs ih => exact ih (h.trans (hf s x))

variable {u s : State}

/-- An operation that leaves the event unit and the site link tells nothing. -/
theorem Tells.of_eq {t : State} (h : Tells u s) (slc : t.slc = s.slc) (evf : t.evf = s.evf) : Tells u t := by
  rw [Tells, slc, evf]
  exact h

theorem Tells.withBil {x : Bil} (h : Tells u s) : Tells u (s.withBil x) := h

theorem Tells.withHpt {x : Hpt} (h : Tells u s) : Tells u (s.withHpt x) := h

theorem Tells.withMtr {x : Mtr} (h : Tells u s) : Tells u (s.withMtr x) := h

theorem Tells.withPvt {x : Pvt} (h : Tells u s) : Tells u (s.withPvt x) := h

theorem respond_tells {tag : Byte} {st : Status} {body : List Byte} (h : Tells u s) :
    Tells u (respond tag st body s) := h

/-! ### Events and faults (Machine/Ops.lean) -/

theorem testAttn_tells (h : Tells u s) : Tells u (testAttn s) := by
  obtain ⟨ring, ringFits, sticky, queue, hold, urgent⟩ := h
  constructor <;> simpa

theorem postEvent_tells {k : EventKind} {a : Subject} {v q : Nat} (h : Tells u s) :
    Tells u (postEvent k a v q s) := by
  refine h.trans ⟨postEvent_prefix .., fun fits => ?_, by simp, by simp, by simp,
    fun x hx _ _ => by simpa using hx⟩
  rcases Nat.lt_or_ge s.evf.ring.length 64 with room | full
  · simp [(postEvent_room s k a v q room).1]
    omega
  · simpa [postEvent_full s k a v q full] using fits

theorem reportFault_tells {k : FaultKind} {c : List Byte} (h : Tells u s) : Tells u (reportFault k c s) := by
  have marked : Tells u (s.withEvf { s.evf with sticky := s.evf.sticky ||| k.bit }) := by
    obtain ⟨ring, ringFits, sticky, queue, hold, urgent⟩ := h
    exact ⟨ring, ringFits, fun x hx => by simp [FaultKind.inSet] at *; simp [sticky x hx], queue, hold, urgent⟩
  simp only [reportFault]
  exact .ite marked (.ite { postEvent_tells marked with } (postEvent_tells marked))

/-! ### Offers (R8 to R11) -/

theorem mem_joinQueue {e x : TxEntry} {q : List TxEntry} : x ∈ joinQueue e q ↔ x = e ∨ x ∈ q := by
  induction q with
  | nil => simp [joinQueue]
  | cons y ys ih =>
    unfold joinQueue
    split <;> simp [ih, or_left_comm]

theorem spliceFirst_length_le (p : TxEntry → Bool) {f : TxEntry → List TxEntry} (hf : ∀ x, (f x).length ≤ 1)
    (q : List TxEntry) : (spliceFirst p f q).length ≤ q.length := by
  induction q with
  | nil => simp [spliceFirst]
  | cons x xs ih =>
    have := hf x
    unfold spliceFirst
    split <;> simp <;> omega

/-- Taking out the first entry that satisfies a predicate shortens a queue that has one. -/
theorem spliceFirst_remove_length {p : TxEntry → Bool} {q : List TxEntry} {e : TxEntry} (h : q.find? p = some e) :
    (spliceFirst p (fun _ => []) q).length + 1 = q.length := by
  induction q with
  | nil => cases h
  | cons x xs ih =>
    unfold spliceFirst
    split
    · simp
    · rename_i hx
      simp only [Bool.not_eq_true] at hx
      simp [ih (by simpa [List.find?_cons, hx] using h)]

/-- An entry that the predicate does not name stays when the first that it names gives way. -/
theorem mem_spliceFirst_of_not {p : TxEntry → Bool} {f : TxEntry → List TxEntry} {q : List TxEntry} {x : TxEntry}
    (hx : x ∈ q) (hp : p x = false) : x ∈ spliceFirst p f q := by
  induction q with
  | nil => cases hx
  | cons y ys ih =>
    unfold spliceFirst
    split
    · rename_i hy
      rcases List.mem_cons.mp hx with rfl | hx
      · simp [hp] at hy
      · simp [hx]
    · rcases List.mem_cons.mp hx with rfl | hx
      · simp
      · simp [ih hx]

/-- What an eviction takes satisfies its predicate; it shortens the queue by that entry and leaves all others. -/
theorem takeLast_spec {p : TxEntry → Bool} {q r : List TxEntry} {e : TxEntry} (h : takeLast p q = some (r, e)) :
    p e = true ∧ r.length + 1 = q.length ∧ ∀ x ∈ q, p x = false → x ∈ r := by
  unfold takeLast at h
  split at h
  · cases h
  · rename_i found
    cases h
    refine ⟨List.find?_some found, ?_, fun x hx hp => ?_⟩
    · simpa using spliceFirst_remove_length found
    · simpa using mem_spliceFirst_of_not (List.mem_reverse.mpr hx) hp

/-- An eviction takes no URGENT entry (R10). -/
theorem evict_spec {q r : List TxEntry} {e : TxEntry} (h : evict q = some (r, e)) :
    r.length + 1 = q.length ∧ ∀ x ∈ q, x.cls = .urgent → x ∈ r := by
  unfold evict at h
  split at h
  · rename_i taken
    cases h
    obtain ⟨-, length, stays⟩ := takeLast_spec taken
    exact ⟨length, fun x hx cls => stays x hx (by simp [cls])⟩
  · obtain ⟨-, length, stays⟩ := takeLast_spec h
    exact ⟨length, fun x hx cls => stays x hx (by simp [cls])⟩

theorem postDrop_tells {b : Bulletin} {cls : TxClass} {w : DropReason} (h : Tells u s) :
    Tells u (postDrop b cls w s) := postEvent_tells h

theorem dropFull_tells {b : Bulletin} {cls : TxClass} (h : Tells u s) : Tells u (dropFull b cls s) :=
  reportFault_tells (postDrop_tells h)

/-- An offer that replaces a waiting STATUS changes no length, and no other bulletin's entry. -/
theorem replaceStatus_told {b : Bulletin} {c c' : Slc} (e : Evf) (h : replaceStatus b c = some c') :
    ToldMore c e c' e := by
  have same : ∀ d : Slc, d.queue = c.queue → d.hold.length = c.hold.length → ToldMore c e d e := fun d hq hh =>
    ⟨List.prefix_refl _, id, fun _ => id, by simp [hq], by simp [hh], by simp +contextual [hq]⟩
  unfold replaceStatus at h
  split at h
  · split at h
    · cases h
      exact same _ rfl rfl
    · cases h
      refine ⟨List.prefix_refl _, id, fun _ => id, fun fits => ?_, id, fun x hx _ status => ?_⟩
      · exact (spliceFirst_length_le _ (by simp) _).trans fits
      · exact mem_spliceFirst_of_not hx status
  · split at h
    · cases h
      exact same _ rfl (by simp)
    · cases h

theorem offerNew_tells {b : Bulletin} {cls : TxClass} (h : Tells u s) : Tells u (offerNew b cls s) := by
  refine h.trans ?_
  have refl := Tells.refl s
  simp only [offerNew]
  split
  · rename_i room
    exact { refl with queueFits := fun _ => by simpa using room, urgent := fun x hx _ _ => by simp [mem_joinQueue, hx] }
  · split
    · split
      · rename_i q e evicted
        obtain ⟨length, stays⟩ := evict_spec evicted
        have posted := postDrop_tells (b := e.bulletin) (cls := e.cls) (w := .evicted) refl
        exact { posted with
          queueFits := fun fits => by simpa [length] using fits
          holdFits := id
          urgent := fun x hx cls _ => by simp [mem_joinQueue, stays x hx cls] }
      · exact dropFull_tells refl
    · split
      · rename_i room
        exact { refl with holdFits := fun _ => by simpa using room }
      · exact dropFull_tells refl

theorem offer_tells {b : Bulletin} {cls : TxClass} (h : Tells u s) : Tells u (offer b cls s) := by
  unfold offer
  refine .ite ?_ h
  split
  · rename_i c replaced
    split at replaced
    · exact h.trans (replaceStatus_told s.evf replaced)
    · cases replaced
  · exact offerNew_tells h

/-! ### The peer view's offers (Machine/PeerView.lean) -/

theorem offerStatus_tells (h : Tells u s) : Tells u (offerStatus s) := by
  unfold offerStatus
  split
  · exact h
  · exact offer_tells h

theorem offerExtra_tells (h : Tells u s) : Tells u (offerExtra s) := offerStatus_tells h

theorem extraCause_tells (h : Tells u s) : Tells u (extraCause s) := by
  unfold extraCause
  exact .ite h (.ite h (.ite (offerExtra_tells h) h))

theorem headroomCause_tells (h : Tells u s) : Tells u (headroomCause s) := .ite (extraCause_tells h) h

theorem statusTimer_tells (h : Tells u s) : Tells u (statusTimer s) := by
  unfold statusTimer
  split
  · exact h
  · exact .ite h (.ite (offerStatus_tells h) h)

theorem extraStatusDue_tells (h : Tells u s) : Tells u (extraStatusDue s) := .ite (offerExtra_tells h) h

/-! ### The Pledge Unit (Machine/Pledge.lean) -/

theorem serve_tells {w : WaitEntry} (h : Tells u s) : Tells u (serve w s) := offer_tells h

theorem arbiterRuns_tells {n : Nat} (h : Tells u s) : Tells u (arbiterRuns n s) := by
  induction n generalizing s with
  | zero => exact h
  | succ n ih =>
    unfold arbiterRuns
    refine .ite h ?_
    split
    · exact h
    · exact ih (serve_tells h)

theorem servePledges_tells (h : Tells u s) : Tells u (servePledges s) := arbiterRuns_tells h

theorem settlePledges_tells (h : Tells u s) : Tells u (settlePledges s) := headroomCause_tells (servePledges_tells h)

theorem announceRevoke_tells {c : ClaimId} {a b : Nat} {w : RevokeCause} (h : Tells u s) :
    Tells u (announceRevoke c a b w s) := postEvent_tells (offer_tells h)

theorem revokeEntries_tells {l : List PledgeEntry} (h : Tells u s) : Tells u (revokeEntries l s) := by
  induction l generalizing s with
  | nil => exact h
  | cons e es ih =>
    exact .ite h (.ite (announceRevoke_tells h) (ih (announceRevoke_tells h)))

theorem derateCheck_tells (h : Tells u s) : Tells u (derateCheck s) := revokeEntries_tells h

theorem tripEntries_tells {l : List PledgeEntry} (h : Tells u s) : Tells u (tripEntries l s) := by
  induction l generalizing s with
  | nil => exact h
  | cons e es ih => exact ih (.ite h (announceRevoke_tells h))

theorem tripNotice_tells (h : Tells u s) : Tells u (tripNotice s) := tripEntries_tells h

theorem derateChange_tells (h : Tells u s) : Tells u (derateChange s) :=
  .ite (settlePledges_tells (derateCheck_tells h)) h

theorem pledgeSample_tells (h : Tells u s) : Tells u (pledgeSample s) :=
  .ite (settlePledges_tells (derateCheck_tells h)) h

theorem dropPledge_settled_tells {c : ClaimId} (h : Tells u s) : Tells u (settlePledges (dropPledge c s)) :=
  settlePledges_tells h

theorem takeConfirm_tells {c : ClaimId} {es : List (Nat × Nat)} {capture : List Byte} (h : Tells u s) :
    Tells u (takeConfirm c es capture s) := by
  unfold takeConfirm
  dsimp only
  split
  · exact reportFault_tells h
  · exact h
  · refine .ite ?_ h
    split
    · exact .ite (dropPledge_settled_tells h) (settlePledges_tells h)
    · exact dropPledge_settled_tells h

theorem takeRelease_tells {c : ClaimId} {w : ReleaseReason} (h : Tells u s) : Tells u (takeRelease c w s) := by
  unfold takeRelease
  dsimp only
  split
  · exact h
  · split
    · exact dropPledge_settled_tells h
    · exact h
    · exact dropPledge_settled_tells h
    · exact h

theorem pledgeDeadline_tells {c : ClaimId} (h : Tells u s) : Tells u (pledgeDeadline c s) := by
  unfold pledgeDeadline
  split
  · exact h
  · exact .ite (settlePledges_tells (.ite (postEvent_tells h) h)) h

theorem pledgePeerGone_tells {n : Nat} (h : Tells u s) : Tells u (pledgePeerGone n s) := settlePledges_tells h

/-! ### The Set Controller (Machine/SetControl.lean) -/

theorem enterSet_tells {st : SetState} {cause : Option SetCause} {trip : Bool} (h : Tells u s) :
    Tells u (enterSet st cause trip s) := by
  have posted (k a v q) : Tells u (postEvent k a v q (askLines (setLines st)
      (s.withSetc (s.setc.entered st cause s.now s.cfg.warmUp)))) := postEvent_tells h
  exact extraCause_tells (servePledges_tells
    (.ite (tripNotice_tells (.ite (posted ..) (posted ..))) (.ite (posted ..) (posted ..))))

theorem enterSyncing_tells {trip : Bool} (h : Tells u s) : Tells u (enterSyncing trip s) :=
  .ite (enterSet_tells (enterSet_tells h)) (enterSet_tells h)

theorem enterWarming_tells (h : Tells u s) : Tells u (enterWarming s) :=
  .ite (enterSyncing_tells (enterSet_tells h)) (enterSet_tells h)

theorem enterCranking_tells (h : Tells u s) : Tells u (enterCranking s) :=
  .ite (enterWarming_tells (enterSet_tells h)) (enterSet_tells h)

theorem enterUnloading_tells (h : Tells u s) : Tells u (enterUnloading s) :=
  .ite (enterSet_tells h) (enterSet_tells (enterSet_tells h))

theorem announceIntent_tells {k : IntentKind} (h : Tells u s) : Tells u (announceIntent k s) :=
  offer_tells (enterSet_tells h)

theorem groupCheck_tells {notice : Bool} (h : Tells u s) : Tells u (groupCheck notice s) := by
  unfold groupCheck
  refine .ite ?_ h
  split
  · exact .ite (announceIntent_tells h) h
  · exact .ite (announceIntent_tells h) h
  · exact .ite (enterSyncing_tells h) h
  · exact h

theorem takeIntent_tells {n g key : Nat} {k : IntentKind} (h : Tells u s) : Tells u (takeIntent n g k key s) := by
  unfold takeIntent
  refine .ite ?_ h
  split
  · exact .ite (enterSet_tells h) h
  · exact enterSet_tells h
  · exact .ite (enterSet_tells h) h
  · exact h

theorem runningChange_tells {level : Bool} (h : Tells u s) : Tells u (runningChange level s) :=
  .ite (.ite (enterWarming_tells h) h) (.ite (enterSet_tells h) h)

theorem breakerChange_tells {level : Bool} (h : Tells u s) : Tells u (breakerChange level s) := by
  unfold breakerChange
  split
  · exact enterSet_tells h
  · exact enterSyncing_tells h
  · exact enterSyncing_tells h
  · exact enterSet_tells h
  · exact h

theorem setFaultChange_tells {level : Bool} (h : Tells u s) : Tells u (setFaultChange level s) :=
  .ite (enterSet_tells h) h

theorem crankFailed_tells (h : Tells u s) : Tells u (crankFailed s) :=
  .ite (enterSet_tells (postEvent_tells h)) (enterSet_tells (postEvent_tells h))

theorem changeMode_tells {mode : RunMode} (h : Tells u s) : Tells u (changeMode mode s) := by
  unfold changeMode
  refine .ite h ?_
  dsimp only
  split
  · exact enterSet_tells h
  · exact enterSet_tells h
  · exact h

theorem runOn_tells {tag : Byte} (h : Tells u s) : Tells u (runOn tag s) := by
  unfold runOn
  split
  · exact enterCranking_tells h
  · exact enterSyncing_tells h
  · exact h
  · exact h
  · exact h

theorem runOff_tells {tag : Byte} (h : Tells u s) : Tells u (runOff tag s) := by
  unfold runOff
  split
  · exact enterSet_tells h
  · exact enterSet_tells h
  · exact enterSet_tells h
  · exact enterUnloading_tells h
  · exact .ite (enterUnloading_tells h) h
  · exact h

/-! ### The Fuel Accounting Unit (Machine/Fuel.lean) -/

theorem refuelTest_tells {n : Nat} (h : Tells u s) : Tells u (refuelTest n s) :=
  .ite (postEvent_tells h) (.ite (postEvent_tells h) h)

theorem recomputeFuel_tells (h : Tells u s) : Tells u (recomputeFuel s) := by
  unfold recomputeFuel
  split
  · exact h
  · exact refuelTest_tells h

theorem burnUnlotted_tells {n : Nat} (h : Tells u s) : Tells u (burnUnlotted n s) :=
  .ite h (.ite h (postEvent_tells h))

theorem burn_tells {n : Nat} (h : Tells u s) : Tells u (burn n s) := burnUnlotted_tells h

theorem fuelSample_tells (h : Tells u s) : Tells u (fuelSample s) := by
  unfold fuelSample
  split
  · exact h
  · exact recomputeFuel_tells (.ite (burn_tells h) h)

theorem joinLot_tells {l : Lot} (h : Tells u s) : Tells u (joinLot l s) := by
  unfold joinLot
  refine .ite h ?_
  split
  · exact h
  · exact postEvent_tells h

theorem strayPulse_tells {k : Nat} (h : Tells u s) : Tells u (strayPulse k s) := .ite (postEvent_tells h) h

theorem fuelPulse_tells (h : Tells u s) : Tells u (fuelPulse s) := by
  unfold fuelPulse
  split
  · exact h
  · exact h
  · exact strayPulse_tells h

theorem closeDelivery_tells {auto : Bool} {d : Delivery} {c : FuelConfig} (h : Tells u s) :
    Tells u (closeDelivery auto d c s).2 :=
  derateChange_tells (recomputeFuel_tells (postEvent_tells (.ite h (joinLot_tells h))))

theorem compareLevel_tells {n : Nat} {c : FuelConfig} (h : Tells u s) : Tells u (compareLevel n c s) :=
  .ite (.ite (derateChange_tells (postEvent_tells h)) h) (.ite (derateChange_tells (postEvent_tells h)) h)

theorem levelCheck_tells (h : Tells u s) : Tells u (levelCheck s) := by
  unfold levelCheck
  split
  · refine .ite h ?_
    dsimp only
    split
    · exact .ite (compareLevel_tells h) h
    · exact h
  · exact h

theorem applyResync_tells {d : Int} {c : FuelConfig} (h : Tells u s) : Tells u (applyResync d c s) :=
  .ite h (.ite (joinLot_tells h) h)

theorem resync_tells {n : Nat} {c : FuelConfig} (h : Tells u s) : Tells u (resync n c s).2 :=
  derateChange_tells (recomputeFuel_tells (.ite (postEvent_tells (applyResync_tells h)) (applyResync_tells h)))

theorem takeHeldPulses_tells {k : Nat} (h : Tells u s) : Tells u (takeHeldPulses k s) := .ite h (postEvent_tells h)

theorem firstFuelCommit_tells {c : ConfigRecord} (h : Tells u s) : Tells u (firstFuelCommit c s) :=
  recomputeFuel_tells (takeHeldPulses_tells h)

theorem fuelCommit_tells {c : ConfigRecord} (h : Tells u s) : Tells u (fuelCommit c s) := by
  unfold fuelCommit
  split
  · exact h
  · exact firstFuelCommit_tells h
  · exact h

/-! ### The Metering Unit (Machine/Metering.lean) -/

theorem applyRelay_tells {i : Nat} (h : Tells u s) : Tells u (applyRelay i s) := .ite h (postEvent_tells h)

theorem applyRelays_tells {is : List Nat} (h : Tells u s) : Tells u (applyRelays is s) :=
  tells_foldl (fun s _ => applyRelay_tells (.refl s)) h is

theorem capacityRequest_tells {v : Bool} {ls : List Nat} (h : Tells u s) : Tells u (capacityRequest v ls s) :=
  applyRelays_tells h

theorem clearAllCapacity_tells (h : Tells u s) : Tells u (clearAllCapacity s) := .ite h (applyRelays_tells h)

theorem requestResolve_tells {t key : Nat} (h : Tells u s) : Tells u (requestResolve t key s) := postEvent_tells h

theorem becomeOver_tells {i : Nat} (h : Tells u s) : Tells u (becomeOver i s) := postEvent_tells h

theorem creditTests_tells {l : List Nat} (h : Tells u s) : Tells u (creditTests l s) :=
  applyRelays_tells (tells_foldl (fun s _ => becomeOver_tells (.refl s)) h _)

theorem priceEnergy_tells {a t e : Nat} {r : Rate} (h : Tells u s) : Tells u (priceEnergy a t e r s) := by
  unfold priceEnergy
  split
  · exact h
  · exact .ite (requestResolve_tells h) h
  · exact h

theorem chargeChannel_tells {r : Rate} {i : Nat} (h : Tells u s) : Tells u (chargeChannel r i s) := by
  unfold chargeChannel
  dsimp only
  split
  · exact h
  · exact .ite (priceEnergy_tells h) h

theorem chargeSample_tells (h : Tells u s) : Tells u (chargeSample s) :=
  creditTests_tells (tells_foldl (fun s _ => chargeChannel_tells (.refl s))
    (h.of_eq (by simp) (by simp)) _)

theorem changeChannel_tells {i : Nat} {f : Channel → Channel} (h : Tells u s) : Tells u (changeChannel i f s) :=
  h.of_eq (by simp) (by simp)

theorem pricePending_tells {a b : Nat} {p : PendingRec} (h : Tells u s) : Tells u (pricePending a b p s) :=
  h.of_eq (by simp) (by simp)

theorem remapChannel_tells {i n : Nat} {m : Option (Nat × Nat)} (h : Tells u s) : Tells u (remapChannel i m n s) := by
  have left : Tells u (leavePair i s) := h.of_eq (by simp) (by simp)
  have mapped : Tells u (match m with
      | some (a, t) => if ((leavePair i s).tariff t).isReference then reservePending a t (leavePair i s)
        else leavePair i s
      | none => leavePair i s) := by
    split
    · exact .ite (left.of_eq (by simp) (by simp)) left
    · exact left
  exact applyRelay_tells (changeChannel_tells mapped)

theorem resolveKey_tells {k a b : Nat} (h : Tells u s) : Tells u (resolveKey k a b s) :=
  creditTests_tells (tells_foldl (fun s p => pricePending_tells (a := a) (b := b) (p := p) (.refl s)) (.withMtr h) _)

theorem resolveTimerEnd_tells {t : Nat} (h : Tells u s) : Tells u (resolveTimerEnd t s) := by
  unfold resolveTimerEnd
  refine .ite ?_ h
  dsimp only
  split
  · exact requestResolve_tells h
  · exact h

/-! ### The Billing Unit (Machine/Billing.lean) -/

theorem carryAccount_tells {i : Nat} (h : Tells u s) : Tells u (carryAccount i s) :=
  .ite h (reportFault_tells (postEvent_tells h))

theorem serveClosing_tells {i n k : Nat} {b : Bool} (h : Tells u s) : Tells u (serveClosing i b n k s) :=
  h.of_eq (by simp) (by simp)

theorem closeSlot_tells {b : Bool} {n i : Nat} (h : Tells u s) : Tells u (closeSlot b n i s) :=
  .ite h (.ite (.ite (.ite (serveClosing_tells h) h) (carryAccount_tells h)) (serveClosing_tells h))

theorem closeInterval_tells {b : Bool} {n : Nat} (h : Tells u s) : Tells u (closeInterval b n s) :=
  (tells_foldl (fun s i => closeSlot_tells (i := i) (.refl s)) h (List.range 64)).withBil

theorem intervalBoundary_tells (h : Tells u s) : Tells u (intervalBoundary s) :=
  .ite h (closeInterval_tells h).withBil

theorem timeChange_tells {n : Nat} (h : Tells u s) : Tells u (timeChange n s) :=
  .ite h (closeInterval_tells h).withBil

theorem changeLimit_tells {i n : Nat} (h : Tells u s) : Tells u (changeLimit i n s) :=
  .ite (.ite h (applyRelays_tells h)) (creditTests_tells h)

theorem closeAccount_tells {i : Nat} (h : Tells u s) : Tells u (closeAccount i s).2 := by
  unfold closeAccount
  dsimp only
  split
  · exact serveClosing_tells h
  · exact carryAccount_tells h

/-! ### The Changeover Sequencer (Machine/Changeover.lean) -/

theorem changeFeeder_tells {f : Feeder} {g : FeederRec → FeederRec} (h : Tells u s) : Tells u (changeFeeder f g s) :=
  h.of_eq (by simp) (by simp)

theorem postContactor_tells {f : Feeder} {c : ContactorCause} (h : Tells u s) : Tells u (postContactor f c s) :=
  postEvent_tells h

theorem contactorTimeout_tells {f : Feeder} {c : ContactorCause} (h : Tells u s) :
    Tells u (contactorTimeout f c s) := reportFault_tells (postContactor_tells (changeFeeder_tells h))

theorem makeClaim_tells {f : Feeder} {k : ClaimKind} {c kw : Nat} {o : ClaimOrigin} (h : Tells u s) :
    Tells u (makeClaim f k c o kw s) := offer_tells h

theorem endClaim_tells {w : ReleaseReason} (h : Tells u s) : Tells u (endClaim w s) := by
  unfold endClaim
  split
  · exact h
  · exact offer_tells h

theorem failClaim_tells {w : ReleaseReason} {r : FailReason} (h : Tells u s) : Tells u (failClaim w r s) := by
  unfold failClaim
  split
  · exact h
  · exact postEvent_tells (endClaim_tells h)

theorem buildConfirm_tells {c : ClaimRec} (h : Tells u s) : Tells u (buildConfirm c s) := .ite h (offer_tells h)

theorem shedCapacity_tells {c : ClaimRec} (h : Tells u s) : Tells u (shedCapacity c s) :=
  .ite (capacityRequest_tells (.ite h (postEvent_tells h))) h

theorem collect_tells {c : ClaimRec} (h : Tells u s) : Tells u (collect c s) :=
  shedCapacity_tells (buildConfirm_tells h)

theorem setBoard_tells {b : BoardState} (h : Tells u s) : Tells u (setBoard b s) := extraCause_tells h

theorem enterDark_tells (h : Tells u s) : Tells u (enterDark s) := setBoard_tells h

theorem enterIsolated_tells {c : IsolateCause} (h : Tells u s) : Tells u (enterIsolated c s) :=
  extraCause_tells (postEvent_tells h)

theorem welded_tells {f : Feeder} (h : Tells u s) : Tells u (welded f s) := by
  refine enterIsolated_tells ?_
  have marked : Tells u (contactorTimeout f .openTimeout s) := contactorTimeout_tells h
  split
  · exact .ite (failClaim_tells marked) (endClaim_tells marked)
  · exact marked

theorem enterDead_tells (h : Tells u s) : Tells u (enterDead s) := setBoard_tells h

theorem pulseOpen_tells {f : Feeder} (h : Tells u s) : Tells u (pulseOpen f s) := 
  h.of_eq (by simp) (by simp)

theorem pulseClose_tells {f : Feeder} (h : Tells u s) : Tells u (pulseClose f s) := 
  h.of_eq (by simp) (by simp)

theorem leaveForced_tells {f : Feeder} (h : Tells u s) : Tells u (leaveForced f s) :=
  .ite (.ite (welded_tells (setBoard_tells h)) (setBoard_tells h)) (enterDead_tells h)

theorem forcedMade_tells (h : Tells u s) : Tells u (forcedMade s) := by
  unfold forcedMade
  split
  · exact .ite (leaveForced_tells (collect_tells h)) h
  · exact h

theorem forcedChangeover_tells {f : Feeder} (h : Tells u s) : Tells u (forcedChangeover f s) := by
  have opened : Tells u (pulseOpen f s) := pulseOpen_tells h
  exact .ite (forcedMade_tells (setBoard_tells (makeClaim_tells opened))) (enterDark_tells opened)

theorem startTopup_tells (h : Tells u s) : Tells u (startTopup s) := .ite h h

theorem enterSettled_tells {f : Feeder} {b : Bool} (h : Tells u s) : Tells u (enterSettled f b s) :=
  .ite (forcedChangeover_tells (startTopup_tells (setBoard_tells h))) (startTopup_tells (setBoard_tells h))

theorem closure_tells {c : ClaimRec} (h : Tells u s) : Tells u (closure c s) :=
  enterSettled_tells (postEvent_tells (endClaim_tells h))

theorem blockClose_tells (h : Tells u s) : Tells u (blockClose s) := enterIsolated_tells (endClaim_tells h)

theorem enterClosing_tells {c : ClaimRec} (h : Tells u s) : Tells u (enterClosing c s) := by
  have closing : Tells u (setBoard .closing (s.withChs { s.chs with deadTimer := none })) := setBoard_tells h
  exact .ite (blockClose_tells closing) (.ite (closure_tells (pulseClose_tells closing)) (pulseClose_tells closing))

theorem fallbackDone_tells {c : ClaimRec} (h : Tells u s) : Tells u (fallbackDone c s) :=
  enterSettled_tells (failClaim_tells h)

theorem fallbackFailed_tells (h : Tells u s) : Tells u (fallbackFailed s) := enterIsolated_tells (failClaim_tells h)

theorem enterFallback_tells {r : FailReason} {c : ClaimRec} (h : Tells u s) : Tells u (enterFallback r c s) := by
  have entered : Tells u (setBoard .fallback (s.withChs { s.chs with
    fallbackReason := r, deadTimer := none, closeLimit := none })) := setBoard_tells h
  exact .ite (.ite (blockClose_tells entered)
    (.ite (fallbackDone_tells (pulseClose_tells entered)) (pulseClose_tells entered))) (fallbackFailed_tells entered)

theorem enterOpening_tells {c : ClaimRec} (h : Tells u s) : Tells u (enterOpening c s) := by
  have opening : Tells u (setBoard .opening (pulseOpen (otherFeeder c.target) s)) := setBoard_tells (pulseOpen_tells h)
  exact .ite opening (enterDead_tells opening)

theorem leaveReturn_tells {c : ClaimRec} (h : Tells u s) : Tells u (leaveReturn c s) :=
  .ite (enterClosing_tells h) (enterDark_tells (failClaim_tells h))

theorem leaveTopup_tells {c : ClaimRec} (h : Tells u s) : Tells u (leaveTopup c s) := by
  refine enterSettled_tells (endClaim_tells ?_)
  split
  · exact capacityRequest_tells h
  · exact h

theorem confirmClaim_tells {c : ClaimRec} (h : Tells u s) : Tells u (confirmClaim c s) := by
  unfold confirmClaim
  split
  · exact enterOpening_tells (collect_tells h)
  · exact leaveForced_tells (collect_tells h)
  · exact leaveReturn_tells (collect_tells h)
  · exact leaveTopup_tells (collect_tells h)

theorem takePledge_tells {a b c d : Nat} (h : Tells u s) : Tells u (takePledge a b c d s) := by
  unfold takePledge
  split
  · exact h
  · refine .ite h ?_
    split
    · exact h
    · exact .ite (confirmClaim_tells h) h

theorem takeRevoke_tells {a b c d e : Nat} (h : Tells u s) : Tells u (takeRevoke a b c d e s) := by
  unfold takeRevoke
  split
  · exact h
  · exact .ite (postEvent_tells h) h

theorem muteBoard_tells (h : Tells u s) : Tells u (muteBoard s) := by
  unfold muteBoard
  split
  · exact .ite (enterSettled_tells (failClaim_tells h)) h
  · exact h

theorem feedbackConflict_tells (h : Tells u s) : Tells u (feedbackConflict s) :=
  .ite (reportFault_tells h) (enterIsolated_tells (endClaim_tells (reportFault_tells h)))

theorem uncommandedOpen_tells {f : Feeder} (h : Tells u s) : Tells u (uncommandedOpen f s) := by
  refine enterDark_tells ?_
  have posted : Tells u (postContactor f .uncommandedOpen s) := postContactor_tells h
  split
  · exact .ite (failClaim_tells posted) (endClaim_tells posted)
  · exact posted

theorem closedByHand_tells {f : Feeder} (h : Tells u s) : Tells u (closedByHand f s) :=
  enterSettled_tells (endClaim_tells h)

theorem positionChange_tells {f : Feeder} {b : Bool} (h : Tells u s) : Tells u (positionChange f b s) := by
  unfold positionChange
  refine .ite h (.ite (feedbackConflict_tells h) ?_)
  split
  · exact .ite (enterDead_tells h) h
  · exact .ite (closure_tells h) h
  · exact .ite (fallbackDone_tells h) h
  · exact .ite (uncommandedOpen_tells h) h
  · exact .ite (closedByHand_tells h) h
  · exact .ite (uncommandedOpen_tells h) h
  · exact .ite (uncommandedOpen_tells h) h
  · exact closedByHand_tells h
  · exact h

theorem boardSample_tells (h : Tells u s) : Tells u (boardSample s) := h.of_eq (by simp) (by simp)

theorem deriveBoard_tells {c : ConfigRecord} (h : Tells u s) : Tells u (deriveBoard c s) := by
  unfold deriveBoard
  dsimp only
  split
  · exact .ite (startTopup_tells h) (changeFeeder_tells (startTopup_tells h))
  · exact .ite (startTopup_tells h) (changeFeeder_tells (startTopup_tells h))
  · exact h
  · exact enterIsolated_tells (reportFault_tells h)

theorem convertClaim_tells {c : ClaimRec} {f : Feeder} (h : Tells u s) : Tells u (convertClaim c f s) :=
  pulseOpen_tells h

theorem sourceLost_tells {f : Feeder} (h : Tells u s) : Tells u (sourceLost f s) := by
  unfold sourceLost
  split
  · exact .ite (forcedChangeover_tells h) h
  · exact .ite (forcedChangeover_tells (endClaim_tells h)) h
  · exact .ite (.ite (enterSettled_tells (failClaim_tells h)) (enterDark_tells (failClaim_tells h)))
      (.ite (convertClaim_tells h) h)
  · exact h

theorem openLimitPassed_tells {f : Feeder} (h : Tells u s) : Tells u (openLimitPassed f s) := by
  unfold openLimitPassed
  split
  · exact .ite (enterSettled_tells (failClaim_tells (contactorTimeout_tells h))) (welded_tells h)
  · exact .ite h (welded_tells h)
  · exact welded_tells h
  · exact h

theorem closeFailed_tells {c : ClaimRec} (h : Tells u s) : Tells u (closeFailed c s) := by
  unfold closeFailed
  split
  · exact enterFallback_tells (contactorTimeout_tells h)
  · exact enterDark_tells (failClaim_tells (contactorTimeout_tells h))

theorem topUp_tells (h : Tells u s) : Tells u (topUp s) := by
  unfold topUp
  split
  · exact .ite (setBoard_tells (makeClaim_tells h)) h
  · exact h

theorem beginReturn_tells {f : Feeder} (h : Tells u s) : Tells u (beginReturn f s) := by
  have claiming (x kw) : Tells u (setBoard .claiming (makeClaim f .forced 0 .fromDark kw (s.withChs x))) :=
    setBoard_tells (makeClaim_tells h)
  unfold beginReturn
  dsimp only
  split
  · exact .ite (confirmClaim_tells (claiming ..)) (claiming ..)
  · exact claiming ..

theorem restore_tells {f : Feeder} (h : Tells u s) : Tells u (restore f s) := by
  have dark : Tells u (enterDark (changeFeeder f (fun r => { r with faulty := false }) s)) :=
    enterDark_tells (changeFeeder_tells h)
  exact .ite (enterSettled_tells dark) (.ite (enterSettled_tells dark) dark)

/-! ### The Field Port (Machine/FieldPort.lean) -/

theorem goodAnswer_tells {b : List Byte} (h : Tells u s) : Tells u (goodAnswer b s) := .ite (postEvent_tells h) h

theorem miss_tells {k : FaultKind} {b : List Byte} (h : Tells u s) : Tells u (miss k b s) := by
  have noted (x) : Tells u (if s.fpc.lost = true then s.withFpc x
      else reportFault k (byte (s.withFpc x).eventId :: b.take 7) (s.withFpc x)) := .ite h (reportFault_tells h)
  unfold miss
  exact Tells.ite (postEvent_tells (noted _)) (noted _)

theorem deliverSample_tells (h : Tells u s) : Tells u (deliverSample s) :=
  chargeSample_tells (boardSample_tells (groupCheck_tells (pledgeSample_tells (fuelSample_tells h))))

theorem endPoll_tells (h : Tells u s) : Tells u (endPoll s) := deliverSample_tells h

theorem takeAnswer_tells {b : List Byte} (h : Tells u s) : Tells u (takeAnswer b s) :=
  endPoll_tells (.ite (goodAnswer_tells h) (miss_tells h))

theorem readyRises_tells {b : List Byte} {ended : Bool} (h : Tells u s) : Tells u (readyRises b ended s) := by
  unfold readyRises
  split
  · exact h
  · dsimp only
    split
    · exact h
    · exact .ite (takeAnswer_tells h) h

theorem clockedIn_tells {b : List Byte} (h : Tells u s) : Tells u (clockedIn b s) := by
  unfold clockedIn
  split
  · exact h
  · split
    · exact h
    · exact takeAnswer_tells h

theorem closeWindow_tells (h : Tells u s) : Tells u (closeWindow s) := by
  unfold closeWindow
  split
  · exact h
  · refine .ite h (endPoll_tells ?_)
    split
    · exact miss_tells h
    · exact miss_tells h

theorem levelEvent_tells {l : FieldLine} {b : Bool} (h : Tells u s) : Tells u (levelEvent l b s) := by
  unfold levelEvent
  split
  · exact positionChange_tells h
  · exact positionChange_tells h
  · exact .ite (runningChange_tells h) h
  · exact .ite (breakerChange_tells h) h
  · exact .ite (setFaultChange_tells h) h

theorem filteredChange_tells {l : FieldLine} (h : Tells u s) : Tells u (filteredChange l s) :=
  .ite (levelEvent_tells h) h

theorem countPulse_tells (h : Tells u s) : Tells u (countPulse s) := .ite (fuelPulse_tells h) h

/-! ### Reception (Machine/Reception.lean) -/

theorem peerGone_tells {n : Nat} (h : Tells u s) : Tells u (peerGone n s) :=
  .ite (pledgePeerGone_tells h) (.ite h h)

theorem losePeer_tells {n : Nat} (h : Tells u s) : Tells u (losePeer n s) := peerGone_tells (postEvent_tells h)

theorem peerLost_tells {n : Nat} (h : Tells u s) : Tells u (peerLost n s) := by
  unfold peerLost
  split
  · exact .ite (losePeer_tells h) h
  · exact h

theorem newPeer_tells {n : Nat} {b : StatusBody} (h : Tells u s) : Tells u (newPeer n b s) := by
  unfold newPeer
  refine .ite (postEvent_tells h) ?_
  split
  · exact postEvent_tells h
  · exact .ite h (postEvent_tells h)

theorem takeStatus_tells {n : Nat} {b : StatusBody} (h : Tells u s) : Tells u (takeStatus n b s) := by
  unfold takeStatus
  split
  · exact newPeer_tells h
  · exact .ite (.ite (postEvent_tells h) h) (peerGone_tells (postEvent_tells h))

theorem listClaim_tells {c : ClaimId} {g n m : Nat} {k : ClaimKind} (h : Tells u s) :
    Tells u (listClaim c g k n m s) := .ite h (.ite (postEvent_tells h) (settlePledges_tells h))

theorem takeClaim_tells {c : ClaimId} {g n m : Nat} {k : ClaimKind} (h : Tells u s) :
    Tells u (takeClaim c g k n m s) := .ite (listClaim_tells (groupCheck_tells h)) h

theorem deliverOther_tells {n : Nat} {b : Bulletin} {c : List Byte} (h : Tells u s) :
    Tells u (deliverOther n b c s) := by
  unfold deliverOther
  split
  · exact h
  · exact takeIntent_tells h
  · exact .ite (takeClaim_tells h) h
  · exact .ite (takeConfirm_tells h) h
  · exact .ite (takeRelease_tells h) h
  · exact takePledge_tells h
  · exact takeRevoke_tells h

theorem recomputePeer_tells {n : Nat} (h : Tells u s) : Tells u (recomputePeer n s) := by
  unfold recomputePeer
  split
  · exact h
  · exact .ite h (.ite h (.ite h (losePeer_tells h)))

/-! ### COMMIT, site time and the host port (Machine/HostPort.lean) -/

theorem setSiteTime_tells {n : Nat} {old : Int} (h : Tells u s) : Tells u (setSiteTime n old s) := timeChange_tells h

theorem lastMoment_tells (h : Tells u s) : Tells u (lastMoment s) := h

theorem takeRecord_tells {a b c : Byte} {l : List Byte} (h : Tells u s) : Tells u (takeRecord a b c l s) := by
  unfold takeRecord
  refine .ite h (.ite (reportFault_tells h) (.ite (reportFault_tells h) ?_))
  split
  · exact h
  · exact h

theorem endTransaction_tells {l : List Byte} (h : Tells u s) : Tells u (endTransaction l s) := by
  unfold endTransaction
  refine .ite h ?_
  split
  · exact takeRecord_tells h
  · exact h

theorem setCommit_tells {c : ConfigRecord} (h : Tells u s) : Tells u (setCommit c s) := by
  unfold setCommit
  split
  · exact h
  · dsimp only
    split
    · exact enterSet_tells h
    · exact enterSet_tells h
    · exact enterWarming_tells h
    · exact enterSet_tells h

theorem boardCommit_tells {c : ConfigRecord} (h : Tells u s) : Tells u (boardCommit c s) := by
  unfold boardCommit
  split
  · exact clearAllCapacity_tells h
  · exact deriveBoard_tells h

theorem filterCommit_tells {n : Nat} (h : Tells u s) : Tells u (filterCommit n s) := h.of_eq (by simp) (by simp)

theorem billingCommit_tells {n : Nat} (h : Tells u s) : Tells u (billingCommit n s) := h.of_eq (by simp) (by simp)

theorem eventCommit_tells {c : ConfigRecord} (h : Tells u s) : Tells u (eventCommit c s) :=
  testAttn_tells { h with }

theorem peerCommit_tells {a b : Nat} (h : Tells u s) : Tells u (peerCommit a b s) :=
  (offerStatus_tells (tells_foldl (fun s n => recomputePeer_tells (n := n) (.refl s)) (.withPvt h)
    (List.range 63))).withPvt

theorem commitRecord_tells {c : ConfigRecord} (h : Tells u s) : Tells u (commitRecord c s) := by
  have loaded : Tells u (pledgeCommit c ((identityCommit c s).withSlc
      { s.slc with backoffGen := backoffLoad c.seed c.nodeId })) := by
    rw [Tells, (pledgeCommit_frame _ c).2.1]
    simpa using { h with }
  exact peerCommit_tells (eventCommit_tells (billingCommit_tells (filterCommit_tells (boardCommit_tells
    (fuelCommit_tells (setCommit_tells loaded)))))).withHpt

end Sys2Proof.Machine
end

section
/-! The bounds of the queue, the hold, the ring and the billing log: O60. -/

namespace Sys2Proof.Machine

open Sys2Proof.Claims

variable {s t u : State}

/-! ### The queue, the hold and the ring -/

/-- The site link's and the event unit's share of the bounds. -/
structure LinkFits (s : State) : Prop where
  queue : s.slc.queue.length ≤ 16
  hold : s.slc.hold.length ≤ 4
  ring : s.evf.ring.length ≤ 64

theorem LinkFits.tells (h : LinkFits u) (k : Tells u s) : LinkFits s :=
  ⟨k.queueFits h.queue, k.holdFits h.hold, k.ringFits h.ring⟩

/-- The bounds read the three lengths alone. -/
theorem LinkFits.of_le (h : LinkFits s) (queue : t.slc.queue.length ≤ s.slc.queue.length)
    (hold : t.slc.hold.length ≤ s.slc.hold.length) (ring : t.evf.ring.length ≤ s.evf.ring.length) : LinkFits t :=
  ⟨queue.trans h.queue, hold.trans h.hold, ring.trans h.ring⟩

theorem startFrame_linkFits (h : LinkFits s) : LinkFits (startFrame s) := by
  unfold startFrame
  split
  · exact h
  · exact h.of_le (spliceFirst_length_le _ (by simp) _) le_rfl le_rfl

theorem frameSent_linkFits (h : LinkFits s) : LinkFits (frameSent s) := by
  have shorter {f : TxEntry → List TxEntry} (hf : ∀ x, (f x).length ≤ 1) :=
    spliceFirst_length_le (·.sending) hf s.slc.queue
  simp only [frameSent]
  repeat' split
  · exact h
  · exact h
  · exact { h with }
  · exact h.of_le (shorter (by simp)) le_rfl le_rfl
  · exact h.of_le (shorter (by simp)) le_rfl le_rfl

theorem collide_linkFits (h : LinkFits s) : LinkFits (collide s) := by
  have shorter {f : TxEntry → List TxEntry} (hf : ∀ x, (f x).length ≤ 1) :=
    spliceFirst_length_le (·.sending) hf s.slc.queue
  simp only [collide]
  split
  · exact h
  · split
    · exact { h with }
    · split
      · exact { h with }
      · split
        · exact h.of_le (shorter (by simp)) le_rfl le_rfl
        · refine LinkFits.tells ?_ (reportFault_tells (postDrop_tells (.refl _)))
          exact h.of_le (shorter fun _ => by split <;> simp) le_rfl le_rfl

theorem takeRetry_length {now : Nat} {hold rest : List HeldBulletin} {b : HeldBulletin}
    (h : takeRetry now hold = some (b, rest)) : rest.length + 1 = hold.length := by
  induction hold generalizing rest with
  | nil => cases h
  | cons x xs ih =>
    unfold takeRetry at h
    split at h
    · cases h
      rfl
    · cases found : takeRetry now xs with
      | none => simp [found] at h
      | some r =>
        simp only [found, Option.map_some, Option.some.injEq, Prod.mk.injEq] at h
        obtain ⟨rfl, rfl⟩ := h
        simp [ih found]

theorem retryHeld_linkFits (h : LinkFits s) : LinkFits (retryHeld s) := by
  unfold retryHeld
  split
  · exact h
  · rename_i b rest found
    have shorter := takeRetry_length found
    have holdFits := h.hold
    split
    · rename_i room
      exact ⟨by simpa using room, by simp only [State.withSlc_slc]; omega, h.ring⟩
    · have out : LinkFits (s.withSlc { s.slc with hold := rest }) := h.of_le le_rfl (by simp; omega) le_rfl
      exact out.tells (dropFull_tells (.refl _))

theorem becomeBusy_linkFits (h : LinkFits s) : LinkFits (becomeBusy s) := by
  unfold becomeBusy
  split
  · exact { h with }
  · exact h

theorem becomeStuck_linkFits (h : LinkFits s) : LinkFits (becomeStuck s) := by
  unfold becomeStuck
  split
  · have stuck : LinkFits (s.withSlc { s.slc with link := .stuck }) := { h with }
    exact stuck.tells (reportFault_tells (.refl _))
  · exact h

theorem abandonFrame_tells {a b : List Byte} (h : Tells u s) : Tells u (abandonFrame a b s) := reportFault_tells h

theorem takeHeader_linkFits {a b c d : Byte} (h : LinkFits s) : LinkFits (takeHeader a b c d s) := by
  have waiting : LinkFits (s.withSlc { s.slc with rx := .waiting }) := { h with }
  unfold takeHeader
  split
  · split
    · exact waiting
    · split
      · exact waiting.tells (abandonFrame_tells (.refl _))
      · exact { h with }
  · exact h

theorem idleTimeout_linkFits {taken : List Byte} (h : LinkFits s) : LinkFits (idleTimeout taken s) := by
  have idle : LinkFits (s.withSlc { s.slc.becomeIdle s.now with rx := .waiting }) := { h with }
  simp only [idleTimeout]
  split
  · exact h
  · split
    · exact idle
    · split
      · split
        · exact idle.tells (abandonFrame_tells (.refl _))
        · exact idle
      · exact idle
    · exact idle.tells (abandonFrame_tells (.refl _))

/-- MUTE and soft reset leave an empty queue and an empty hold (R18, R19). -/
theorem linkFits_of_emptied (h : LinkFits s) (queue : t.slc.queue = []) (hold : t.slc.hold = [])
    (ring : t.evf.ring = s.evf.ring) : LinkFits t :=
  h.of_le (by simp [queue]) (by simp [hold]) (by simp [ring])

theorem enterMute_linkFits (h : LinkFits s) : LinkFits (enterMute s) := by
  have muted : LinkFits (refreshHeadroom (((s.withHpt { s.hpt with nodeState := .mute }).withSlc
      s.slc.emptied).withPvt { s.pvt with extraDue := false })) :=
    linkFits_of_emptied h rfl rfl rfl
  simp only [enterMute]
  split
  · exact muted.tells (muteBoard_tells (.refl _))
  · exact muted

theorem duplicateId_linkFits {capture : List Byte} (h : LinkFits s) : LinkFits (duplicateId capture s) := by
  unfold duplicateId
  split
  · exact enterMute_linkFits (h.tells (postEvent_tells (reportFault_tells (.refl _))))
  · exact h

theorem refreshPeer_tells {n : Nat} (h : Tells u s) : Tells u (refreshPeer n s) := h.of_eq (by simp) (by simp)

theorem deliver_linkFits {n : Nat} {b : Bulletin} {c : List Byte} (h : LinkFits s) : LinkFits (deliver n b c s) := by
  unfold deliver
  split
  · split
    · exact duplicateId_linkFits h
    · exact h.tells (takeStatus_tells (.refl _))
  · exact h.tells (deliverOther_tells (refreshPeer_tells (.refl _)))

theorem frameEnded_linkFits {idle : Bool} (h : LinkFits s) : LinkFits (frameEnded idle s) := by
  unfold frameEnded
  dsimp only
  split
  · exact { h with }
  · exact { h with }

theorem frameReceived_linkFits {rest : List Byte} {idle : Bool} (h : LinkFits s) :
    LinkFits (frameReceived rest idle s) := by
  have ended : LinkFits (frameEnded idle s) := frameEnded_linkFits h
  simp only [frameReceived]
  repeat' split
  · exact ended
  · exact ended.tells (reportFault_tells (.refl _))
  · exact deliver_linkFits ended
  · exact h
  · exact h

theorem softReset_linkFits (h : LinkFits s) : LinkFits (softReset s) := by
  refine LinkFits.tells (u := State.withChs _ _) ?_ (testAttn_tells (postEvent_tells (.refl _)))
  exact linkFits_of_emptied h rfl rfl rfl

theorem ackEvents_linkFits {n : Nat} (h : LinkFits s) : LinkFits (ackEvents n s) := by
  unfold ackEvents
  split
  · exact h
  · refine LinkFits.tells (u := s.withEvf { s.evf with ring := s.evf.ring.drop n, consumer := _, attn := _ }) ?_
      (testAttn_tells (.refl _))
    exact h.of_le le_rfl le_rfl (by simp)

theorem gated_linkFits {role : Option Role} {states : List NodeState} {tag : Byte} {act : State → State}
    (h : LinkFits s) (hact : LinkFits (act s)) : LinkFits (gated role states tag act s) := by
  unfold gated
  split
  · exact hact
  · exact { h with }

theorem fuelCommand_linkFits {tag : Byte} {act : FuelConfig → State → State} (h : LinkFits s)
    (hact : ∀ c, LinkFits (act c s)) : LinkFits (fuelCommand tag act s) := by
  refine gated_linkFits h ?_
  split
  case h_1 => exact { h with }
  case h_2 c _ => exact hact c

theorem respond_linkFits {tag : Byte} {st : Status} {body : List Byte} (h : LinkFits s) :
    LinkFits (respond tag st body s) := { h with }

/-- Every command keeps the bounds of the site link and the ring. -/
theorem exec_linkFits (c : Instr) (h : LinkFits s) : ∃ t, exec c s = .next t ∧ LinkFits t := by
  by_cases touches : Part.slc ∈ mayTouch c ∨ Part.evf ∈ mayTouch c
  case neg =>
    obtain ⟨t, ht, keeps⟩ := exec_frame c s
    simp only [not_or] at touches
    exact ⟨t, ht, h.of_le (by rw [keeps.slc touches.1]) (by rw [keeps.slc touches.1]) (by rw [keeps.evf touches.2])⟩
  case pos =>
    have same := Tells.refl s
    cases c with
    | powerOnReset => exact ⟨_, rfl, by simp [State.reset, Slc.reset], by simp [State.reset, Slc.reset], by simp [State.reset, Evf.reset]⟩
    | busBusy => exact ⟨_, rfl, becomeBusy_linkFits h⟩
    | busIdleTimeout taken => exact ⟨_, rfl, idleTimeout_linkFits h⟩
    | frameHeaderReceived sync src kind len => exact ⟨_, rfl, takeHeader_linkFits h⟩
    | frameReceived rest lineIdle => exact ⟨_, rfl, frameReceived_linkFits h⟩
    | frameStart => exact ⟨_, rfl, startFrame_linkFits h⟩
    | collision => exact ⟨_, rfl, collide_linkFits h⟩
    | backoffEnd => exact ⟨_, rfl, h.of_le (by simp [endBackoffs]) le_rfl le_rfl⟩
    | frameSent => exact ⟨_, rfl, frameSent_linkFits h⟩
    | retryHoldRetry => exact ⟨_, rfl, retryHeld_linkFits h⟩
    | linkStuck => exact ⟨_, rfl, becomeStuck_linkFits h⟩
    | statusTimer => exact ⟨_, rfl, h.tells (statusTimer_tells same)⟩
    | extraStatusDue => exact ⟨_, rfl, h.tells (extraStatusDue_tells same)⟩
    | peerLost node => exact ⟨_, rfl, h.tells (peerLost_tells same)⟩
    | filteredLevelChange line => exact ⟨_, rfl, h.tells (filteredChange_tells same)⟩
    | intentWindowEnd =>
      exact ⟨_, rfl, h.tells (.ite (enterCranking_tells same) (.ite (enterUnloading_tells same) same))⟩
    | crankLimit => exact ⟨_, rfl, h.tells (.ite (crankFailed_tells same) same)⟩
    | restTimeEnd => exact ⟨_, rfl, h.tells (.ite (enterCranking_tells same) same)⟩
    | warmUpEnd => exact ⟨_, rfl, h.tells (.ite (enterSyncing_tells same) same)⟩
    | syncLimit | unloadLimit | coolDownEnd => exact ⟨_, rfl, h.tells (.ite (enterSet_tells same) same)⟩
    | frontEndAnswer bytes ended => exact ⟨_, rfl, h.tells (readyRises_tells same)⟩
    | answerWindowClose => exact ⟨_, rfl, h.tells (closeWindow_tells same)⟩
    | answerClockedIn bytes => exact ⟨_, rfl, h.tells (clockedIn_tells same)⟩
    | flowPulse lowUs highUs => exact ⟨_, rfl, h.tells (.ite (countPulse_tells same) same)⟩
    | levelCheck => exact ⟨_, rfl, h.tells (levelCheck_tells same)⟩
    | pledgeDeadline board serial => exact ⟨_, rfl, h.tells (pledgeDeadline_tells same)⟩
    | sourceLossConfirmed feeder =>
      exact ⟨_, rfl, h.tells (.ite (sourceLost_tells (changeFeeder_tells same)) same)⟩
    | topupTimer => exact ⟨_, rfl, h.tells (.ite (topUp_tells same) same)⟩
    | returnConfirmed feeder => exact ⟨_, rfl, h.tells (.ite (beginReturn_tells same) same)⟩
    | resolveRequestTimer slot => exact ⟨_, rfl, h.tells (resolveTimerEnd_tells same)⟩
    | intervalBoundary => exact ⟨_, rfl, h.tells (intervalBoundary_tells same)⟩
    | hostTransaction bytes => exact ⟨_, rfl, h.tells (endTransaction_tells same)⟩
    | siteTimeWrap => exact ⟨_, rfl, h.tells (.ite (setSiteTime_tells (lastMoment_tells same)) same)⟩
    | attnDelay => exact ⟨_, rfl, h.tells (testAttn_tells same)⟩
    | deliveryAutoClose =>
      refine ⟨_, rfl, h.tells ?_⟩
      split
      · exact .ite (closeDelivery_tells same) same
      · exact same
    | claimDeadline =>
      refine ⟨_, rfl, h.tells ?_⟩
      split
      · exact same
      · split
        · exact enterSettled_tells (failClaim_tells same)
        · exact enterSettled_tells (endClaim_tells same)
        · exact confirmClaim_tells same
        · exact confirmClaim_tells same
    | openLimit =>
      refine ⟨_, rfl, h.tells ?_⟩
      split
      · exact same
      · exact .ite (openLimitPassed_tells same) same
    | deadTimeEnd =>
      refine ⟨_, rfl, h.tells (.ite ?_ same)⟩
      dsimp only
      split
      · exact .ite (enterFallback_tells same) (.ite (enterFallback_tells same) (enterClosing_tells same))
      · exact same
    | closeLimit =>
      refine ⟨_, rfl, h.tells (.ite ?_ same)⟩
      dsimp only
      split
      · exact closeFailed_tells same
      · exact fallbackFailed_tells (contactorTimeout_tells same)
      · exact same
    | setMode tag mode =>
      refine ⟨_, rfl, gated_linkFits h (h.tells ?_)⟩
      split
      · exact changeMode_tells same
      · exact changeMode_tells same
      · exact same
    | setRun tag run =>
      exact ⟨_, rfl, gated_linkFits h (h.tells (.ite same (.ite same (.ite (runOn_tells same) (runOff_tells same)))))⟩
    | clearSet tag => exact ⟨_, rfl, gated_linkFits h (h.tells (.ite (enterSet_tells same) same))⟩
    | changeover tag cls =>
      refine ⟨_, rfl, gated_linkFits h (h.tells (.ite same ?_))⟩
      split
      · exact same
      · exact setBoard_tells (makeClaim_tells same)
    | cancelChangeover tag =>
      refine ⟨_, rfl, gated_linkFits h (h.tells ?_)⟩
      split
      · exact .ite (enterSettled_tells (failClaim_tells same)) same
      · exact same
    | restore tag feeder =>
      refine ⟨_, rfl, gated_linkFits h (h.tells ?_)⟩
      split
      · exact same
      · exact .ite (restore_tells same) same
    | setChannel tag channel enabled account tariff level =>
      refine ⟨_, rfl, gated_linkFits h (h.tells ?_)⟩
      split
      · exact same
      · refine .ite (remapChannel_tells same) ?_
        split
        · exact same
        · exact remapChannel_tells same
    | shedHost tag channel op =>
      exact ⟨_, rfl, gated_linkFits h (h.tells (.ite same (.ite same (applyRelay_tells (changeChannel_tells same)))))⟩
    | resolveTariff tag key base pass =>
      exact ⟨_, rfl, gated_linkFits h (h.tells (.ite same (resolveKey_tells same)))⟩
    | setLimit tag id limit =>
      refine ⟨_, rfl, gated_linkFits h (h.tells ?_)⟩
      split
      · exact same
      · exact .ite same (changeLimit_tells same)
    | accountClose tag id =>
      refine ⟨_, rfl, gated_linkFits h (h.tells ?_)⟩
      split
      · exact same
      · exact .ite same (.ite (closeAccount_tells same) same)
    | commit tag =>
      refine ⟨_, rfl, gated_linkFits h (h.tells ?_)⟩
      split
      · exact same
      · exact .ite same (.ite same (respond_tells (commitRecord_tells same)))
    | resetSoft tag => exact ⟨_, rfl, gated_linkFits h (respond_linkFits (softReset_linkFits h))⟩
    | setTime tag time =>
      have timed : LinkFits (setSiteTime time.toNat s.stamp s) := h.tells (setSiteTime_tells same)
      exact ⟨_, rfl, gated_linkFits h (respond_linkFits timed)⟩
    | ackEvents tag count =>
      refine ⟨_, rfl, gated_linkFits h ?_⟩
      split
      · exact { h with }
      · exact { ackEvents_linkFits (n := count.toNat) h with }
    | serviceMark tag mark => exact ⟨_, rfl, gated_linkFits h { h with }⟩
    | clearFaults tag kinds => exact ⟨_, rfl, gated_linkFits h { h with }⟩
    | setFaultMask tag kinds => exact ⟨_, rfl, gated_linkFits h { h with }⟩
    | deliveryClose tag =>
      refine ⟨_, rfl, fuelCommand_linkFits h fun c => h.tells ?_⟩
      split
      · exact same
      · exact closeDelivery_tells same
    | resyncTank tag =>
      refine ⟨_, rfl, fuelCommand_linkFits h fun c => h.tells (.ite same ?_)⟩
      split
      · exact same
      · exact .ite same (resync_tells same)
    | peerStale | peerRemoved | readPeers | poll | deliveryOpen | deliveryCancel | strayBurstEnd
    | readTank | readLots | claimExpiry | selectProfile | readPledges | clearFeeder | pulseEnd | defineTariff
    | accountOpen | readAccount | readBilling | ackBilling | noop | configure | readNode | readEvents | readFaults
    | transactionBegins | rawLevelChange =>
      simp [mayTouch] at touches

/-! ### The billing log -/

@[simp] theorem ite_log (c : Prop) [Decidable c] (a b : Bil) :
    (if c then a else b).log = if c then a.log else b.log := apply_ite Bil.log c a b

theorem becomeOver_log (i : Nat) (s : State) : (becomeOver i s).bil.log = s.bil.log := by
  simp [becomeOver, changeAccount]

theorem foldl_log {α : Type} {f : State → α → State} (hf : ∀ s a, (f s a).bil.log = s.bil.log) (xs : List α)
    (s : State) : (xs.foldl f s).bil.log = s.bil.log := by
  induction xs generalizing s with
  | nil => rfl
  | cons x xs ih => rw [List.foldl_cons, ih, hf]

@[simp] theorem creditTests_log (l : List Nat) (s : State) : (creditTests l s).bil.log = s.bil.log := by
  simp only [creditTests, applyRelays_frame]
  exact foldl_log (fun s i => becomeOver_log i s) _ _

theorem chargeChannel_log (r : Rate) (i : Nat) (s : State) : (chargeChannel r i s).bil.log = s.bil.log := by
  simp only [chargeChannel, priceEnergy]
  repeat' split
  all_goals simp [changeAccount]

@[simp] theorem chargeSample_log (s : State) : (chargeSample s).bil.log = s.bil.log := by
  simp only [chargeSample, creditTests_log]
  rw [foldl_log (fun s i => chargeChannel_log _ i s)]
  simp

@[simp] theorem deliverSample_log (s : State) : (deliverSample s).bil.log = s.bil.log := by
  simp [deliverSample]

@[simp] theorem takeAnswer_log (b : List Byte) (s : State) : (takeAnswer b s).bil.log = s.bil.log := by
  simp [takeAnswer, endPoll]

@[simp] theorem readyRises_log (b : List Byte) (ended : Bool) (s : State) :
    (readyRises b ended s).bil.log = s.bil.log := by
  unfold readyRises
  repeat' split
  all_goals simp

@[simp] theorem clockedIn_log (b : List Byte) (s : State) : (clockedIn b s).bil.log = s.bil.log := by
  unfold clockedIn
  repeat' split
  all_goals simp

@[simp] theorem closeWindow_log (s : State) : (closeWindow s).bil.log = s.bil.log := by
  unfold closeWindow endPoll
  repeat' split
  all_goals simp

@[simp] theorem billingCommit_log (n : Nat) (s : State) : (billingCommit n s).bil.log = s.bil.log := by
  unfold billingCommit
  split <;> rfl

@[simp] theorem commitRecord_log (c : ConfigRecord) (s : State) : (commitRecord c s).bil.log = s.bil.log := by
  simp [commitRecord]

@[simp] theorem resolveKey_log (k a b : Nat) (s : State) : (resolveKey k a b s).bil.log = s.bil.log := by
  simp only [resolveKey, creditTests_log]
  exact foldl_log (fun s p => by simp [pricePending, changeAccount]) _ _

@[simp] theorem changeLimit_log (i n : Nat) (s : State) : (changeLimit i n s).bil.log = s.bil.log := by
  simp only [changeLimit, returnOpen]
  repeat' split
  all_goals simp [changeAccount]

/-- The log's share of the bounds (R176). -/
def LogFits (s : State) : Prop := s.bil.log.length ≤ 128

theorem produce_logFits {i n : Nat} {b : Bool} (room : s.bil.hasRoom = true) : LogFits (produce i b n s) := by
  simp only [Bil.hasRoom, decide_eq_true_eq] at room
  simp [LogFits, produce, changeAccount]
  omega

theorem serveClosing_logFits {i n : Nat} {b : Bool} (k : Nat) (h : LogFits s) : LogFits (serveClosing i b n k s) := by
  induction k generalizing s with
  | zero => exact h
  | succ k ih =>
    unfold serveClosing
    split
    · rename_i serves
      exact ih (produce_logFits serves.2)
    · exact h

theorem carryAccount_logFits {i : Nat} (h : LogFits s) : LogFits (carryAccount i s) := by
  unfold carryAccount reportLogFull
  split
  · exact h
  · simpa [LogFits, changeAccount] using h

theorem closeSlot_logFits {b : Bool} {n i : Nat} (h : LogFits s) : LogFits (closeSlot b n i s) := by
  unfold closeSlot
  dsimp only
  split
  · exact h
  · split
    · split
      · rename_i room
        split
        · exact serveClosing_logFits 128 h
        · exact produce_logFits room
      · exact carryAccount_logFits h
    · exact serveClosing_logFits 128 h

theorem foldl_logFits {α : Type} {f : State → α → State} (hf : ∀ s a, LogFits s → LogFits (f s a)) (xs : List α)
    (h : LogFits s) : LogFits (xs.foldl f s) := by
  induction xs generalizing s with
  | nil => exact h
  | cons x xs ih => exact ih (hf s x h)

theorem closeInterval_logFits {b : Bool} {n : Nat} (h : LogFits s) : LogFits (closeInterval b n s) := by
  have closed := foldl_logFits (fun s i => closeSlot_logFits (b := b) (n := n) (i := i)) (List.range 64) h
  simpa [LogFits, closeInterval] using closed

theorem timeChange_logFits {n : Nat} (h : LogFits s) : LogFits (timeChange n s) := by
  have closed := closeInterval_logFits (b := true) (n := s.siteSec) h
  simp only [timeChange]
  split
  · exact h
  · simpa [LogFits] using closed

theorem closeAccount_logFits {i : Nat} (h : LogFits s) : LogFits (closeAccount i s).2 := by
  unfold closeAccount
  dsimp only
  split
  · exact serveClosing_logFits 128 h
  · exact carryAccount_logFits h

theorem ackBilling_logFits {n : Nat} (h : LogFits s) : LogFits (ackBilling n s) := by
  have dropped : LogFits (s.withBil { s.bil with consumer := (s.bil.consumer + n) % 128, log := s.bil.log.drop n }) := by
    simp only [LogFits, State.withBil_bil, List.length_drop] at *
    omega
  have served := foldl_logFits (fun s i => serveClosing_logFits (i := i) (b := false) (n := s.siteSec) 128)
    (List.range 64) dropped
  simp only [ackBilling]
  split
  · simpa [LogFits] using served
  · exact served

/-- Every command keeps the bound of the log. -/
theorem exec_logFits (c : Instr) (h : LogFits s) : ∃ t, exec c s = .next t ∧ LogFits t := by
  by_cases touches : Part.bil ∈ mayTouch c
  case neg =>
    obtain ⟨t, ht, keeps⟩ := exec_frame c s
    exact ⟨t, ht, by rwa [LogFits, keeps.bil touches]⟩
  case pos =>
    have same {t : State} (log : t.bil.log = s.bil.log) : LogFits t := by rwa [LogFits, log]
    have refused {role states tag act} (hact : LogFits (act s)) : LogFits (gated role states tag act s) := by
      unfold gated
      split
      · exact hact
      · exact h
    cases c with
    | powerOnReset => exact ⟨_, rfl, by simp [LogFits, State.reset, Bil.reset]⟩
    | frontEndAnswer | answerWindowClose | answerClockedIn => exact ⟨_, rfl, same (by simp)⟩
    | intervalBoundary =>
      refine ⟨_, rfl, ?_⟩
      unfold intervalBoundary
      dsimp only
      split
      · exact h
      · have closed := closeInterval_logFits (b := false) (n := s.siteSec) h
        simpa [LogFits] using closed
    | siteTimeWrap =>
      refine ⟨_, rfl, ?_⟩
      split
      · have timed := timeChange_logFits (s := lastMoment s) (n := 0) h
        simpa [LogFits, setSiteTime] using timed
      · exact h
    | setTime tag time =>
      refine ⟨_, rfl, refused ?_⟩
      have timed := timeChange_logFits (n := time.toNat) h
      simpa [LogFits, setSiteTime] using timed
    | resolveTariff tag key base pass =>
      refine ⟨_, rfl, refused (same ?_)⟩
      dsimp only
      split <;> simp
    | setLimit tag id limit =>
      refine ⟨_, rfl, refused (same ?_)⟩
      repeat' split
      all_goals simp
    | accountOpen tag id limit =>
      refine ⟨_, rfl, refused (same ?_)⟩
      dsimp only
      repeat' split
      all_goals simp [changeAccount]
    | accountClose tag id =>
      refine ⟨_, rfl, refused ?_⟩
      repeat' split
      · exact h
      · exact h
      · exact closeAccount_logFits h
      · exact h
    | ackBilling tag count =>
      refine ⟨_, rfl, refused ?_⟩
      dsimp only
      split
      · exact h
      · have acked := ackBilling_logFits (n := count.toNat) h
        simpa [LogFits] using acked
    | commit tag =>
      refine ⟨_, rfl, refused (same ?_)⟩
      dsimp only
      repeat' split
      all_goals simp
    | _ => simp [mayTouch] at touches

/-! ### The bounds -/

theorem bounded_iff : Bounded s ↔ LinkFits s ∧ LogFits s :=
  ⟨fun h => ⟨⟨h.queue, h.hold, h.ring⟩, h.log⟩, fun h => ⟨h.1.queue, h.1.hold, h.1.ring, h.2⟩⟩

/-- A step is a tick, which moves the clocks and the waiting commands alone, or the command at the queue's front. -/
theorem step_keeps_of {P : State → Prop} (tick : P s → P (tick s))
    (command : ∀ c rest, P s → ∃ t, exec c (s.withPending rest) = .next t ∧ P t) (h : P s) (ht : step s = .next t) :
    P t := by
  unfold step at ht
  split at ht
  · cases ht
    exact tick h
  · rename_i c rest _
    obtain ⟨u, hu, keeps⟩ := command c rest h
    rw [hu] at ht
    cases ht
    exact keeps

/-- A tick leaves every block but the host port's run-tag counter. -/
theorem tick_keeps (s : State) : KeepsAllBut [.clock, .hpt, .pending, .choices] s (tick s) := by
  unfold tick
  split
  · exact keepsAllBut_of (by simp [advance])
  · exact keepsAllBut_of (by simp)
  · exact keepsAllBut_of (by simp)

/-- Settles O60. -/
theorem boundsKept : Obligations.BoundsKept := by
  intro s t h ht
  refine step_keeps_of (P := Bounded) (fun h => ?_) (fun c rest h => ?_) h ht
  · have keeps := tick_keeps s
    exact ⟨by rw [keeps.slc]; exact h.queue, by rw [keeps.slc]; exact h.hold, by rw [keeps.evf]; exact h.ring,
      by rw [keeps.bil]; exact h.log⟩
  · obtain ⟨link, log⟩ := bounded_iff.mp h
    obtain ⟨u, hu, link⟩ := exec_linkFits (s := s.withPending rest) c { link with }
    obtain ⟨v, hv, log⟩ := exec_logFits (s := s.withPending rest) c log
    rw [hu] at hv
    cases hv
    exact ⟨u, hu, bounded_iff.mpr ⟨link, log⟩⟩

end Sys2Proof.Machine
end

section
/-! The laws of the lot list and of the fuel residues (R64, R68, R70, R73): O27. -/

namespace Sys2Proof.Machine

open Sys2Proof.Claims

variable {s t : State}

/-! ### The host's commands behind their gates -/

/-- A gated command is its action or a refusal (R189). -/
theorem gated_cases {P : State → Prop} {role : Option Role} {states : List NodeState} {tag : Byte}
    {act : State → State} (refused : P (refuse tag .state s)) (taken : P (act s)) :
    P (gated role states tag act s) := by
  unfold gated
  split
  · exact taken
  · exact refused

/-- A fuel command is its action on the working copy or a refusal (R66, R189). -/
theorem fuelCommand_cases {P : State → Prop} {tag : Byte} {act : FuelConfig → State → State}
    (refused : P (refuse tag .state s)) (taken : ∀ c, s.fau.copy = some c → P (act c s)) :
    P (fuelCommand tag act s) := by
  refine gated_cases refused ?_
  split
  case h_1 => exact refused
  case h_2 c copy => exact taken c copy

/-! ### What takes volume from the lots, and what joins them -/

/-- Lots that may stand in the list (R64): each with a remaining volume of at most what it was given, and every one but
the oldest whole. -/
structure LotsOk (l : List Lot) : Prop where
  volumes : ∀ x ∈ l, 0 < x.remaining ∧ x.remaining ≤ x.delivered
  whole : ∀ x ∈ l.tail, x.remaining = x.delivered

theorem LotsOk.nil : LotsOk [] := ⟨by simp, by simp⟩

theorem LotsOk.tail {l : List Lot} (h : LotsOk l) : LotsOk l.tail :=
  ⟨fun x hx => h.volumes x (List.mem_of_mem_tail hx), fun x hx => h.whole x (List.mem_of_mem_tail hx)⟩

/-- What taking a volume leaves of the lots: none, or the first that holds more than is still asked, less that, and
those behind it (R69). -/
theorem takeVolume_lots (costed : Bool) (lots : List Lot) (b : Nat) (f : Fau) :
    (takeVolume costed lots b f).1.lots = [] ∨ ∃ l ls r, l :: ls <:+ lots ∧ r < l.remaining ∧
      (takeVolume costed lots b f).1.lots = { l with remaining := l.remaining - r } :: ls := by
  induction lots generalizing b f with
  | nil => exact .inl rfl
  | cons l ls ih =>
    unfold takeVolume
    dsimp only
    split
    · rename_i less
      exact .inr ⟨l, ls, b, List.suffix_refl _, less, rfl⟩
    · rcases ih (b - min b l.remaining) { (if costed then costPortion (min b l.remaining) l.price f else f) with
        lastPrice := l.price } with empty | ⟨x, xs, r, suffix, less, lots⟩
      · exact .inl empty
      · exact .inr ⟨x, xs, r, suffix.trans (List.suffix_cons l ls), less, lots⟩

/-- What taking a volume leaves of the unit but lots, cost and last price. -/
theorem takeVolume_residues (costed : Bool) (lots : List Lot) (b : Nat) (f : Fau) :
    (takeVolume costed lots b f).1.burnResidue = f.burnResidue ∧
    (takeVolume costed lots b f).1.factor = f.factor ∧
    (f.costResidue < 1000 → (takeVolume costed lots b f).1.costResidue < 1000) := by
  induction lots generalizing b f with
  | nil => exact ⟨rfl, rfl, id⟩
  | cons l ls ih =>
    have portion : (costPortion (min b l.remaining) l.price f).costResidue < 1000 := Nat.mod_lt _ (by decide)
    unfold takeVolume
    dsimp only
    split
    · split
      · exact ⟨rfl, rfl, fun _ => portion⟩
      · exact ⟨rfl, rfl, id⟩
    · obtain ⟨burn, factor, cost⟩ := ih (b - min b l.remaining)
        { (if costed then costPortion (min b l.remaining) l.price f else f) with lastPrice := l.price }
      refine ⟨burn.trans ?_, factor.trans ?_, fun small => cost ?_⟩
      · split <;> rfl
      · split <;> rfl
      · split
        · exact portion
        · exact small

theorem takeVolume_lotsOk {costed : Bool} {lots : List Lot} {b : Nat} {f : Fau} (h : LotsOk lots) :
    LotsOk (takeVolume costed lots b f).1.lots ∧ (takeVolume costed lots b f).1.lots.length ≤ lots.length := by
  rcases takeVolume_lots costed lots b f with empty | ⟨l, ls, r, suffix, less, left⟩
  · simp [empty, LotsOk.nil]
  · have shorter := suffix.length_le
    have member := suffix.subset
    rw [left]
    refine ⟨⟨fun x hx => ?_, fun x hx => ?_⟩, by simpa using shorter⟩
    · rcases List.mem_cons.mp hx with rfl | hx
      · have := h.volumes l (member List.mem_cons_self)
        dsimp only
        omega
      · exact h.volumes x (member (List.mem_cons_of_mem l hx))
    · obtain ⟨as, rfl⟩ := suffix
      refine h.whole x ?_
      cases as with
      | nil => exact hx
      | cons a as =>
        rw [List.cons_append, List.tail_cons]
        exact List.mem_append_right _ (List.mem_cons_of_mem l hx)

/-- A whole lot joins at the newest end. -/
theorem LotsOk.append {lots : List Lot} {x : Lot} (h : LotsOk lots) (positive : 0 < x.remaining)
    (given : x.remaining = x.delivered) : LotsOk (lots ++ [x]) := by
  refine ⟨fun y hy => ?_, fun y hy => ?_⟩
  · rcases List.mem_append.mp hy with hy | hy
    · exact h.volumes y hy
    · obtain rfl := List.mem_singleton.mp hy
      exact ⟨positive, given.le⟩
  · cases lots with
    | nil => simp at hy
    | cons a as =>
      simp only [List.cons_append, List.tail_cons, List.mem_append, List.mem_singleton] at hy
      rcases hy with hy | rfl
      · exact h.whole y hy
      · exact given

/-- The list without its newest lot. -/
theorem LotsOk.dropLast {lots : List Lot} (h : LotsOk lots) : LotsOk lots.dropLast := by
  refine ⟨fun x hx => h.volumes x (List.dropLast_subset _ hx), fun x hx => h.whole x ?_⟩
  rw [List.tail_dropLast] at hx
  exact List.dropLast_subset _ hx

/-- In a list of two or more the newest lot is whole. -/
theorem LotsOk.newest {lots : List Lot} (h : LotsOk lots) (two : 2 ≤ lots.length) {x : Lot}
    (hx : lots.getLast? = some x) : 0 < x.remaining ∧ x.remaining = x.delivered := by
  have member : x ∈ lots.tail := by
    cases lots with
    | nil => simp at two
    | cons a as =>
      cases as with
      | nil => simp at two
      | cons b bs =>
        rw [List.getLast?_cons_cons] at hx
        exact List.mem_of_getLast? hx
  exact ⟨(h.volumes x (List.mem_of_mem_tail member)).1, h.whole x member⟩

/-! ### The unit's operations -/

/-- The laws of the lot list and the residues, of the unit alone. -/
structure FauOk (f : Fau) : Prop where
  few : f.lots.length ≤ 8
  lots : LotsOk f.lots
  burn : f.burnResidue < 9000
  cost : f.costResidue < 1000
  factor : f.factor ≤ 1000

theorem fuelOk_iff : FuelOk s ↔ FauOk s.fau :=
  ⟨fun h => ⟨h.few, ⟨h.volumes, h.whole⟩, h.burn, h.cost, h.factor⟩,
    fun h => ⟨h.few, h.lots.volumes, h.lots.whole, h.burn, h.cost, h.factor⟩⟩

theorem fauOk_reset : FauOk Fau.reset := ⟨by decide, .nil, by decide, by decide, by decide⟩

theorem refuelTest_fauOk {n : Nat} (h : FauOk s.fau) : FauOk (refuelTest n s).fau := by
  unfold refuelTest
  dsimp only
  split
  · simpa using { h with }
  · split
    · simpa using { h with }
    · exact h

theorem factorOf_le (mLow mCrit m : Nat) : factorOf mLow mCrit m ≤ 1000 := by
  unfold factorOf
  split
  · exact le_rfl
  · split
    · simp
    · exact Nat.div_le_of_le_mul (by rw [Nat.mul_comm]; exact Nat.mul_le_mul_right _ (by omega))

theorem recomputeFuel_fauOk (h : FauOk s.fau) : FauOk (recomputeFuel s).fau := by
  unfold recomputeFuel
  split
  · exact h
  · exact refuelTest_fauOk { h with factor := factorOf_le .. }

theorem burnUnlotted_fauOk {v : Nat} (h : FauOk s.fau) : FauOk (burnUnlotted v s).fau := by
  have cost (f : Fau) (p) : (costPortion v p f).costResidue < 1000 := Nat.mod_lt _ (by decide)
  unfold burnUnlotted
  dsimp only
  split
  · exact h
  · split
    · exact { h with cost := cost .. }
    · simpa using { h with cost := cost .. }

theorem takeVolume_fauOk {costed : Bool} {b : Nat} {f : Fau} (h : FauOk f) :
    FauOk (takeVolume costed f.lots b f).1 := by
  obtain ⟨burn, factor, cost⟩ := takeVolume_residues costed f.lots b f
  obtain ⟨lots, shorter⟩ := takeVolume_lotsOk (costed := costed) (b := b) (f := f) h.lots
  exact ⟨shorter.trans h.few, lots, burn ▸ h.burn, cost h.cost, factor ▸ h.factor⟩

theorem burn_fauOk {n : Nat} (h : FauOk s.fau) : FauOk (burn n s).fau := by
  refine burnUnlotted_fauOk (s := s.withFau _) (takeVolume_fauOk ?_)
  exact { h with burn := Nat.mod_lt _ (by decide) }

theorem fuelSample_fauOk (h : FauOk s.fau) : FauOk (fuelSample s).fau := by
  unfold fuelSample
  split
  · exact h
  · refine recomputeFuel_fauOk ?_
    split
    · exact burn_fauOk { h with }
    · exact { h with }

/-- A whole lot of some volume joins at the newest end, or swells the newest of eight (R64, R79). -/
theorem joinLot_fauOk {l : Lot} (positive : 0 < l.remaining) (given : l.remaining = l.delivered) (h : FauOk s.fau) :
    FauOk (joinLot l s).fau := by
  unfold joinLot
  dsimp only
  split
  · rename_i room
    exact { h with few := by simpa using room, lots := h.lots.append positive given }
  · rename_i full
    split
    · exact h
    · rename_i newest found
      obtain ⟨some', whole⟩ := h.lots.newest (by omega) found
      have few := h.few
      rw [(postEvent_frame _ _ _ _ _).2.2.2.2.1]
      refine { h with few := by simp; omega, lots := h.lots.dropLast.append ?_ ?_ }
      · simp only [Lot.merge]
        omega
      · simp only [Lot.merge, whole]

theorem strayPulse_fauOk {k : Nat} (h : FauOk s.fau) : FauOk (strayPulse k s).fau := by
  unfold strayPulse
  dsimp only
  split
  · simpa using { h with }
  · exact { h with }

theorem fuelPulse_fauOk (h : FauOk s.fau) : FauOk (fuelPulse s).fau := by
  unfold fuelPulse
  split
  · exact h
  · exact { h with }
  · exact strayPulse_fauOk h

theorem countPulse_fauOk (h : FauOk s.fau) : FauOk (countPulse s).fau := by
  unfold countPulse
  dsimp only
  split
  · exact fuelPulse_fauOk h
  · exact h

theorem closeDelivery_fauOk {auto : Bool} {d : Delivery} {c : FuelConfig} (h : FauOk s.fau) :
    FauOk (closeDelivery auto d c s).2.fau := by
  simp only [closeDelivery, derateChange_frame]
  refine recomputeFuel_fauOk ?_
  rw [(postEvent_frame _ _ _ _ _).2.2.2.2.1]
  split
  · exact { h with }
  · rename_i metered
    exact joinLot_fauOk (Nat.pos_of_ne_zero (by simpa using metered)) rfl { h with }

theorem compareLevel_fauOk {n : Nat} {c : FuelConfig} (h : FauOk s.fau) : FauOk (compareLevel n c s).fau := by
  unfold compareLevel
  dsimp only
  repeat' split
  · simpa using { h with }
  · exact { h with }
  · simpa using { h with }
  · exact { h with }

theorem levelCheck_fauOk (h : FauOk s.fau) : FauOk (levelCheck s).fau := by
  unfold levelCheck
  dsimp only
  repeat' split
  · exact h
  · exact compareLevel_fauOk { h with }
  · exact { h with }
  · exact { h with }
  · exact h

theorem applyResync_fauOk {d : Int} {c : FuelConfig} (h : FauOk s.fau) : FauOk (applyResync d c s).fau := by
  unfold applyResync
  dsimp only
  split
  · exact { takeVolume_fauOk h with }
  · split
    · rename_i above
      exact joinLot_fauOk (by dsimp only; omega) rfl { h with }
    · exact h

theorem resync_fauOk {n : Nat} {c : FuelConfig} (h : FauOk s.fau) : FauOk (resync n c s).2.fau := by
  simp only [resync, derateChange_frame]
  refine recomputeFuel_fauOk ?_
  split
  · simpa using { applyResync_fauOk h with }
  · exact { applyResync_fauOk h with }

theorem takeHeldPulses_fauOk {k : Nat} (h : FauOk s.fau) : FauOk (takeHeldPulses k s).fau := by
  unfold takeHeldPulses
  dsimp only
  split
  · exact h
  · simpa using { h with }

theorem fuelCommit_fauOk {c : ConfigRecord} (h : FauOk s.fau) : FauOk (fuelCommit c s).fau := by
  unfold fuelCommit
  split
  · exact fauOk_reset
  · refine recomputeFuel_fauOk (takeHeldPulses_fauOk ?_)
    refine { h with few := ?_, lots := ?_ }
    · dsimp only [State.withFau_fau]
      split <;> simp
    · dsimp only [State.withFau_fau]
      split
      · exact .nil
      · rename_i stocked
        exact LotsOk.nil.append (Nat.pos_of_ne_zero stocked) rfl
  · unfold laterFuelCommit
    split
    · exact { h with }
    · exact { h with }

theorem deliverSample_fauOk (h : FauOk s.fau) : FauOk (deliverSample s).fau := by
  simpa [deliverSample] using fuelSample_fauOk h

theorem takeAnswer_fauOk {b : List Byte} (h : FauOk s.fau) : FauOk (takeAnswer b s).fau := by
  refine deliverSample_fauOk ?_
  simpa using h

theorem commitRecord_fauOk {c : ConfigRecord} (h : FauOk s.fau) : FauOk (commitRecord c s).fau := by
  simp only [commitRecord, peerCommit_frame, State.withHpt_fau, eventCommit_frame, billingCommit_frame,
    filterCommit_frame, boardCommit_frame]
  exact fuelCommit_fauOk (by simpa using h)

/-! ### The commands -/

/-- Every command keeps the laws; those that R66 to R85 give no work leave the unit. -/
theorem exec_fauOk (c : Instr) (h : FauOk s.fau) : ∃ t, exec c s = .next t ∧ FauOk t.fau := by
  by_cases touches : Part.fau ∈ mayTouch c
  case neg =>
    obtain ⟨t, ht, keeps⟩ := exec_frame c s
    exact ⟨t, ht, keeps.fau touches ▸ h⟩
  case pos =>
    cases c with
    | powerOnReset => exact ⟨_, rfl, fauOk_reset⟩
    | frontEndAnswer bytes ended =>
      refine ⟨_, rfl, ?_⟩
      unfold readyRises
      repeat' split
      · exact h
      · exact h
      · dsimp only
        split
        · exact takeAnswer_fauOk h
        · exact h
    | answerClockedIn bytes =>
      refine ⟨_, rfl, ?_⟩
      unfold clockedIn
      repeat' split
      · exact h
      · exact h
      · exact takeAnswer_fauOk h
    | answerWindowClose =>
      refine ⟨_, rfl, ?_⟩
      unfold closeWindow
      repeat' split
      · exact h
      · exact h
      · exact deliverSample_fauOk (by simpa using h)
      · exact deliverSample_fauOk (by simpa using h)
    | flowPulse lowUs highUs =>
      refine ⟨_, rfl, ?_⟩
      split
      · exact countPulse_fauOk h
      · exact h
    | deliveryOpen tag ticket price litres =>
      refine ⟨_, rfl, fuelCommand_cases (P := (FauOk ·.fau)) h fun c _ => ?_⟩
      unfold openDelivery
      repeat' split
      all_goals exact { h with }
    | deliveryCancel tag =>
      refine ⟨_, rfl, fuelCommand_cases (P := (FauOk ·.fau)) h fun c _ => ?_⟩
      split
      · exact h
      · exact { h with }
    | deliveryClose tag =>
      refine ⟨_, rfl, fuelCommand_cases (P := (FauOk ·.fau)) h fun c _ => ?_⟩
      split
      · exact h
      · exact closeDelivery_fauOk h
    | resyncTank tag =>
      refine ⟨_, rfl, fuelCommand_cases (P := (FauOk ·.fau)) h fun c _ => ?_⟩
      repeat' split
      · exact h
      · exact h
      · exact h
      · exact resync_fauOk h
    | deliveryAutoClose =>
      refine ⟨_, rfl, ?_⟩
      repeat' split
      · exact closeDelivery_fauOk h
      · exact h
      · exact h
    | levelCheck => exact ⟨_, rfl, levelCheck_fauOk h⟩
    | strayBurstEnd =>
      refine ⟨_, rfl, ?_⟩
      split
      · exact { h with }
      · exact h
    | commit tag =>
      refine ⟨_, rfl, gated_cases (P := (FauOk ·.fau)) h ?_⟩
      repeat' split
      · exact h
      · exact h
      · exact h
      · simpa using commitRecord_fauOk h
    | _ => simp [mayTouch] at touches

/-- Settles O27. -/
theorem lotListKept : Obligations.LotListKept := by
  intro s t h ht
  refine step_keeps_of (P := FuelOk) (fun h => ?_) (fun c rest h => ?_) h ht
  · exact fuelOk_iff.mpr ((tick_keeps s).fau ▸ fuelOk_iff.mp h)
  · have ok : FauOk (s.withPending rest).fau := (fuelOk_iff (s := s)).mp h
    obtain ⟨u, hu, ok⟩ := exec_fauOk c ok
    exact ⟨u, hu, fuelOk_iff.mpr ok⟩

end Sys2Proof.Machine
end

section
/-! The field port but for what it drives itself: the relays and the set's lines (R147, R153). What the set's and the
metering unit's work leaves, and which pulses the sequencer's work asks for (R109, R121 to R125, R148). -/

namespace Sys2Proof.Machine

open Sys2Proof.Claims

variable {s t u : State}

/-- The field port but for the relays and the set's lines. -/
def Fpc.core (f : Fpc) : Fpc := { f with relays := [], runRequest := false, loadEnable := false }

theorem core_lost {f g : Fpc} (h : f.core = g.core) : f.lost = g.lost := congrArg (·.lost) h

@[simp] theorem core_lines (f : Fpc) (a b : Bool) : Fpc.core { f with runRequest := a, loadEnable := b } = f.core :=
  rfl

@[simp] theorem core_relays (f : Fpc) (l : List Bool) : Fpc.core { f with relays := l } = f.core := rfl

/-! ### The set's lines and the relays -/

section

variable (s)

@[simp] theorem askLines_core (l : Bool × Bool) : (askLines l s).fpc.core = s.fpc.core := rfl

@[simp] theorem enterSet_core (st : SetState) (c : Option SetCause) (b : Bool) :
    (enterSet st c b s).fpc.core = s.fpc.core := by simp [Fpc.core]

@[simp] theorem enterOnline_core : (enterOnline s).fpc.core = s.fpc.core := enterSet_core ..

@[simp] theorem enterStopped_core : (enterStopped s).fpc.core = s.fpc.core := enterSet_core ..

@[simp] theorem enterFaulted_core (c : SetCause) : (enterFaulted c s).fpc.core = s.fpc.core := enterSet_core ..

@[simp] theorem enterSyncing_core (b : Bool) : (enterSyncing b s).fpc.core = s.fpc.core := by
  unfold enterSyncing
  dsimp only
  split <;> simp

@[simp] theorem enterWarming_core : (enterWarming s).fpc.core = s.fpc.core := by
  unfold enterWarming
  dsimp only
  split <;> simp

@[simp] theorem enterCranking_core : (enterCranking s).fpc.core = s.fpc.core := by
  unfold enterCranking
  dsimp only
  split <;> simp

@[simp] theorem enterUnloading_core : (enterUnloading s).fpc.core = s.fpc.core := by
  unfold enterUnloading
  dsimp only
  split <;> simp

@[simp] theorem announceIntent_core (k : IntentKind) : (announceIntent k s).fpc.core = s.fpc.core := by
  simp [announceIntent]

@[simp] theorem groupCheck_core (b : Bool) : (groupCheck b s).fpc.core = s.fpc.core := by
  unfold groupCheck checkStopped checkOnline
  dsimp only
  repeat' split
  all_goals simp

@[simp] theorem takeIntent_core (n g : Nat) (k : IntentKind) (key : Nat) :
    (takeIntent n g k key s).fpc.core = s.fpc.core := by
  unfold takeIntent
  repeat' split
  all_goals simp

@[simp] theorem runningChange_core (b : Bool) : (runningChange b s).fpc.core = s.fpc.core := by
  unfold runningChange
  repeat' split
  all_goals simp

@[simp] theorem breakerChange_core (b : Bool) : (breakerChange b s).fpc.core = s.fpc.core := by
  unfold breakerChange
  split <;> simp

@[simp] theorem setFaultChange_core (b : Bool) : (setFaultChange b s).fpc.core = s.fpc.core := by
  unfold setFaultChange
  split <;> simp

@[simp] theorem crankFailed_core : (crankFailed s).fpc.core = s.fpc.core := by
  unfold crankFailed
  dsimp only
  split <;> simp

@[simp] theorem takeClaim_core (c : ClaimId) (g : Nat) (k : ClaimKind) (n m : Nat) :
    (takeClaim c g k n m s).fpc.core = s.fpc.core := by
  unfold takeClaim
  split <;> simp

@[simp] theorem changeMode_core (m : RunMode) : (changeMode m s).fpc.core = s.fpc.core := by
  unfold changeMode
  dsimp only
  repeat' split
  all_goals simp

@[simp] theorem runOn_core (tag : Byte) : (runOn tag s).fpc.core = s.fpc.core := by
  unfold runOn
  split <;> simp

@[simp] theorem runOff_core (tag : Byte) : (runOff tag s).fpc.core = s.fpc.core := by
  unfold runOff
  repeat' split
  all_goals simp

@[simp] theorem applyRelay_core (i : Nat) : (applyRelay i s).fpc.core = s.fpc.core := by
  unfold applyRelay
  dsimp only
  split
  · rfl
  · simp [Fpc.core]

@[simp] theorem applyRelays_core (l : List Nat) : (applyRelays l s).fpc.core = s.fpc.core := by
  unfold applyRelays
  induction l generalizing s with
  | nil => rfl
  | cons i l ih => rw [List.foldl_cons, ih, applyRelay_core]

@[simp] theorem capacityRequest_core (b : Bool) (l : List Nat) : (capacityRequest b l s).fpc.core = s.fpc.core :=
  applyRelays_core ..

@[simp] theorem clearAllCapacity_core : (clearAllCapacity s).fpc.core = s.fpc.core := by
  unfold clearAllCapacity
  split
  · rfl
  · exact applyRelays_core ..

theorem becomeOver_fold_fpc (l : List Nat) : (l.foldl (fun s i => becomeOver i s) s).fpc = s.fpc := by
  induction l generalizing s with
  | nil => rfl
  | cons i l ih => rw [List.foldl_cons, ih]; simp

@[simp] theorem creditTests_core (l : List Nat) : (creditTests l s).fpc.core = s.fpc.core := by
  simp only [creditTests, applyRelays_core, becomeOver_fold_fpc]

@[simp] theorem chargeSample_core : (chargeSample s).fpc.core = s.fpc.core := by
  have charged (r : Rate) (l : List Nat) (s : State) :
      (l.foldl (fun s i => chargeChannel r i s) s).fpc = s.fpc := by
    induction l generalizing s with
    | nil => rfl
    | cons i l ih => rw [List.foldl_cons, ih]; simp
  simp only [chargeSample, creditTests_core, charged, formGroupCis_frame]

@[simp] theorem resolveKey_core (k a b : Nat) : (resolveKey k a b s).fpc.core = s.fpc.core := by
  have priced (l : List PendingRec) (s : State) :
      (l.foldl (fun s p => pricePending a b p s) s).fpc = s.fpc := by
    induction l generalizing s with
    | nil => rfl
    | cons p l ih => rw [List.foldl_cons, ih]; simp
  simp only [resolveKey, creditTests_core, priced, State.withMtr_fpc]

@[simp] theorem remapChannel_core (i : Nat) (m : Option (Nat × Nat)) (n : Nat) :
    (remapChannel i m n s).fpc.core = s.fpc.core := by
  unfold remapChannel
  dsimp only
  rw [applyRelay_core]
  split
  · split <;> simp
  · simp

@[simp] theorem changeLimit_core (i n : Nat) : (changeLimit i n s).fpc.core = s.fpc.core := by
  unfold changeLimit returnOpen
  dsimp only
  repeat' split
  all_goals simp

@[simp] theorem setCommit_core (c : ConfigRecord) : (setCommit c s).fpc.core = s.fpc.core := by
  unfold setCommit
  dsimp only
  repeat' split
  all_goals simp

/-! ### The sequencer, which asks for no pulse here -/

@[simp] theorem shedCapacity_core (c : ClaimRec) : (shedCapacity c s).fpc.core = s.fpc.core := by
  unfold shedCapacity
  dsimp only
  repeat' split
  all_goals simp

@[simp] theorem collect_core (c : ClaimRec) : (collect c s).fpc.core = s.fpc.core := by
  simp only [collect, shedCapacity_core, buildConfirm]
  split <;> simp

@[simp] theorem forcedMade_core : (forcedMade s).fpc.core = s.fpc.core := by
  unfold forcedMade
  repeat' split
  all_goals simp

@[simp] theorem boardCommit_core (c : ConfigRecord) : (boardCommit c s).fpc.core = s.fpc.core := by
  unfold boardCommit
  split <;> simp

@[simp] theorem fallbackFailed_core : (fallbackFailed s).fpc.core = s.fpc.core := by simp [fallbackFailed]

end

/-! ### The pulses asked for (R109, R148) -/

/-- The port with a pulse driven to a feeder. -/
def Fpc.drive (f : Fpc) (x : Feeder) (p : Pulse) : Fpc :=
  match x with
  | .a => { f with pulseA := some p }
  | .b => { f with pulseB := some p }

theorem askPulse_core (f : Feeder) (l : PulseLine) (s : State) :
    (askPulse f l s).fpc.core = s.fpc.core.drive f ⟨l, s.now + 200 * millisecond⟩ := by
  cases f <;> rfl

@[simp] theorem drive_lost (f : Fpc) (x : Feeder) (p : Pulse) : (f.drive x p).lost = f.lost := by
  cases x <;> rfl

@[simp] theorem drive_drive (f : Fpc) (x : Feeder) (p q : Pulse) : (f.drive x p).drive x q = f.drive x q := by
  cases x <;> rfl

/-- Of all pulses at most an OPEN pulse to feeder `f` has been asked for, in place of any to it. -/
def Opens (f : Feeder) (s t : State) : Prop :=
  t.fpc.core = s.fpc.core ∨ ∃ n, t.fpc.core = s.fpc.core.drive f ⟨.openLine, n⟩

theorem Opens.of_core {f : Feeder} (h : t.fpc.core = s.fpc.core) : Opens f s t := .inl h

theorem Opens.ite {f : Feeder} {c : Prop} [Decidable c] {a b : State} (ha : Opens f u a) (hb : Opens f u b) :
    Opens f u (if c then a else b) := by
  split <;> assumption

theorem Opens.trans {f : Feeder} (h : Opens f s t) (k : Opens f t u) : Opens f s u := by
  rcases h with h | ⟨n, h⟩ <;> rcases k with k | ⟨m, k⟩
  · exact .inl (k.trans h)
  · exact .inr ⟨m, by rw [k, h]⟩
  · exact .inr ⟨n, by rw [k, h]⟩
  · exact .inr ⟨m, by rw [k, h, drive_drive]⟩

/-- Work that asks for no pulse, before and after. -/
theorem Opens.after_core {f : Feeder} (h : t.fpc.core = s.fpc.core) (k : Opens f t u) : Opens f s u :=
  (Opens.of_core h).trans k

theorem pulseOpen_opens (f : Feeder) (s : State) : Opens f s (pulseOpen f s) :=
  .inr ⟨_, askPulse_core f .openLine s⟩

theorem forcedChangeover_opens (f : Feeder) (s : State) : Opens f s (forcedChangeover f s) := by
  unfold forcedChangeover
  dsimp only
  refine .ite ?_ ?_
  all_goals exact (pulseOpen_opens f s).trans (.of_core (by simp))

theorem enterSettled_opens (f : Feeder) (b : Bool) (s : State) : Opens f s (enterSettled f b s) :=
  .ite (.after_core (by simp) (forcedChangeover_opens ..)) (.of_core (by simp))

theorem closure_opens (c : ClaimRec) (s : State) : Opens c.target s (closure c s) :=
  .after_core (by simp) (enterSettled_opens ..)

theorem enterOpening_opens (c : ClaimRec) (s : State) : Opens (otherFeeder c.target) s (enterOpening c s) :=
  .ite ((pulseOpen_opens ..).trans (.of_core (by simp))) ((pulseOpen_opens ..).trans (.of_core (by simp)))

theorem fallbackDone_opens (c : ClaimRec) (s : State) : Opens (otherFeeder c.target) s (fallbackDone c s) :=
  .after_core (by simp) (enterSettled_opens ..)

/-- What a step of the sequencer asks of the contactors (R109): no CLOSE, or the CLOSE of a feeder whose other feeder
reads OPEN and has no pulse in progress, and then at most the OPEN of the same feeder. -/
def Pulses (s t : State) : Prop :=
  (∃ f, Opens f s t) ∨ ∃ f u, CloseAllowed f s ∧
    u.fpc.core = s.fpc.core.drive f ⟨.closeLine, s.now + 200 * millisecond⟩ ∧ Opens f u t

theorem Pulses.of_core (h : t.fpc.core = s.fpc.core) : Pulses s t := .inl ⟨.a, .inl h⟩

theorem Opens.pulses {f : Feeder} (h : Opens f s t) : Pulses s t := .inl ⟨f, h⟩

theorem Pulses.ite {c : Prop} [Decidable c] {a b : State} (ha : Pulses u a) (hb : Pulses u b) :
    Pulses u (if c then a else b) := by
  split <;> assumption

theorem closed_core (h : t.fpc.core = s.fpc.core) (f : Feeder) : t.closed f = s.closed f := by
  cases f
  · exact congrArg (·.feederA.level) h
  · exact congrArg (·.feederB.level) h

theorem pulsing_core (h : t.fpc.core = s.fpc.core) (f : Feeder) : t.pulsing f = s.pulsing f := by
  cases f
  · exact congrArg (·.pulseA.isSome) h
  · exact congrArg (·.pulseB.isSome) h

theorem closeAllowed_core (h : t.fpc.core = s.fpc.core) {f : Feeder} : CloseAllowed f t ↔ CloseAllowed f s := by
  rw [CloseAllowed, CloseAllowed, closed_core h, pulsing_core h]

theorem pulsing_eq (s : State) (f : Feeder) : s.pulsing f = (s.fpc.pulse f).isSome := by
  cases f <;> rfl

/-- Work before the sequencer's that asks for no pulse. -/
theorem Pulses.after_core (h : t.fpc.core = s.fpc.core) (now : t.now = s.now) (k : Pulses t u) : Pulses s u := by
  rcases k with ⟨f, k⟩ | ⟨f, v, allowed, driven, k⟩
  · exact .inl ⟨f, .after_core h k⟩
  · exact .inr ⟨f, v, (closeAllowed_core h).mp allowed, by rw [driven, h, now], k⟩

theorem Pulses.then_core (h : Pulses s t) (k : u.fpc.core = t.fpc.core) : Pulses s u := by
  rcases h with ⟨f, h⟩ | ⟨f, v, allowed, driven, h⟩
  · exact .inl ⟨f, h.trans (.of_core k)⟩
  · exact .inr ⟨f, v, allowed, driven, h.trans (.of_core k)⟩

theorem not_closeBlocked_iff {f : Feeder} : ¬closeBlocked f s = true ↔ CloseAllowed f s := by
  simp [closeBlocked, CloseAllowed]

theorem pulseClose_pulses {f : Feeder} {g : State → State} (allowed : ¬closeBlocked f s = true)
    (rest : ∀ u, Opens f u (g u)) : Pulses s (g (pulseClose f s)) :=
  .inr ⟨f, pulseClose f s, not_closeBlocked_iff.mp allowed, askPulse_core f .closeLine s, rest _⟩

theorem enterClosing_pulses (c : ClaimRec) (s : State) : Pulses s (enterClosing c s) := by
  have closing (x : State) : Pulses x (if closeBlocked c.target x then blockClose x
      else if (pulseClose c.target x).closed c.target then closure c (pulseClose c.target x)
        else pulseClose c.target x) := by
    repeat' split
    · exact .of_core (by simp)
    · rename_i free closed
      exact pulseClose_pulses free fun u => closure_opens c u
    · rename_i free opened
      exact pulseClose_pulses (g := id) free fun u => .of_core rfl
  exact .after_core (by simp) (by simp [State.now]) (closing _)

theorem enterFallback_pulses (r : FailReason) (c : ClaimRec) (s : State) : Pulses s (enterFallback r c s) := by
  have closing (x : State) : Pulses x (if usable (otherFeeder c.target) x then
      if closeBlocked (otherFeeder c.target) x then blockClose x
      else if (pulseClose (otherFeeder c.target) x).closed (otherFeeder c.target) then
        fallbackDone c (pulseClose (otherFeeder c.target) x)
      else pulseClose (otherFeeder c.target) x
      else fallbackFailed x) := by
    repeat' split
    · exact .of_core (by simp)
    · rename_i free closed
      exact pulseClose_pulses free fun u => fallbackDone_opens c u
    · rename_i free opened
      exact pulseClose_pulses (g := id) free fun u => .of_core rfl
    · exact .of_core (by simp)
  exact .after_core (by simp) (by simp [State.now]) (closing _)

theorem leaveReturn_pulses (c : ClaimRec) (s : State) : Pulses s (leaveReturn c s) :=
  .ite (enterClosing_pulses c s) (.of_core (by simp))

theorem leaveTopup_pulses (c : ClaimRec) (s : State) : Pulses s (leaveTopup c s) := by
  unfold leaveTopup
  dsimp only
  refine Opens.pulses (.after_core ?_ (enterSettled_opens ..))
  split <;> simp

theorem confirmClaim_pulses (c : ClaimRec) (s : State) : Pulses s (confirmClaim c s) := by
  refine Pulses.after_core (t := collect c s) (by simp) (by simp [State.now]) ?_
  unfold confirmClaim
  dsimp only
  split
  · exact (enterOpening_opens ..).pulses
  · exact .of_core (by simp)
  · exact leaveReturn_pulses ..
  · exact leaveTopup_pulses ..

theorem takePledge_pulses (node board serial kw : Nat) (s : State) : Pulses s (takePledge node board serial kw s) := by
  unfold takePledge
  dsimp only
  repeat' split
  · exact .of_core rfl
  · exact .of_core rfl
  · exact .of_core rfl
  · exact .after_core rfl rfl (confirmClaim_pulses ..)
  · exact .of_core rfl

theorem muteBoard_pulses (s : State) : Pulses s (muteBoard s) := by
  unfold muteBoard
  repeat' split
  · exact Opens.pulses (.after_core (by simp) (enterSettled_opens ..))
  · exact .of_core rfl
  · exact .of_core rfl

theorem closedByHand_pulses (f : Feeder) (s : State) : Pulses s (closedByHand f s) :=
  Opens.pulses (.after_core (by simp) (enterSettled_opens ..))

theorem positionChange_pulses (f : Feeder) (level : Bool) (s : State) : Pulses s (positionChange f level s) := by
  have opened : Pulses s (uncommandedOpen f s) := .of_core (by simp)
  have kept : Pulses s s := .of_core rfl
  unfold positionChange
  refine .ite kept (.ite (.of_core (by simp)) ?_)
  split
  · exact .ite (.of_core (by simp)) kept
  · exact .ite (closure_opens ..).pulses kept
  · exact .ite (fallbackDone_opens ..).pulses kept
  · exact .ite opened kept
  · exact .ite (closedByHand_pulses f s) kept
  · exact .ite opened kept
  · exact .ite opened kept
  · exact closedByHand_pulses f s
  · exact kept

/-! ### The ends of limits, losses and returns -/

theorem sourceLost_pulses (f : Feeder) (s : State) : Pulses s (sourceLost f s) := by
  have kept : Pulses s s := .of_core rfl
  unfold sourceLost
  split
  · exact .ite (forcedChangeover_opens ..).pulses kept
  · exact .ite (Opens.pulses (.after_core (by simp) (forcedChangeover_opens ..))) kept
  · dsimp only
    refine .ite (.ite (Opens.pulses (.after_core (by simp) (enterSettled_opens ..))) (.of_core (by simp))) ?_
    exact .ite (pulseOpen_opens f s).pulses kept
  · exact kept

theorem openLimitPassed_pulses (f : Feeder) (s : State) : Pulses s (openLimitPassed f s) := by
  have kept : Pulses s s := .of_core rfl
  have welded : Pulses s (welded f s) := .of_core (by simp)
  unfold openLimitPassed
  split
  · exact .ite (Opens.pulses (.after_core (by simp) (enterSettled_opens ..))) welded
  · exact .ite kept welded
  · exact welded
  · exact kept

theorem closeFailed_pulses (c : ClaimRec) (s : State) : Pulses s (closeFailed c s) := by
  unfold closeFailed
  dsimp only
  split
  · exact .after_core (by simp) (by simp [State.now]) (enterFallback_pulses ..)
  · exact .of_core (by simp)

theorem beginReturn_pulses (f : Feeder) (s : State) : Pulses s (beginReturn f s) := by
  unfold beginReturn
  dsimp only
  repeat' split
  · exact .after_core (by simp) (by simp [State.now]) (confirmClaim_pulses ..)
  · exact .of_core (by simp)
  · exact .of_core (by simp)

theorem restore_pulses (f : Feeder) (s : State) : Pulses s (restore f s) :=
  .ite (Opens.pulses (.after_core (by simp) (enterSettled_opens ..)))
    (.ite (Opens.pulses (.after_core (by simp) (enterSettled_opens ..))) (.of_core (by simp)))

theorem deadTimeEnd_pulses : ∃ t, execDeadTimeEnd s = .next t ∧ Pulses s t := by
  refine ⟨_, rfl, ?_⟩
  split
  · dsimp only
    split
    · refine .ite ?_ (.ite ?_ ?_)
      · exact .after_core rfl rfl (enterFallback_pulses ..)
      · exact .after_core rfl rfl (enterFallback_pulses ..)
      · exact .after_core rfl rfl (enterClosing_pulses ..)
    · exact .of_core rfl
  · exact .of_core rfl

theorem closeLimit_pulses : ∃ t, execCloseLimit s = .next t ∧ Pulses s t := by
  refine ⟨_, rfl, ?_⟩
  split
  · dsimp only
    split
    · exact .after_core rfl rfl (closeFailed_pulses ..)
    · exact .of_core (by simp)
    · exact .of_core rfl
  · exact .of_core rfl

theorem claimDeadline_pulses : ∃ t, execClaimDeadline s = .next t ∧ Pulses s t := by
  refine ⟨_, rfl, ?_⟩
  repeat' split
  · exact .of_core rfl
  · exact Opens.pulses (.after_core (by simp) (enterSettled_opens ..))
  · exact Opens.pulses (.after_core (by simp) (enterSettled_opens ..))
  · exact confirmClaim_pulses ..
  · exact confirmClaim_pulses ..

theorem sourceLoss_pulses (f : Feeder) : ∃ t, execSourceLossConfirmed f s = .next t ∧ Pulses s t :=
  ⟨_, rfl, .ite (.after_core (by simp) (by simp [State.now]) (sourceLost_pulses ..)) (.of_core rfl)⟩

theorem openLimit_pulses : ∃ t, execOpenLimit s = .next t ∧ Pulses s t := by
  refine ⟨_, rfl, ?_⟩
  split
  · exact .of_core rfl
  · dsimp only
    split
    · exact .after_core (by simp) (by simp [State.now]) (openLimitPassed_pulses ..)
    · exact .of_core rfl

/-! ### Bulletins -/

theorem enterMute_pulses (s : State) : Pulses s (enterMute s) := by
  unfold enterMute
  dsimp only
  split
  · exact .after_core (by simp) (by simp [State.now]) (muteBoard_pulses _)
  · exact .of_core (by simp)

theorem duplicateId_pulses (capture : List Byte) (s : State) : Pulses s (duplicateId capture s) := by
  unfold duplicateId
  split
  · exact .after_core (by simp) (by simp [State.now]) (enterMute_pulses _)
  · exact .of_core rfl

theorem deliver_pulses (src : Nat) (b : Bulletin) (capture : List Byte) (s : State) :
    Pulses s (deliver src b capture s) := by
  unfold deliver deliverOther
  split
  · exact .ite (duplicateId_pulses ..) (.of_core (by simp))
  · split
    · exact .of_core (by simp)
    · exact .of_core (by simp)
    · exact .ite (.of_core (by simp)) (.of_core (by simp))
    · exact .ite (.of_core (by simp)) (.of_core (by simp))
    · exact .ite (.of_core (by simp)) (.of_core (by simp))
    · exact .after_core (by simp) (by simp [State.now]) (takePledge_pulses ..)
    · exact .of_core (by simp)

theorem frameReceived_pulses (rest : List Byte) (lineIdle : Bool) (s : State) :
    Pulses s (frameReceived rest lineIdle s) := by
  have kept : Pulses s s := .of_core rfl
  unfold frameReceived
  dsimp only
  repeat' split
  · exact .of_core (by simp)
  · exact .of_core (by simp)
  · exact .after_core (by simp) (by simp [State.now]) (deliver_pulses ..)
  · exact kept
  · exact kept

/-! ### R109 -/

/-- No CLOSE pulse but those that R109 allows. -/
def CloseSafe (s t : State) : Prop :=
  ∀ f p, t.fpc.pulse f = some p → p.line = .closeLine →
    s.fpc.pulse f = some p ∨ (CloseAllowed f t ∧ p.endAt = s.now + 200 * millisecond)

theorem closeSafe_of_pulse (h : ∀ f p, t.fpc.pulse f = some p → s.fpc.pulse f = some p) : CloseSafe s t :=
  fun f p hp _ => .inl (h f p hp)

theorem CloseSafe.of_fpc (h : t.fpc = s.fpc) : CloseSafe s t := closeSafe_of_pulse fun _ _ hp => h ▸ hp

/-- A change of the port that leaves the pulses, and then what keeps R109. -/
theorem CloseSafe.after (pulse : ∀ f, t.fpc.pulse f = s.fpc.pulse f) (now : t.now = s.now) (k : CloseSafe t u) :
    CloseSafe s u := fun f p hp line => by
  rw [← pulse f, ← now]
  exact k f p hp line

theorem pulse_core {f g : Fpc} (h : f.core = g.core) (x : Feeder) : f.pulse x = g.pulse x := by
  cases x
  · exact congrArg (·.pulseA) h
  · exact congrArg (·.pulseB) h

theorem CloseSafe.of_core (h : t.fpc.core = s.fpc.core) : CloseSafe s t :=
  closeSafe_of_pulse fun f _ hp => pulse_core h f ▸ hp

theorem drive_pulse (f : Fpc) (x : Feeder) (p : Pulse) :
    (f.drive x p).pulse x = some p ∧ (f.drive x p).pulse (otherFeeder x) = f.pulse (otherFeeder x) := by
  cases x <;> exact ⟨rfl, rfl⟩

theorem feeder_eq_or (f g : Feeder) : g = f ∨ g = otherFeeder f := by
  cases f <;> cases g <;> simp [otherFeeder]

theorem drive_core (f : Fpc) (x : Feeder) (p : Pulse) : (f.drive x p).core = f.core.drive x p := by
  cases x <;> rfl

/-- A pulse driven to one feeder leaves the other's pulse and both positions. -/
theorem driven_other {f : Feeder} {p : Pulse} (h : t.fpc.core = s.fpc.core.drive f p) :
    t.fpc.pulse f = some p ∧ t.fpc.pulse (otherFeeder f) = s.fpc.pulse (otherFeeder f) ∧
      ∀ g, t.closed g = s.closed g := by
  have driven : t.fpc.core = (s.fpc.drive f p).core := h.trans (drive_core ..).symm
  obtain ⟨own, other⟩ := drive_pulse s.fpc f p
  refine ⟨(pulse_core driven f).trans own, (pulse_core driven _).trans other, fun g => ?_⟩
  have same := closed_core (s := s.withFpc (s.fpc.drive f p)) driven g
  rw [same]
  cases f <;> cases g <;> rfl

/-- What is opened has no CLOSE pulse that it did not have. -/
theorem Opens.pulse {f g : Feeder} {p : Pulse} (h : Opens f s t) (hp : t.fpc.pulse g = some p)
    (line : p.line = .closeLine) : s.fpc.pulse g = some p := by
  rcases h with h | ⟨n, h⟩
  · exact pulse_core h g ▸ hp
  · obtain ⟨own, other, -⟩ := driven_other h
    rcases feeder_eq_or f g with rfl | rfl
    · obtain rfl := Option.some.inj (own.symm.trans hp)
      cases line
    · exact other ▸ hp

theorem Opens.allowed {f : Feeder} (h : Opens f s t) : CloseAllowed f t ↔ CloseAllowed f s := by
  rcases h with h | ⟨n, h⟩
  · exact closeAllowed_core h
  · obtain ⟨-, other, closed⟩ := driven_other h
    rw [CloseAllowed, CloseAllowed, closed, pulsing_eq, pulsing_eq, other]

/-- What the sequencer asks for obeys R109. -/
theorem Pulses.closeSafe (h : Pulses s t) : CloseSafe s t := by
  intro g p hp line
  rcases h with ⟨f, h⟩ | ⟨f, u, allowed, driven, h⟩
  · exact .inl (h.pulse hp line)
  · have asked := h.pulse hp line
    obtain ⟨own, other, closed⟩ := driven_other driven
    rcases feeder_eq_or f g with rfl | rfl
    · obtain rfl := Option.some.inj (own.symm.trans asked)
      refine .inr ⟨h.allowed.mpr ?_, rfl⟩
      obtain ⟨opened, resting⟩ := allowed
      refine ⟨(closed _).trans opened, ?_⟩
      rwa [pulsing_eq, other, ← pulsing_eq]
    · exact .inl (other ▸ asked)

/-! ### The commands -/

theorem deliverSample_closeSafe (pulse : ∀ f, s.fpc.pulse f = u.fpc.pulse f) : CloseSafe u (deliverSample s) :=
  closeSafe_of_pulse fun f p hp => by
    have core : (deliverSample s).fpc.core = s.fpc.core := by simp [deliverSample]
    rw [← pulse f, ← pulse_core core f, hp]

theorem miss_pulse (kind : FaultKind) (bytes : List Byte) (s : State) (f : Feeder) :
    (miss kind bytes s).fpc.pulse f = s.fpc.pulse f := by
  unfold miss
  dsimp only
  repeat' split
  all_goals cases f <;> simp [Fpc.pulse, Fpc.silent, Fpc.estimated]

theorem goodAnswer_pulse (bytes : List Byte) (s : State) (f : Feeder) :
    (goodAnswer bytes s).fpc.pulse f = s.fpc.pulse f := by
  unfold goodAnswer
  dsimp only
  split
  all_goals cases f <;> simp [Fpc.pulse, Fpc.goodAnswer]

theorem endPoll_closeSafe (pulse : ∀ f, s.fpc.pulse f = u.fpc.pulse f) : CloseSafe u (endPoll s) :=
  deliverSample_closeSafe fun f => by rw [← pulse f]; cases f <;> rfl

theorem takeAnswer_closeSafe (bytes : List Byte) (s : State) : CloseSafe s (takeAnswer bytes s) := by
  refine endPoll_closeSafe fun f => ?_
  split
  · exact goodAnswer_pulse ..
  · exact miss_pulse ..

theorem countPulse_pulse (s : State) (f : Feeder) : (countPulse s).fpc.pulse f = s.fpc.pulse f := by
  unfold countPulse
  dsimp only
  split
  all_goals cases f <;> simp [Fpc.pulse]

theorem commitRecord_pulse (c : ConfigRecord) (s : State) (f : Feeder) :
    (commitRecord c s).fpc.pulse f = s.fpc.pulse f := by
  have fuel (x : State) : (fuelCommit c x).fpc.pulse f = x.fpc.pulse f := by
    unfold fuelCommit firstFuelCommit takeHeldPulses
    dsimp only
    repeat' split
    all_goals cases f <;> simp [Fpc.pulse]
  have filters (x : State) : (filterCommit c.filterTime x).fpc.pulse f = x.fpc.pulse f := by cases f <;> rfl
  simp only [commitRecord, peerCommit_frame, State.withHpt_fpc, eventCommit_frame, billingCommit_frame]
  rw [filters, pulse_core (boardCommit_core ..), fuel, pulse_core (setCommit_core ..)]
  unfold pledgeCommit
  split <;> rfl

/-- A command that the gate takes or refuses. -/
theorem gated_closeSafe {role : Option Role} {states : List NodeState} {tag : Byte} {act : State → State}
    (taken : CloseSafe s (act s)) : CloseSafe s (gated role states tag act s) :=
  gated_cases (.of_fpc rfl) taken

theorem filteredChange_closeSafe (line : FieldLine) (s : State) : CloseSafe s (filteredChange line s) := by
  unfold filteredChange levelEvent
  dsimp only
  split
  · refine CloseSafe.after (t := s.withFpc (s.fpc.setFilter line
      { s.fpc.filter line with level := (s.fpc.filter line).raw, since := none })) (fun f => ?_) rfl ?_
    · cases f <;> cases line <;> rfl
    · cases line
      · exact (positionChange_pulses ..).closeSafe
      · exact (positionChange_pulses ..).closeSafe
      all_goals
        dsimp only
        split
        · exact .of_core (by simp)
        · exact .of_core rfl
  · exact .of_fpc rfl

/-- Every command obeys R109. -/
theorem exec_closeSafe (c : Instr) (s : State) : ∃ t, exec c s = .next t ∧ CloseSafe s t := by
  by_cases touches : Part.fpc ∈ mayTouch c
  case neg =>
    obtain ⟨t, ht, keeps⟩ := exec_frame c s
    exact ⟨t, ht, .of_fpc (keeps.fpc touches)⟩
  case pos =>
    cases c with
    | powerOnReset => exact ⟨_, rfl, closeSafe_of_pulse fun f p hp => by cases f <;> cases hp⟩
    | frameReceived rest idle => exact ⟨_, rfl, (frameReceived_pulses ..).closeSafe⟩
    | filteredLevelChange line => exact ⟨_, rfl, filteredChange_closeSafe line s⟩
    | intentWindowEnd =>
      refine ⟨_, rfl, .of_core ?_⟩
      repeat' split
      all_goals simp
    | crankLimit => exact ⟨_, rfl, .of_core (by split <;> simp)⟩
    | restTimeEnd => exact ⟨_, rfl, .of_core (by split <;> simp)⟩
    | warmUpEnd => exact ⟨_, rfl, .of_core (by split <;> simp)⟩
    | syncLimit => exact ⟨_, rfl, .of_core (by split <;> simp)⟩
    | unloadLimit => exact ⟨_, rfl, .of_core (by split <;> simp)⟩
    | coolDownEnd => exact ⟨_, rfl, .of_core (by split <;> simp)⟩
    | setMode tag mode =>
      refine ⟨_, rfl, gated_closeSafe (.of_core ?_)⟩
      split <;> simp [respond, badField]
    | setRun tag run =>
      refine ⟨_, rfl, gated_closeSafe (.of_core ?_)⟩
      repeat' split
      all_goals simp
    | clearSet tag =>
      refine ⟨_, rfl, gated_closeSafe (.of_core ?_)⟩
      split <;> simp
    | poll => exact ⟨_, rfl, closeSafe_of_pulse fun f p hp => by split at hp <;> cases f <;> exact hp⟩
    | rawLevelChange line level =>
      exact ⟨_, rfl, closeSafe_of_pulse fun f p hp => by cases f <;> cases line <;> exact hp⟩
    | pulseEnd feeder =>
      refine ⟨_, rfl, closeSafe_of_pulse fun f p hp => ?_⟩
      split at hp
      · cases f <;> cases feeder <;> simp_all [Fpc.dropPulse, Fpc.pulse]
      · exact hp
    | frontEndAnswer bytes ended =>
      refine ⟨_, rfl, ?_⟩
      unfold readyRises
      dsimp only
      repeat' split
      · exact .of_fpc rfl
      · exact .of_fpc rfl
      · exact takeAnswer_closeSafe _ s
      · exact closeSafe_of_pulse fun f p hp => by cases f <;> exact hp
    | answerClockedIn bytes =>
      refine ⟨_, rfl, ?_⟩
      unfold clockedIn
      repeat' split
      · exact .of_fpc rfl
      · exact .of_fpc rfl
      · exact takeAnswer_closeSafe _ s
    | answerWindowClose =>
      refine ⟨_, rfl, ?_⟩
      unfold closeWindow
      repeat' split
      · exact .of_fpc rfl
      · exact .of_fpc rfl
      · exact endPoll_closeSafe fun f => miss_pulse ..
      · exact endPoll_closeSafe fun f => miss_pulse ..
    | flowPulse lowUs highUs =>
      refine ⟨_, rfl, closeSafe_of_pulse fun f p hp => ?_⟩
      split at hp
      · rwa [countPulse_pulse] at hp
      · exact hp
    | cancelChangeover tag =>
      refine ⟨_, rfl, gated_closeSafe ?_⟩
      repeat' split
      · exact Pulses.closeSafe (Opens.pulses ((Opens.after_core (by simp) (enterSettled_opens ..)).trans
          (.of_core rfl)))
      · exact .of_fpc rfl
      · exact .of_fpc rfl
    | restore tag feeder =>
      refine ⟨_, rfl, gated_closeSafe ?_⟩
      repeat' split
      · exact .of_fpc rfl
      · exact ((restore_pulses ..).then_core rfl).closeSafe
      · exact .of_fpc rfl
    | claimDeadline => exact claimDeadline_pulses.imp fun t ⟨ht, h⟩ => ⟨ht, h.closeSafe⟩
    | sourceLossConfirmed feeder => exact (sourceLoss_pulses feeder).imp fun t ⟨ht, h⟩ => ⟨ht, h.closeSafe⟩
    | openLimit => exact openLimit_pulses.imp fun t ⟨ht, h⟩ => ⟨ht, h.closeSafe⟩
    | deadTimeEnd => exact deadTimeEnd_pulses.imp fun t ⟨ht, h⟩ => ⟨ht, h.closeSafe⟩
    | closeLimit => exact closeLimit_pulses.imp fun t ⟨ht, h⟩ => ⟨ht, h.closeSafe⟩
    | topupTimer =>
      refine ⟨_, rfl, .of_fpc ?_⟩
      unfold topUp
      repeat' split
      all_goals simp
    | returnConfirmed feeder =>
      exact ⟨_, rfl, (Pulses.ite (beginReturn_pulses feeder s) (.of_core rfl)).closeSafe⟩
    | setChannel tag channel enabled account tariff level =>
      refine ⟨_, rfl, gated_closeSafe (.of_core ?_)⟩
      repeat' split
      all_goals simp
    | shedHost tag channel op =>
      refine ⟨_, rfl, gated_closeSafe (.of_core ?_)⟩
      repeat' split
      all_goals simp
    | resolveTariff tag key base pass =>
      refine ⟨_, rfl, gated_closeSafe (.of_core ?_)⟩
      dsimp only
      split <;> simp
    | setLimit tag id limit =>
      refine ⟨_, rfl, gated_closeSafe (.of_core ?_)⟩
      repeat' split
      all_goals simp
    | commit tag =>
      refine ⟨_, rfl, gated_closeSafe (closeSafe_of_pulse fun f p hp => ?_)⟩
      repeat' split at hp
      · exact hp
      · exact hp
      · exact hp
      · simpa [commitRecord_pulse] using hp
    | _ => simp [mayTouch] at touches

/-- Settles O42. -/
theorem closeLaw : Obligations.CloseLaw := by
  intro s t f p ht
  cases pending : s.pending with
  | nil =>
    rw [step, pending] at ht
    obtain rfl := Host.Outcome.next.inj ht
    exact CloseSafe.of_fpc ((tick_keeps s).fpc (by decide)) f p
  | cons c rest =>
    rw [step, pending] at ht
    obtain ⟨u, hu, safe⟩ := exec_closeSafe c (s.withPending rest)
    obtain rfl := Host.Outcome.next.inj (hu.symm.trans ht)
    exact safe f p

end Sys2Proof.Machine
end

section
/-! The wait list, the pledge table and the headroom (R88, R91, R98): O32 and O33. -/

namespace Sys2Proof.Machine

open Sys2Proof.Claims

variable {s t u : State}

/-! ### The laws of the tables, of the unit alone -/

/-- The laws of the wait list and the pledge table under a rating. -/
structure PluOk (rating : Nat) (p : Plu) : Prop where
  fewWaits : p.waits.length ≤ 8
  waitsDiffer : (p.waits.map (·.claim)).Nodup
  fewPledges : p.pledges.length ≤ 8
  pledgesDiffer : (p.pledges.map (·.claim)).Nodup
  held : heldTotal p ≤ rating
  derated : p.formed = true → p.derated ≤ rating

theorem copyRating_eq (s : State) : copyRating s = (s.fau.copy.map (·.rating)).getD 0 := by
  unfold copyRating
  cases s.fau.copy <;> rfl

theorem pledgesOk_iff : PledgesOk s ↔ PluOk (copyRating s) s.plu ∧ s.fau.factor ≤ 1000 := by
  rw [copyRating_eq]
  exact ⟨fun h => ⟨⟨h.fewWaits, h.waitsDiffer, h.fewPledges, h.pledgesDiffer, h.held, h.derated⟩, h.factor⟩,
    fun ⟨h, factor⟩ => ⟨h.fewWaits, h.waitsDiffer, h.fewPledges, h.pledgesDiffer, h.held, h.derated, factor⟩⟩

variable {rating : Nat} {p q : Plu}

/-- Tables whose claims are among those of before, and which hold no more. -/
theorem PluOk.lower (h : PluOk rating p) (waits : (q.waits.map (·.claim)).Sublist (p.waits.map (·.claim)))
    (pledges : (q.pledges.map (·.claim)).Sublist (p.pledges.map (·.claim))) (held : heldTotal q ≤ heldTotal p)
    (derated : q.derated = p.derated) (formed : q.formed = p.formed) : PluOk rating q where
  fewWaits := by simpa using waits.length_le.trans (by simpa using h.fewWaits)
  waitsDiffer := waits.nodup h.waitsDiffer
  fewPledges := by simpa using pledges.length_le.trans (by simpa using h.fewPledges)
  pledgesDiffer := pledges.nodup h.pledgesDiffer
  held := held.trans h.held
  derated := by rw [derated, formed]; exact h.derated

/-- Entries taken out hold nothing any more. -/
theorem sum_filter_le {α : Type} (f : α → Nat) (keep : α → Bool) (l : List α) :
    ((l.filter keep).map f).sum ≤ (l.map f).sum :=
  List.Sublist.sum_le_sum (List.filter_sublist.map f) fun _ _ => Nat.zero_le _

/-- Entries replaced one by one, each by one that holds no more. -/
theorem sum_map_le {α : Type} (f : α → Nat) {g : α → α} (hg : ∀ x, f (g x) ≤ f x) (l : List α) :
    ((l.map g).map f).sum ≤ (l.map f).sum := by
  rw [List.map_map]
  exact List.sum_le_sum fun x _ => hg x

/-- A replacement that keeps the claims. -/
theorem map_claim_eq {l : List PledgeEntry} {g : PledgeEntry → PledgeEntry} (hg : ∀ e, (g e).claim = e.claim) :
    (l.map g).map (·.claim) = l.map (·.claim) := by
  rw [List.map_map]
  exact List.map_congr_left fun e _ => hg e

theorem entry_eq_none_iff {c : ClaimId} : p.entry c = none ↔ c ∉ p.pledges.map (·.claim) := by
  simp only [Plu.entry, List.find?_eq_none, List.mem_map, not_exists, not_and, decide_eq_true_eq]

theorem entry_mem {c : ClaimId} {e : PledgeEntry} (h : p.entry c = some e) : e ∈ p.pledges ∧ e.claim = c :=
  ⟨List.mem_of_find?_eq_some h, by simpa using List.find?_some h⟩

/-! ### The arbiter's choice and a serve (R96, R97) -/

theorem firstClaim_mem {l : List WaitEntry} {w : WaitEntry} (h : firstClaim p l = some w) : w ∈ l := by
  induction l generalizing w with
  | nil => cases h
  | cons x xs ih =>
    unfold firstClaim at h
    split at h
    · simp_all
    · rename_i v found
      split at h
      · cases h
        exact List.mem_cons_of_mem x (ih found)
      · simp_all

theorem choose_spec {w : WaitEntry} (h : choose p = some w) : w ∈ p.waits ∧ eligible p w = true :=
  List.mem_filter.mp (firstClaim_mem h)

/-- The one entry of a claim raised raises the held total by as much. -/
theorem sum_raised {l : List PledgeEntry} {c : ClaimId} (n : Nat) (differ : (l.map (·.claim)).Nodup)
    (listed : c ∈ l.map (·.claim)) :
    ((l.map fun e => if e.claim = c then { e with kw := e.kw + n } else e).map (·.kw)).sum
      = (l.map (·.kw)).sum + n := by
  induction l with
  | nil => simp at listed
  | cons x xs ih =>
    simp only [List.map_cons, List.nodup_cons, List.mem_cons, List.sum_cons] at *
    obtain ⟨fresh, differ⟩ := differ
    by_cases hx : x.claim = c
    · have rest : (xs.map fun e => if e.claim = c then { e with kw := e.kw + n } else e) = xs := by
        refine (List.map_congr_left fun e he => if_neg ?_).trans (List.map_id xs)
        rintro rfl
        exact fresh (hx ▸ List.mem_map_of_mem he)
      rw [rest, if_pos hx]
      dsimp only
      omega
    · rw [ih differ (listed.resolve_left (Ne.symm hx)), if_neg hx]
      omega

/-- The table after a serve holds what it held and the kW served (R97). -/
theorem servedTable_sum {w : WaitEntry} (n now : Nat) (differ : (p.pledges.map (·.claim)).Nodup) :
    ((servedTable p w n now).map (·.kw)).sum = heldTotal p + n := by
  unfold servedTable
  split
  · rename_i known
    refine sum_raised n differ ?_
    by_contra absent
    simp [entry_eq_none_iff.mpr absent] at known
  · simp [heldTotal]

theorem servedTable_claims {w : WaitEntry} (n now : Nat) : (servedTable p w n now).map (·.claim) =
    if (p.entry w.claim).isSome then p.pledges.map (·.claim) else p.pledges.map (·.claim) ++ [w.claim] := by
  unfold servedTable
  split
  · exact map_claim_eq fun e => by split <;> rfl
  · simp

theorem servedWaits_claims (w : WaitEntry) (n : Nat) (l : List WaitEntry) :
    ((servedWaits w n l).map (·.claim)).Sublist (l.map (·.claim)) := by
  have same : (l.map fun x => if x.claim = w.claim then { x with remaining := x.remaining - n } else x).map (·.claim)
      = l.map (·.claim) := by
    rw [List.map_map]
    exact List.map_congr_left fun x _ => by simp only [Function.comp]; split <;> rfl
  rw [← same]
  exact List.filter_sublist.map _

/-! ### Moves of the Pledge Unit -/

/-- No pledge is made in this state (R88): the set is not ONLINE or the node not in RUN. -/
def Withholds (s : State) : Prop := s.setc.state ≠ .online ∨ s.hpt.nodeState ≠ .run

/-- No claim without a pledge entry has come by one. -/
def NoNew (s t : State) : Prop := ∀ c, s.plu.entry c = none → t.plu.entry c = none

theorem NoNew.refl (s : State) : NoNew s s := fun _ => id

theorem NoNew.trans (h : NoNew s t) (k : NoNew t u) : NoNew s u := fun c => k c ∘ h c

/-- The claims pledged to are among those of before. -/
theorem noNew_of_subset (h : t.plu.pledges.map (·.claim) ⊆ s.plu.pledges.map (·.claim)) : NoNew s t := fun _ hc =>
  entry_eq_none_iff.mpr fun member => entry_eq_none_iff.mp hc (h member)

/-- What an operation of the Pledge Unit does to its tables and its headroom, the set's state as it was. -/
structure PledgeMove (s t : State) : Prop where
  setc : t.setc = s.setc
  hpt : t.hpt = s.hpt
  fau : t.fau = s.fau
  lost : t.fpc.lost = s.fpc.lost
  ok : s.fau.factor ≤ 1000 → PluOk (copyRating s) s.plu → PluOk (copyRating s) t.plu
  headroom : HeadroomOk s → HeadroomOk t
  quiet : Withholds s → NoNew s t

theorem PledgeMove.refl (s : State) : PledgeMove s s := ⟨rfl, rfl, rfl, rfl, fun _ => id, id, fun _ => .refl s⟩

theorem PledgeMove.withholds (h : PledgeMove s t) : Withholds t ↔ Withholds s := by
  rw [Withholds, Withholds, h.setc, h.hpt]

theorem PledgeMove.copyRating (h : PledgeMove s t) : copyRating t = copyRating s := by
  rw [copyRating_eq, copyRating_eq, h.fau]

theorem PledgeMove.trans (h : PledgeMove s t) (k : PledgeMove t u) : PledgeMove s u where
  setc := k.setc.trans h.setc
  hpt := k.hpt.trans h.hpt
  fau := k.fau.trans h.fau
  lost := k.lost.trans h.lost
  ok factor ok := h.copyRating ▸ k.ok (h.fau ▸ factor) (h.copyRating ▸ h.ok factor ok)
  headroom := k.headroom ∘ h.headroom
  quiet withheld := (h.quiet withheld).trans (k.quiet (h.withholds.mpr withheld))

theorem PledgeMove.ite {c : Prop} [Decidable c] {a b : State} (ha : PledgeMove u a) (hb : PledgeMove u b) :
    PledgeMove u (if c then a else b) := by
  split <;> assumption

/-- An operation that leaves the parts concerned. -/
theorem PledgeMove.of_eq (h : PledgeMove u s) (setc : t.setc = s.setc) (hpt : t.hpt = s.hpt) (fau : t.fau = s.fau)
    (lost : t.fpc.lost = s.fpc.lost) (plu : t.plu = s.plu) : PledgeMove u t := by
  refine h.trans ⟨setc, hpt, fau, lost, fun _ ok => plu ▸ ok, fun ok => ?_, fun _ => ?_⟩
  · rwa [HeadroomOk, plu, hpt, setc, lost]
  · rw [NoNew, plu]
    exact fun _ => id

/-- The tables lowered, the headroom as it was. -/
theorem pledgeMove_of_lower (q : Plu) (waits : (q.waits.map (·.claim)).Sublist (s.plu.waits.map (·.claim)))
    (pledges : (q.pledges.map (·.claim)).Sublist (s.plu.pledges.map (·.claim))) (held : heldTotal q ≤ heldTotal s.plu)
    (derated : q.derated = s.plu.derated) (formed : q.formed = s.plu.formed) (headroom : q.headroom = s.plu.headroom) :
    PledgeMove s (s.withPlu q) where
  setc := rfl
  hpt := rfl
  fau := rfl
  lost := rfl
  ok _ ok := ok.lower waits pledges held derated formed
  headroom ok := by simpa [HeadroomOk, headroom] using ok
  quiet _ := noNew_of_subset pledges.subset

/-! ### Headroom and choices (R88, R95) -/

/-- A headroom offered fits under D beside what is held, and D has been formed. -/
def HeadroomFits (p : Plu) : Prop := p.headroom ≠ 0 → p.formed = true ∧ heldTotal p + p.headroom ≤ p.derated

theorem refreshHeadroom_move (s : State) : PledgeMove s (refreshHeadroom s) where
  setc := rfl
  hpt := rfl
  fau := rfl
  lost := rfl
  ok _ ok := { ok with }
  headroom _ := by
    intro offered
    by_contra not
    refine offered (if_neg fun ⟨role, node, online, lost, _⟩ => not ⟨role, node, online, lost⟩)
  quiet _ := .refl s

theorem refreshHeadroom_fits (s : State) : HeadroomFits (refreshHeadroom s).plu := by
  intro offered
  change offeredHeadroom s ≠ 0 at offered
  have formed : s.plu.formed = true := by
    by_contra not
    exact offered (if_neg fun ⟨_, _, _, _, formed⟩ => not formed)
  have bound : offeredHeadroom s ≤ s.plu.derated - heldTotal s.plu := by
    unfold offeredHeadroom
    split <;> omega
  refine ⟨formed, ?_⟩
  change heldTotal s.plu + offeredHeadroom s ≤ s.plu.derated
  omega

/-- With no headroom offered, none is made of it by a refresh either. -/
theorem withholds_headroom (h : Withholds s) (ok : HeadroomOk s) : s.plu.headroom = 0 := by
  by_contra offered
  obtain ⟨-, node, online, -⟩ := ok offered
  exact h.elim (· online) (· node)

/-- The unit's tables after a serve of a claim, the headroom not yet formed anew (R96, R97). -/
def Plu.served (p : Plu) (w : WaitEntry) (now : Nat) : Plu := { p with
  pledges := servedTable p w (min p.headroom w.remaining) now
  created := if (p.entry w.claim).isNone then p.created + 1 else p.created
  waits := servedWaits w (min p.headroom w.remaining) p.waits
  pointer := w.claim.board }

/-- The kW that a PLEDGE names: the whole of the claim's entry. -/
def Plu.pledgedKw (p : Plu) (c : ClaimId) : Nat :=
  match p.entry c with
  | some e => e.kw
  | none => 0

theorem serve_eq (w : WaitEntry) (s : State) : serve w s =
    offer (.pledge w.claim.board w.claim.serial ((s.plu.served w s.now).pledgedKw w.claim)) (pledgeClass w.kind)
      (refreshHeadroom (s.withPlu (s.plu.served w s.now))) := rfl

/-- A serve within the room under D keeps the laws of the tables. -/
theorem PluOk.served (h : PluOk rating p) {w : WaitEntry} (now : Nat) (eligible : eligible p w = true)
    (fits : HeadroomFits p) : PluOk rating (p.served w now) := by
  have waits := servedWaits_claims w (min p.headroom w.remaining) p.waits
  have claims := servedTable_claims (p := p) (w := w) (min p.headroom w.remaining) now
  have sum := servedTable_sum (w := w) (min p.headroom w.remaining) now h.pledgesDiffer
  have room : (p.entry w.claim).isSome = false → p.pledges.length < 8 := fun unknown => by
    have absent : p.entry w.claim = none := by simpa using unknown
    simp only [Machine.eligible, absent, Bool.and_eq_true, decide_eq_true_eq] at eligible
    exact eligible.2
  have few : (servedWaits w (min p.headroom w.remaining) p.waits).length ≤ 8 := by
    simpa using waits.length_le.trans (by simpa using h.fewWaits)
  refine ⟨few, waits.nodup h.waitsDiffer, ?_, ?_, ?_, h.derated⟩
  · have length := congrArg List.length claims
    rw [List.length_map] at length
    change (servedTable p w _ now).length ≤ 8
    rw [length]
    split
    · simpa using h.fewPledges
    · rename_i unknown
      simpa using room (by simpa using unknown)
  · change ((servedTable p w _ now).map (·.claim)).Nodup
    rw [claims]
    split
    · exact h.pledgesDiffer
    · rename_i unknown
      refine h.pledgesDiffer.append (List.nodup_singleton _) ?_
      rw [List.disjoint_singleton]
      exact entry_eq_none_iff.mp (by simpa using unknown)
  · change ((servedTable p w _ now).map (·.kw)).sum ≤ rating
    rw [sum]
    by_cases offered : p.headroom = 0
    · simpa [offered] using h.held
    · obtain ⟨formed, room⟩ := fits offered
      have under := h.derated formed
      omega

theorem serve_move {w : WaitEntry} (chosen : choose s.plu = some w) (offered : s.plu.headroom ≠ 0)
    (fits : HeadroomFits s.plu) (ok : HeadroomOk s) :
    PledgeMove s (serve w s) ∧ HeadroomFits (serve w s).plu ∧ HeadroomOk (serve w s) := by
  have served : PledgeMove s (s.withPlu (s.plu.served w s.now)) :=
    ⟨rfl, rfl, rfl, rfl, fun _ h => h.served s.now (choose_spec chosen).2 fits, fun _ _ => ok offered,
      fun withheld => absurd (withholds_headroom withheld ok) offered⟩
  have refreshed := served.trans (refreshHeadroom_move _)
  rw [serve_eq]
  refine ⟨refreshed.of_eq (by simp) (by simp) (by simp) (by simp) (by simp), ?_, ?_⟩
  · simpa using refreshHeadroom_fits _
  · have ok' := refreshed.headroom ok
    simpa [HeadroomOk] using ok'

theorem arbiterRuns_move (n : Nat) (fits : HeadroomFits s.plu) (ok : HeadroomOk s) :
    PledgeMove s (arbiterRuns n s) := by
  induction n generalizing s with
  | zero => exact .refl s
  | succ n ih =>
    unfold arbiterRuns
    split
    · exact .refl s
    · rename_i offered
      split
      · exact .refl s
      · rename_i w chosen
        obtain ⟨move, fits, ok⟩ := serve_move chosen offered fits ok
        exact move.trans (ih fits ok)

/-- H formed anew obeys R88 in every state. -/
theorem refreshHeadroom_ok (s : State) : HeadroomOk (refreshHeadroom s) := by
  intro offered
  by_contra not
  exact offered (if_neg fun ⟨role, node, online, lost, _⟩ => not ⟨role, node, online, lost⟩)

/-- The choices of any state, whatever its headroom was. -/
theorem servePledges_move (s : State) : PledgeMove s (servePledges s) ∧ HeadroomOk (servePledges s) := by
  have runs := arbiterRuns_move ((refreshHeadroom s).plu.waits.length + 1) (refreshHeadroom_fits s)
    (refreshHeadroom_ok s)
  exact ⟨(refreshHeadroom_move s).trans runs, runs.headroom (refreshHeadroom_ok s)⟩

theorem settlePledges_move (s : State) : PledgeMove s (settlePledges s) ∧ HeadroomOk (settlePledges s) := by
  obtain ⟨move, ok⟩ := servePledges_move s
  exact ⟨move.of_eq (by simp [settlePledges]) (by simp [settlePledges]) (by simp [settlePledges])
    (by simp [settlePledges]) (by simp [settlePledges]), by simpa [HeadroomOk, settlePledges] using ok⟩

theorem PledgeMove.settled (h : PledgeMove u s) : PledgeMove u (settlePledges s) := h.trans (settlePledges_move s).1

/-! ### Revocation (R87, R102, R103) -/

theorem dropPledge_move (c : ClaimId) (s : State) : PledgeMove s (dropPledge c s) :=
  pledgeMove_of_lower _ (.refl _) (List.filter_sublist.map _) (sum_filter_le ..) rfl rfl rfl

theorem changePledge_move {c : ClaimId} {f : PledgeEntry → PledgeEntry} (claim : ∀ e, (f e).claim = e.claim)
    (kw : ∀ e, (f e).kw ≤ e.kw) (s : State) : PledgeMove s (changePledge c f s) := by
  refine pledgeMove_of_lower _ (.refl _) ?_ (sum_map_le _ (fun e => ?_) _) rfl rfl rfl
  · rw [map_claim_eq fun e => by split <;> simp [claim]]
  · split
    · exact kw e
    · exact le_rfl

theorem PledgeMove.announced (h : PledgeMove u s) {c : ClaimId} {a b : Nat} {w : RevokeCause} :
    PledgeMove u (announceRevoke c a b w s) :=
  h.of_eq (by simp) (by simp) (by simp) (by simp) (by simp)

theorem revokeEntries_move (l : List PledgeEntry) (s : State) : PledgeMove s (revokeEntries l s) := by
  induction l generalizing s with
  | nil => exact .refl s
  | cons e es ih =>
    simp only [revokeEntries]
    refine .ite (.refl s) (.ite ?_ ?_)
    · exact (changePledge_move (f := fun x => { x with kw := x.kw - _ }) (fun _ => rfl) (fun _ => Nat.sub_le ..)
        s).announced
    · exact (dropPledge_move e.claim s).announced.trans (ih _)

theorem derateCheck_move (s : State) : PledgeMove s (derateCheck s) := revokeEntries_move _ s

theorem tripEntries_move (l : List PledgeEntry) (s : State) : PledgeMove s (tripEntries l s) := by
  induction l generalizing s with
  | nil => exact .refl s
  | cons e es ih =>
    have dropped := dropPledge_move e.claim s
    exact (PledgeMove.ite dropped dropped.announced).trans (ih _)

theorem tripNotice_move (s : State) : PledgeMove s (tripNotice s) := tripEntries_move _ s

/-- D is at most the rating (R87). -/
theorem deratedCapacity_le (factor : s.fau.factor ≤ 1000) : deratedCapacity s ≤ copyRating s := by
  have divergence : divergenceFactor s ≤ 1000 := by
    unfold divergenceFactor
    split <;> omega
  have permille : s.fau.factor * divergenceFactor s / 1000 ≤ 1000 :=
    Nat.div_le_of_le_mul (Nat.mul_le_mul factor divergence)
  exact Nat.div_le_of_le_mul (by rw [Nat.mul_comm 1000]; exact Nat.mul_le_mul_left _ permille)

/-- D formed anew, the tables as they were. -/
theorem derated_move (ci : Nat) (formed : Bool) (s : State) : PledgeMove s (s.withPlu { s.plu with
    derated := deratedCapacity s, ci := ci, formed := formed }) where
  setc := rfl
  hpt := rfl
  fau := rfl
  lost := rfl
  ok factor ok := { ok with derated := fun _ => deratedCapacity_le factor }
  headroom := id
  quiet _ := .refl s

theorem derateChange_move (s : State) : PledgeMove s (derateChange s) :=
  .ite ((derated_move s.plu.ci s.plu.formed s).trans (derateCheck_move _)).settled (.refl s)

/-- A sample's work leaves R88 true, also where the front end has just been LOST. -/
theorem pledgeSample_move (s : State) : PledgeMove s (pledgeSample s) :=
  .ite ((derated_move (costIndex s) true s).trans (derateCheck_move _)).settled (.refl s)

/-! ### CONFIRM, RELEASE, deadlines, peers gone, and claims listed -/

theorem dropWait_move (c : ClaimId) (s : State) : PledgeMove s (dropWait c s) :=
  pledgeMove_of_lower _ (List.filter_sublist.map _) (.refl _) le_rfl rfl rfl rfl

theorem takeConfirm_move (c : ClaimId) (es : List (Nat × Nat)) (capture : List Byte) (s : State) :
    PledgeMove s (takeConfirm c es capture s) := by
  have out := dropWait_move c s
  have dropped := (out.trans (dropPledge_move c _)).settled
  unfold takeConfirm
  dsimp only
  split
  · exact out.of_eq (by simp) (by simp) (by simp) (by simp) (by simp)
  · exact out
  · refine .ite ?_ out
    split
    · exact .ite dropped (out.trans (changePledge_move (by simp) (by simp) _)).settled
    · exact dropped

theorem takeRelease_move (c : ClaimId) (w : ReleaseReason) (s : State) : PledgeMove s (takeRelease c w s) := by
  have out := dropWait_move c s
  have dropped := (out.trans (dropPledge_move c _)).settled
  unfold takeRelease
  dsimp only
  split
  · exact out
  · split
    · exact dropped
    · exact out.trans (changePledge_move (by simp) (by simp) _)
    · exact dropped
    · exact out

theorem claimExpiry_move (c : ClaimId) (s : State) : PledgeMove s (claimExpiry c s) :=
  .ite (dropWait_move c s) (.refl s)

theorem pledgeDeadline_move (c : ClaimId) (s : State) : PledgeMove s (pledgeDeadline c s) := by
  have dropped := dropPledge_move c s
  unfold pledgeDeadline
  split
  · exact .refl s
  · exact .ite (PledgeMove.ite (dropped.of_eq (by simp) (by simp) (by simp) (by simp) (by simp)) dropped).settled
      (.refl s)

theorem pledgePeerGone_move (n : Nat) (s : State) : PledgeMove s (pledgePeerGone n s) := by
  refine PledgeMove.settled (pledgeMove_of_lower _ (List.filter_sublist.map _) (List.filter_sublist.map _) ?_
    rfl rfl rfl)
  exact sum_filter_le (·.kw) _ s.plu.pledges

theorem peerGone_move (n : Nat) (s : State) : PledgeMove s (peerGone n s) :=
  .ite (pledgePeerGone_move n s)
    (.ite ((PledgeMove.refl s).of_eq (by simp) (by simp) (by simp) (by simp) (by simp)) (.refl s))

theorem changePeer_move (n : Nat) (f : Peer → Peer) (s : State) : PledgeMove s (changePeer n f s) :=
  (PledgeMove.refl s).of_eq (by simp) (by simp) (by simp) (by simp) (by simp)

theorem PledgeMove.posted (h : PledgeMove u s) {k : EventKind} {a : Subject} {v q : Nat} :
    PledgeMove u (postEvent k a v q s) :=
  h.of_eq (by simp) (by simp) (by simp) (by simp) (by simp)

theorem losePeer_move (n : Nat) (s : State) : PledgeMove s (losePeer n s) := by
  have lost (f : Peer → Peer) (v : Pvt) : PledgeMove s ((changePeer n f s).withPvt v) :=
    (changePeer_move n f s).of_eq rfl rfl rfl rfl rfl
  exact (lost _ _).posted.trans (peerGone_move n _)

theorem peerLost_move (n : Nat) (s : State) : PledgeMove s (peerLost n s) := by
  unfold peerLost
  split
  · exact .ite (losePeer_move n s) (.refl s)
  · exact .refl s

theorem takeStatus_move (n : Nat) (b : StatusBody) (s : State) : PledgeMove s (takeStatus n b s) := by
  unfold takeStatus
  split
  · exact (PledgeMove.refl s).of_eq (by simp) (by simp) (by simp) (by simp) (by simp)
  · refine .ite (.ite ?_ (changePeer_move ..)) ?_
    · exact (changePeer_move ..).posted
    · exact ((PledgeMove.refl s).posted.trans (peerGone_move n _)).trans (changePeer_move ..)

/-- A claim joins the wait list where fewer than 8 wait and none of them is its own (R91). -/
theorem listClaim_move (c : ClaimId) (g : Nat) (k : ClaimKind) (n m : Nat) (s : State) :
    PledgeMove s (listClaim c g k n m s) := by
  unfold listClaim
  split
  · exact .refl s
  · rename_i loud
    split
    · exact (PledgeMove.refl s).posted
    · rename_i room
      refine PledgeMove.settled ?_
      refine ⟨rfl, rfl, rfl, rfl, fun _ ok => { ok with fewWaits := ?_, waitsDiffer := ?_ }, id, fun _ => .refl s⟩
      · simp
        omega
      · have fresh : c ∉ s.plu.waits.map (·.claim) := by
          simp only [not_or, List.any_eq_true, decide_eq_true_eq] at loud
          simpa using loud.2.1
        simp only [State.withPlu_plu, List.map_append, List.map_cons, List.map_nil]
        refine ok.waitsDiffer.append (List.nodup_singleton _) ?_
        rwa [List.disjoint_singleton]

/-! ### Moves of the whole node -/

/-- What any work of the node does to the tables and the headroom. -/
structure TableMove (s t : State) : Prop where
  ok : PledgesOk s → PledgesOk t
  headroom : HeadroomOk s → HeadroomOk t
  quiet : Withholds s → Withholds t → NoNew s t

theorem TableMove.refl (s : State) : TableMove s s := ⟨id, id, fun _ _ => .refl s⟩

theorem TableMove.ite {c : Prop} [Decidable c] {a b : State} (ha : TableMove u a) (hb : TableMove u b) :
    TableMove u (if c then a else b) := by
  split <;> assumption

/-- Two moves, of which the second does not begin withholding less than both their ends. -/
theorem TableMove.trans (h : TableMove s t) (k : TableMove t u) (mid : Withholds s → Withholds u → Withholds t) :
    TableMove s u where
  ok := k.ok ∘ h.ok
  headroom := k.headroom ∘ h.headroom
  quiet ws wu := (h.quiet ws (mid ws wu)).trans (k.quiet (mid ws wu) wu)

theorem PledgeMove.table (h : PledgeMove s t) : TableMove s t where
  ok ok := by
    obtain ⟨plu, factor⟩ := pledgesOk_iff.mp ok
    exact pledgesOk_iff.mpr ⟨h.copyRating ▸ h.ok factor plu, h.fau ▸ factor⟩
  headroom := h.headroom
  quiet ws _ := h.quiet ws

theorem TableMove.then (h : TableMove s t) (k : PledgeMove t u) : TableMove s u :=
  h.trans k.table fun _ wu => k.withholds.mp wu

theorem PledgeMove.then (h : PledgeMove s t) (k : TableMove t u) : TableMove s u :=
  h.table.trans k fun ws _ => h.withholds.mpr ws

/-- Work that leaves the parts concerned, the fuel unit and the answers apart. -/
theorem tableMove_of_eq (state : t.setc.state = s.setc.state) (role : t.hpt.role = s.hpt.role)
    (node : t.hpt.nodeState = s.hpt.nodeState) (copy : t.fau.copy = s.fau.copy)
    (factor : s.fau.factor ≤ 1000 → t.fau.factor ≤ 1000) (lost : t.fpc.lost = s.fpc.lost) (plu : t.plu = s.plu) :
    TableMove s t where
  ok ok := by
    obtain ⟨ok, under⟩ := pledgesOk_iff.mp ok
    refine pledgesOk_iff.mpr ⟨?_, factor under⟩
    rwa [plu, copyRating_eq, copy, ← copyRating_eq]
  headroom ok := by rwa [HeadroomOk, plu, role, node, state, lost]
  quiet _ _ := by
    rw [NoNew, plu]
    exact fun _ => id

theorem TableMove.responded (h : TableMove s t) {tag : Byte} {st : Status} {body : List Byte} :
    TableMove s (respond tag st body t) :=
  h.trans (tableMove_of_eq rfl rfl rfl rfl id rfl rfl) fun _ wu => wu

theorem TableMove.of_frame (h : TableMove s t) (setc : u.setc = t.setc) (hpt : u.hpt = t.hpt) (fau : u.fau = t.fau)
    (fpc : u.fpc = t.fpc) (plu : u.plu = t.plu) : TableMove s u :=
  h.then ((PledgeMove.refl t).of_eq setc hpt fau (by rw [fpc]) plu)

theorem TableMove.extra (h : TableMove s t) : TableMove s (extraCause t) :=
  h.of_frame (by simp) (by simp) (by simp) (by simp) (by simp)

theorem TableMove.offered (h : TableMove s t) {b : Bulletin} {k : TxClass} : TableMove s (offer b k t) :=
  h.of_frame (by simp) (by simp) (by simp) (by simp) (by simp)

theorem TableMove.posted (h : TableMove s t) {k : EventKind} {a : Subject} {v q : Nat} :
    TableMove s (postEvent k a v q t) :=
  h.of_frame (by simp) (by simp) (by simp) (by simp) (by simp)

/-! ### The set's state (R42, R88, R90) -/

/-- After a change of the set's state H is formed anew, so R88 holds whatever it was. -/
theorem tableMove_of_served {x y : State} (fau : x.fau = s.fau)
    (plu : x.plu = { s.plu with ci := x.plu.ci }) (move : PledgeMove x y) : TableMove s (servePledges y) where
  ok ok := by
    obtain ⟨ok, under⟩ := pledgesOk_iff.mp ok
    have same : PledgesOk x := by
      refine pledgesOk_iff.mpr ⟨?_, fau ▸ under⟩
      rw [plu, copyRating_eq, fau, ← copyRating_eq]
      exact { ok with }
    exact (move.trans (servePledges_move y).1).table.ok same
  headroom _ := (servePledges_move y).2
  quiet _ wt := by
    have served := move.trans (servePledges_move y).1
    have same : NoNew s x := by
      rw [NoNew, plu]
      exact fun _ => id
    exact same.trans (served.quiet (served.withholds.mp wt))

theorem enterSet_move (st : SetState) (cause : Option SetCause) (trip : Bool) (s : State) :
    TableMove s (enterSet st cause trip s) := by
  have tripped (x : State) (c : Prop) [Decidable c] : PledgeMove x (if c then tripNotice x else x) :=
    .ite (tripNotice_move x) (.refl x)
  unfold enterSet
  dsimp only
  refine (tableMove_of_served ?_ ?_ (tripped _ _)).extra
  · split <;> simp
  · split <;> simp

/-- The set's record changed, but not its state. -/
theorem setc_move {c : Setc} (h : c.state = s.setc.state) : TableMove s (s.withSetc c) :=
  tableMove_of_eq h rfl rfl rfl id rfl rfl

/-- Work that begins by changing the set's record, but not its state. -/
theorem TableMove.after_setc {c : Setc} (k : TableMove (s.withSetc c) u) (h : c.state = s.setc.state) :
    TableMove s u :=
  (setc_move h).trans k fun ws _ => by simpa [Withholds, h] using ws

/-- A state other than ONLINE on the way to another. -/
theorem TableMove.entered (h : TableMove s t) (st : SetState) (cause : Option SetCause) (trip : Bool)
    (mid : t.setc.state ≠ .online) : TableMove s (enterSet st cause trip t) :=
  h.trans (enterSet_move ..) fun _ _ => .inl mid

theorem enterSyncing_move (trip : Bool) (s : State) : TableMove s (enterSyncing trip s) :=
  .ite ((enterSet_move ..).entered _ _ _ (by simp [Setc.entered])) (enterSet_move ..)

theorem enterWarming_move (s : State) : TableMove s (enterWarming s) := by
  have warming : TableMove s (enterSet .warming none false (s.withSetc { s.setc with attempts := 0 })) :=
    .after_setc (enterSet_move ..) rfl
  exact .ite (warming.trans (enterSyncing_move ..) fun _ _ => .inl (by simp [Setc.entered])) warming

theorem enterCranking_move (s : State) : TableMove s (enterCranking s) :=
  .ite ((enterSet_move ..).trans (enterWarming_move _) fun _ _ => .inl (by simp [Setc.entered])) (enterSet_move ..)

theorem enterUnloading_move (s : State) : TableMove s (enterUnloading s) :=
  .ite (enterSet_move ..) ((enterSet_move ..).entered _ _ _ (by simp [Setc.entered]))

theorem announceIntent_move (kind : IntentKind) (s : State) : TableMove s (announceIntent kind s) := by
  unfold announceIntent
  dsimp only
  refine TableMove.offered ?_
  refine TableMove.after_setc (enterSet_move ..) ?_
  rfl

theorem checkStopped_move (notice : Bool) (s : State) : TableMove s (checkStopped notice s) := by
  unfold checkStopped
  dsimp only
  split
  · exact .after_setc (announceIntent_move ..) rfl
  · exact setc_move rfl

theorem checkOnline_move (s : State) : TableMove s (checkOnline s) := by
  unfold checkOnline
  dsimp only
  split
  · exact .after_setc (announceIntent_move ..) rfl
  · exact setc_move rfl

theorem groupCheck_move (notice : Bool) (s : State) : TableMove s (groupCheck notice s) := by
  refine .ite ?_ (.refl s)
  split
  · exact checkStopped_move notice s
  · exact checkOnline_move s
  · exact .ite (enterSyncing_move ..) (.refl s)
  · exact .refl s

theorem takeIntent_move (sender group : Nat) (kind : IntentKind) (key : Nat) (s : State) :
    TableMove s (takeIntent sender group kind key s) := by
  refine .ite ?_ (.refl s)
  split
  · exact .ite (enterSet_move ..) (.refl s)
  · exact enterSet_move ..
  · exact .ite (enterSet_move ..) (.refl s)
  · exact .refl s

theorem runningChange_move (level : Bool) (s : State) : TableMove s (runningChange level s) :=
  .ite (.ite (enterWarming_move s) (.refl s)) (.ite (enterSet_move ..) (.refl s))

theorem breakerChange_move (level : Bool) (s : State) : TableMove s (breakerChange level s) := by
  unfold breakerChange
  split
  · exact enterSet_move ..
  · exact enterSyncing_move ..
  · exact enterSyncing_move ..
  · exact enterSet_move ..
  · exact .refl s

theorem setFaultChange_move (level : Bool) (s : State) : TableMove s (setFaultChange level s) :=
  .ite (enterSet_move ..) (.refl s)

theorem crankFailed_move (s : State) : TableMove s (crankFailed s) := by
  unfold crankFailed
  dsimp only
  refine .ite ?_ ?_
  all_goals
    refine TableMove.trans (tableMove_of_eq ?_ ?_ ?_ ?_ ?_ ?_ ?_) (enterSet_move ..) fun ws _ => ?_
    all_goals simp [askLines, Withholds]
    all_goals simpa [Withholds] using ws

theorem changeMode_move (mode : RunMode) (s : State) : TableMove s (changeMode mode s) := by
  refine .ite (.refl s) ?_
  dsimp only
  split
  · exact .after_setc (enterSet_move ..) rfl
  · exact .after_setc (enterSet_move ..) rfl
  · exact setc_move rfl

theorem runOn_move (tag : Byte) (s : State) : TableMove s (runOn tag s) := by
  unfold runOn
  split
  · exact (enterCranking_move s).responded
  · exact (enterSyncing_move ..).responded
  all_goals exact (TableMove.refl s).responded

theorem runOff_move (tag : Byte) (s : State) : TableMove s (runOff tag s) := by
  have stopped : TableMove s (enterStopped (s.withSetc { s.setc with attempts := 0 })) :=
    .after_setc (enterSet_move ..) rfl
  unfold runOff
  split
  · exact stopped.responded
  · exact stopped.responded
  · exact (enterSet_move ..).responded
  · exact (enterUnloading_move s).responded
  · exact .ite (enterUnloading_move s).responded (TableMove.refl s).responded
  · exact (TableMove.refl s).responded

theorem takeClaim_move (c : ClaimId) (g : Nat) (k : ClaimKind) (n m : Nat) (s : State) :
    TableMove s (takeClaim c g k n m s) :=
  .ite ((groupCheck_move true s).then (listClaim_move ..)) (.refl s)

/-! ### The fuel accounts under the working copy (R66, R73) -/

/-- What work of the fuel unit keeps: the working copy, and a factor of at most 1000. -/
structure FuelMove (f g : Fau) : Prop where
  copy : g.copy = f.copy
  factor : f.factor ≤ 1000 → g.factor ≤ 1000

theorem FuelMove.refl (f : Fau) : FuelMove f f := ⟨rfl, id⟩

section

variable {f : Fau}

theorem takeVolume_fuelMove {g : Fau} {costed : Bool} {l : List Lot} {b : Nat} (h : FuelMove f g) :
    FuelMove f (takeVolume costed l b g).1 := by
  induction l generalizing b g with
  | nil => exact { h with }
  | cons x xs ih =>
    unfold takeVolume
    dsimp only
    split
    · cases costed <;> exact { h with }
    · refine ih ?_
      cases costed <;> exact { h with }

theorem FuelMove.posted (h : FuelMove f s.fau) {k : EventKind} {a : Subject} {v q : Nat} :
    FuelMove f (postEvent k a v q s).fau := by
  rwa [(postEvent_frame _ _ _ _ _).2.2.2.2.1]

theorem burn_fuelMove {n : Nat} (h : FuelMove f s.fau) : FuelMove f (burn n s).fau := by
  have taken := takeVolume_fuelMove (costed := true) (l := s.fau.lots) (b := (s.fau.burnResidue + n) / 9000)
    (g := { s.fau with
      burnResidue := (s.fau.burnResidue + n) % 9000
      burned := add64 s.fau.burned ((s.fau.burnResidue + n) / 9000) }) { h with }
  unfold burn burnUnlotted
  dsimp only
  repeat' split
  · exact taken
  · exact { taken with }
  · refine FuelMove.posted ?_
    exact { taken with }

theorem recomputeFuel_fuelMove (h : FuelMove f s.fau) : FuelMove f (recomputeFuel s).fau := by
  unfold recomputeFuel refuelTest
  dsimp only
  repeat' split
  · exact h
  · refine FuelMove.posted ?_
    exact ⟨h.copy, fun _ => factorOf_le ..⟩
  · refine FuelMove.posted ?_
    exact ⟨h.copy, fun _ => factorOf_le ..⟩
  · exact ⟨h.copy, fun _ => factorOf_le ..⟩

theorem fuelSample_fuelMove (h : FuelMove f s.fau) : FuelMove f (fuelSample s).fau := by
  unfold fuelSample
  split
  · exact h
  · refine recomputeFuel_fuelMove ?_
    split
    · exact burn_fuelMove { h with }
    · exact { h with }

theorem joinLot_fuelMove {l : Lot} (h : FuelMove f s.fau) : FuelMove f (joinLot l s).fau := by
  unfold joinLot
  dsimp only
  repeat' split
  · exact { h with }
  · exact h
  · refine FuelMove.posted ?_
    exact { h with }

theorem countPulse_fuelMove (h : FuelMove f s.fau) : FuelMove f (countPulse s).fau := by
  unfold countPulse fuelPulse strayPulse
  dsimp only
  repeat' split
  · exact h
  · exact { h with }
  · refine FuelMove.posted ?_
    exact { h with }
  · exact { h with }
  · exact h

theorem applyResync_fuelMove {d : Int} {c : FuelConfig} (h : FuelMove f s.fau) :
    FuelMove f (applyResync d c s).fau := by
  unfold applyResync
  dsimp only
  split
  · exact { takeVolume_fuelMove h with }
  · split
    · exact joinLot_fuelMove { h with }
    · exact h

end

/-- Work of the fuel unit, seen from the whole node. -/
theorem FuelMove.table (h : FuelMove s.fau t.fau) (setc : t.setc = s.setc) (hpt : t.hpt = s.hpt)
    (lost : t.fpc.lost = s.fpc.lost) (plu : t.plu = s.plu) : TableMove s t :=
  tableMove_of_eq (by rw [setc]) (by rw [hpt]) (by rw [hpt]) h.copy h.factor lost plu

/-- A change of the divergence or of the lots, which the derated capacity follows (R87). -/
theorem FuelMove.derated (h : FuelMove s.fau t.fau) (setc : t.setc = s.setc) (hpt : t.hpt = s.hpt)
    (fpc : t.fpc = s.fpc) (plu : t.plu = s.plu) : TableMove s (derateChange t) :=
  (h.table setc hpt (by rw [fpc]) plu).then (derateChange_move t)

theorem closeDelivery_move (auto : Bool) (d : Delivery) (c : FuelConfig) (s : State) :
    TableMove s (closeDelivery auto d c s).2 := by
  refine FuelMove.derated (recomputeFuel_fuelMove (FuelMove.posted ?_)) ?_ ?_ ?_ ?_
  · split
    · exact ⟨rfl, id⟩
    · exact joinLot_fuelMove ⟨rfl, id⟩
  all_goals
    simp only [recomputeFuel_frame, postEvent_frame]
    split <;> simp

theorem compareLevel_move (n : Nat) (c : FuelConfig) (s : State) : TableMove s (compareLevel n c s) := by
  have derated (f g : Fau) (b : Bool) (d : Int) (h : FuelMove s.fau g) :
      TableMove s (derateChange (postDiverge b d ((s.withFau f).withFau g))) := by
    refine FuelMove.derated ?_ ?_ ?_ ?_ ?_
    · simpa using h
    all_goals simp
  unfold compareLevel
  dsimp only
  repeat' split
  · exact derated _ _ _ _ ⟨rfl, id⟩
  · exact FuelMove.table ⟨rfl, id⟩ rfl rfl rfl rfl
  · exact derated _ _ _ _ ⟨rfl, id⟩
  · exact FuelMove.table ⟨rfl, id⟩ rfl rfl rfl rfl

theorem levelCheck_move (s : State) : TableMove s (levelCheck s) := by
  have checked (f : Fau) (h : FuelMove s.fau f) : TableMove s (s.withFau f) := h.table rfl rfl rfl rfl
  unfold levelCheck
  dsimp only
  repeat' split
  · exact .refl s
  · exact (checked { s.fau with nextCheck := _, levelFresh := false } ⟨rfl, id⟩).trans (compareLevel_move ..)
      fun ws _ => ws
  · exact checked _ ⟨rfl, id⟩
  · exact checked _ ⟨rfl, id⟩
  · exact .refl s

theorem resync_move (n : Nat) (c : FuelConfig) (s : State) : TableMove s (resync n c s).2 := by
  have applied := applyResync_fuelMove (d := (n : Int) - (s.fau.tank : Int)) (c := c) (.refl s.fau)
  refine FuelMove.derated (recomputeFuel_fuelMove ?_) ?_ ?_ ?_ ?_
  · split
    · refine FuelMove.posted ?_
      exact { applied with }
    · exact { applied with }
  all_goals
    simp only [recomputeFuel_frame]
    split <;> simp

/-! ### A sample delivered (R141, R143) -/

/-- R88 but for the front end: H was formed of an ONLINE set in RUN, as R88 has it until a sample forms H anew. -/
def HeadroomWas (s : State) : Prop :=
  s.plu.headroom ≠ 0 → s.hpt.role = some .genset ∧ s.hpt.nodeState = .run ∧ s.setc.state = .online

/-- A sample's work leaves R88 true also where the front end has just been LOST. -/
theorem pledgeSample_headroom (h : HeadroomWas s) : HeadroomOk (pledgeSample s) := by
  unfold pledgeSample
  split
  · exact (settlePledges_move _).2
  · rename_i idle
    intro offered
    obtain ⟨role, node, -⟩ := h offered
    simp [State.gensetWorks, role, node] at idle

theorem deliverSample_move (setc : s.setc = u.setc) (hpt : s.hpt = u.hpt) (fau : s.fau = u.fau)
    (plu : s.plu = u.plu) : TableMove u (deliverSample s) := by
  have sampled := pledgeSample_move (fuelSample s)
  have fuel : FuelMove s.fau (fuelSample s).fau := fuelSample_fuelMove (.refl _)
  have setc' : (fuelSample s).setc = u.setc := by simp [setc]
  have hpt' : (fuelSample s).hpt = u.hpt := by simp [hpt]
  have plu' : (fuelSample s).plu = u.plu := by simp [plu]
  have begun : Withholds (fuelSample s) ↔ Withholds u := by rw [Withholds, Withholds, setc', hpt']
  have pledged : TableMove u (pledgeSample (fuelSample s)) := by
    refine ⟨fun ok => ?_, fun ok => pledgeSample_headroom fun offered => ?_, fun ws _ => ?_⟩
    · obtain ⟨ok, factor⟩ := pledgesOk_iff.mp ok
      refine sampled.table.ok (pledgesOk_iff.mpr ⟨?_, fuel.factor (fau ▸ factor)⟩)
      rwa [copyRating_eq, fuel.copy, fau, ← copyRating_eq, plu']
    · obtain ⟨role, node, online, -⟩ := ok (plu' ▸ offered)
      exact ⟨hpt' ▸ role, hpt' ▸ node, setc' ▸ online⟩
    · rw [NoNew, ← plu']
      exact sampled.quiet (begun.mpr ws)
  have checked := pledged.trans (groupCheck_move false _) fun ws _ => sampled.withholds.mpr (begun.mpr ws)
  refine checked.then (PledgeMove.of_eq (s := groupCheck false (pledgeSample (fuelSample s))) (.refl _) ?_ ?_ ?_
    (core_lost ?_) ?_)
  all_goals simp [deliverSample]

theorem endPoll_move (setc : s.setc = u.setc) (hpt : s.hpt = u.hpt) (fau : s.fau = u.fau) (plu : s.plu = u.plu) :
    TableMove u (endPoll s) := deliverSample_move setc hpt fau plu

theorem takeAnswer_move (bytes : List Byte) (s : State) : TableMove s (takeAnswer bytes s) := by
  refine endPoll_move ?_ ?_ ?_ ?_
  all_goals split <;> simp

/-! ### COMMIT and RESET_SOFT (R107, R192, R195) -/

/-- A unit with nothing waiting, pledged or formed, as a COMMIT leaves it. -/
structure PluIdle (p : Plu) : Prop where
  waits : p.waits = []
  pledges : p.pledges = []
  formed : p.formed = false
  headroom : p.headroom = 0

theorem PluIdle.ok {p : Plu} (h : PluIdle p) (rating : Nat) : PluOk rating p where
  fewWaits := by simp [h.waits]
  waitsDiffer := by simp [h.waits]
  fewPledges := by simp [h.pledges]
  pledgesDiffer := by simp [h.pledges]
  held := by simp [heldTotal, h.pledges]
  derated := by simp [h.formed]

theorem PluIdle.table (h : PluIdle t.plu) (factor : s.fau.factor ≤ 1000 → t.fau.factor ≤ 1000) : TableMove s t where
  ok ok := pledgesOk_iff.mpr ⟨h.ok _, factor (pledgesOk_iff.mp ok).2⟩
  headroom _ offered := absurd h.headroom offered
  quiet _ _ c _ := by simp [Plu.entry, h.pledges]

theorem servePledges_idle (h : PluIdle s.plu) : PluIdle (servePledges s).plu := by
  have none : offeredHeadroom s = 0 := if_neg fun ⟨_, _, _, _, formed⟩ => by simp [h.formed] at formed
  have refreshed : PluIdle (refreshHeadroom s).plu := { h with headroom := none }
  rw [servePledges, arbiterRuns_eq_self _ refreshed.headroom]
  exact refreshed

theorem enterSet_idle {st : SetState} {cause : Option SetCause} {trip : Bool} (h : PluIdle s.plu) :
    PluIdle (enterSet st cause trip s).plu := by
  have tripped (x : State) (hx : PluIdle x.plu) (c : Prop) [Decidable c] :
      PluIdle (if c then tripNotice x else x).plu := by
    split
    · simpa [tripNotice, hx.pledges, tripEntries] using hx
    · exact hx
  simp only [enterSet, extraCause_frame]
  refine servePledges_idle (tripped _ ?_ _)
  split
  · simpa using { h with }
  · simpa using h

theorem setCommit_idle {c : ConfigRecord} (h : PluIdle s.plu) : PluIdle (setCommit c s).plu := by
  unfold setCommit
  dsimp only
  repeat' split
  · exact h
  · exact enterSet_idle h
  · exact enterSet_idle h
  · unfold enterWarming enterSyncing
    dsimp only
    repeat' split
    · exact enterSet_idle (enterSet_idle (enterSet_idle h))
    · exact enterSet_idle (enterSet_idle h)
    · exact enterSet_idle h
  · exact enterSet_idle h

theorem peerGone_idle {n : Nat} (h : PluIdle s.plu) : PluIdle (peerGone n s).plu := by
  unfold peerGone pledgePeerGone settlePledges
  repeat' split
  · simp only [headroomCause_frame]
    refine servePledges_idle { h with waits := ?_, pledges := ?_ }
    · simp [h.waits]
    · simp [h.pledges]
  · simpa using h
  · exact h

theorem recomputePeer_idle {n : Nat} (h : PluIdle s.plu) : PluIdle (recomputePeer n s).plu := by
  unfold recomputePeer losePeer
  dsimp only
  repeat' split
  · exact h
  · exact h
  · simpa using h
  · simpa using h
  · exact peerGone_idle (by simpa using h)

theorem peerCommit_idle {period own : Nat} (h : PluIdle s.plu) : PluIdle (peerCommit period own s).plu := by
  have recomputed (l : List Nat) (s : State) (h : PluIdle s.plu) :
      PluIdle (l.foldl (fun s node => recomputePeer node s) s).plu := by
    induction l generalizing s with
    | nil => exact h
    | cons n l ih => exact ih _ (recomputePeer_idle h)
  simp only [peerCommit, State.withPvt_plu, offerStatus_frame]
  exact recomputed _ _ h

theorem commitRecord_idle (c : ConfigRecord) (s : State) : PluIdle (commitRecord c s).plu := by
  refine peerCommit_idle ?_
  simp only [State.withHpt_plu, eventCommit_frame, billingCommit_frame, filterCommit_frame, boardCommit_frame,
    fuelCommit_frame]
  refine setCommit_idle ?_
  unfold pledgeCommit
  split <;> exact ⟨rfl, rfl, rfl, rfl⟩

theorem commitRecord_factor (c : ConfigRecord) (h : s.fau.factor ≤ 1000) : (commitRecord c s).fau.factor ≤ 1000 := by
  have held (k : Nat) (x : State) (h : x.fau.factor ≤ 1000) : (takeHeldPulses k x).fau.factor ≤ 1000 := by
    unfold takeHeldPulses
    dsimp only
    split
    · exact h
    · simpa [Fau.strayPulses] using h
  have fuel (x : State) (h : x.fau.factor ≤ 1000) : (fuelCommit c x).fau.factor ≤ 1000 := by
    unfold fuelCommit
    split
    · exact Nat.zero_le 1000
    · exact (recomputeFuel_fuelMove (.refl _)).factor (held _ _ h)
    · unfold laterFuelCommit
      split <;> exact h
  simp only [commitRecord, peerCommit_frame, State.withHpt_fau, eventCommit_frame, billingCommit_frame,
    filterCommit_frame, boardCommit_frame]
  refine fuel _ ?_
  simpa using h

theorem commitRecord_move (c : ConfigRecord) (s : State) : TableMove s (commitRecord c s) :=
  (commitRecord_idle c s).table (commitRecord_factor c)

theorem softReset_move (s : State) : TableMove s (softReset s) where
  ok ok := by
    obtain ⟨ok, factor⟩ := pledgesOk_iff.mp ok
    refine pledgesOk_iff.mpr ⟨?_, by simpa [softReset] using factor⟩
    have rating : copyRating (softReset s) = copyRating s := by
      rw [copyRating_eq, copyRating_eq]
      simp [softReset]
    rw [rating]
    refine ⟨?_, ?_, ?_, ?_, ?_, fun formed => ?_⟩
    · simp [softReset]
    · simp [softReset]
    · simp [softReset]
    · simp [softReset]
    · simp [softReset, heldTotal]
    · simpa [softReset] using ok.derated (by simpa [softReset] using formed)
  headroom _ offered := absurd (by simp [softReset]) offered
  quiet _ _ c _ := by simp [softReset, Plu.entry]

/-! ### MUTE and bulletins (R88, R99, R100) -/

theorem enterMute_move (s : State) : TableMove s (enterMute s) := by
  have muted (x : State) (setc : x.setc = s.setc) (fau : x.fau = s.fau)
      (plu : x.plu = { s.plu with headroom := 0 }) : TableMove s x := by
    refine ⟨fun ok => ?_, fun _ offered => ?_, fun _ _ => ?_⟩
    · obtain ⟨ok, factor⟩ := pledgesOk_iff.mp ok
      refine pledgesOk_iff.mpr ⟨?_, fau ▸ factor⟩
      rw [plu, copyRating_eq, fau, ← copyRating_eq]
      exact { ok with }
    · simp [plu] at offered
    · rw [NoNew, plu]
      exact fun _ => id
  unfold enterMute
  dsimp only
  split
  all_goals exact muted _ (by simp) (by simp) (by simp [refreshHeadroom, offeredHeadroom])

/-- Work of the sequencer, seen from the pledge unit. -/
theorem Pulses.lost (h : Pulses s t) : t.fpc.lost = s.fpc.lost := by
  have opened {f : Feeder} {s t : State} (h : Opens f s t) : t.fpc.lost = s.fpc.lost := by
    rcases h with h | ⟨n, h⟩
    · exact core_lost h
    · exact (congrArg Fpc.lost h).trans (drive_lost ..)
  rcases h with ⟨f, h⟩ | ⟨f, u, -, driven, h⟩
  · exact opened h
  · exact (opened h).trans ((congrArg Fpc.lost driven).trans (drive_lost ..))

theorem Pulses.table (h : Pulses s t) (setc : t.setc = s.setc) (hpt : t.hpt = s.hpt) (fau : t.fau = s.fau)
    (plu : t.plu = s.plu) : TableMove s t :=
  ((PledgeMove.refl s).of_eq setc hpt fau h.lost plu).table

theorem duplicateId_move (capture : List Byte) (s : State) : TableMove s (duplicateId capture s) := by
  unfold duplicateId
  split
  · refine ((PledgeMove.refl s).of_eq ?_ ?_ ?_ ?_ ?_).then (enterMute_move _)
    all_goals simp
  · exact .refl s

theorem deliver_move (src : Nat) (b : Bulletin) (capture : List Byte) (s : State) :
    TableMove s (deliver src b capture s) := by
  have refreshed : PledgeMove s (refreshPeer src s) :=
    (PledgeMove.refl s).of_eq (by simp) (by simp) (by simp) (by simp) (by simp)
  unfold deliver deliverOther
  split
  · exact .ite (duplicateId_move capture s) (takeStatus_move ..).table
  · refine refreshed.then ?_
    split
    · exact .refl _
    · exact takeIntent_move ..
    · exact .ite (takeClaim_move ..) (.refl _)
    · exact .ite (takeConfirm_move ..).table (.refl _)
    · exact .ite (takeRelease_move ..).table (.refl _)
    · exact (takePledge_pulses ..).table (by simp) (by simp) (by simp) (by simp)
    · exact ((PledgeMove.refl _).of_eq (by simp) (by simp) (by simp) (by simp) (by simp)).table

theorem frameReceived_move (rest : List Byte) (lineIdle : Bool) (s : State) :
    TableMove s (frameReceived rest lineIdle s) := by
  have ended : PledgeMove s (frameEnded lineIdle s) :=
    (PledgeMove.refl s).of_eq (by simp) (by simp) (by simp) (by simp) (by simp)
  unfold frameReceived
  dsimp only
  repeat' split
  · exact ended.table
  · exact (ended.of_eq (by simp) (by simp) (by simp) (by simp) (by simp)).table
  · exact ended.then (deliver_move ..)
  · exact .refl s
  · exact .refl s

theorem levelEvent_move (line : FieldLine) (level : Bool) (s : State) : TableMove s (levelEvent line level s) := by
  unfold levelEvent
  split
  · exact (positionChange_pulses ..).table (by simp) (by simp) (by simp) (by simp)
  · exact (positionChange_pulses ..).table (by simp) (by simp) (by simp) (by simp)
  · exact .ite (runningChange_move ..) (.refl _)
  · exact .ite (breakerChange_move ..) (.refl _)
  · exact .ite (setFaultChange_move ..) (.refl _)

theorem filteredChange_move (line : FieldLine) (s : State) : TableMove s (filteredChange line s) := by
  have filtered (x : Filter) : PledgeMove s (s.withFpc (s.fpc.setFilter line x)) :=
    (PledgeMove.refl s).of_eq rfl rfl rfl (by cases line <;> rfl) rfl
  unfold filteredChange
  dsimp only
  split
  · exact (filtered _).then (levelEvent_move ..)
  · exact .refl s

/-! ### The commands -/

/-- The front end is LOST or not as it was, where the fuel and pledge units have no work. -/
theorem exec_lost (c : Instr) (fau : Part.fau ∉ mayTouch c) (plu : Part.plu ∉ mayTouch c) :
    ∃ t, exec c s = .next t ∧ t.fpc.lost = s.fpc.lost := by
  by_cases touches : Part.fpc ∈ mayTouch c
  case neg =>
    obtain ⟨t, ht, keeps⟩ := exec_frame c s
    exact ⟨t, ht, by rw [keeps.fpc touches]⟩
  case pos =>
    cases c with
    | poll => exact ⟨_, rfl, by split <;> rfl⟩
    | rawLevelChange line level => exact ⟨_, rfl, by cases line <;> rfl⟩
    | pulseEnd feeder => exact ⟨_, rfl, by split <;> [cases feeder; skip] <;> rfl⟩
    | cancelChangeover tag =>
      refine ⟨_, rfl, gated_cases (P := (·.fpc.lost = _)) rfl ?_⟩
      repeat' split
      · exact (Opens.pulses (.after_core (by simp) (enterSettled_opens ..))).lost
      · rfl
      · rfl
    | restore tag feeder =>
      refine ⟨_, rfl, gated_cases (P := (·.fpc.lost = _)) rfl ?_⟩
      repeat' split
      · rfl
      · exact (restore_pulses ..).lost
      · rfl
    | claimDeadline => exact claimDeadline_pulses.imp fun t ⟨ht, h⟩ => ⟨ht, h.lost⟩
    | sourceLossConfirmed feeder => exact (sourceLoss_pulses feeder).imp fun t ⟨ht, h⟩ => ⟨ht, h.lost⟩
    | openLimit => exact openLimit_pulses.imp fun t ⟨ht, h⟩ => ⟨ht, h.lost⟩
    | deadTimeEnd => exact deadTimeEnd_pulses.imp fun t ⟨ht, h⟩ => ⟨ht, h.lost⟩
    | closeLimit => exact closeLimit_pulses.imp fun t ⟨ht, h⟩ => ⟨ht, h.lost⟩
    | topupTimer => exact ⟨_, rfl, core_lost (by unfold topUp; repeat' split <;> simp)⟩
    | returnConfirmed feeder => exact ⟨_, rfl, (Pulses.ite (beginReturn_pulses feeder s) (.of_core rfl)).lost⟩
    | setChannel tag channel enabled account tariff level =>
      refine ⟨_, rfl, gated_cases (P := (·.fpc.lost = _)) rfl (core_lost ?_)⟩
      repeat' split
      all_goals simp
    | shedHost tag channel op =>
      refine ⟨_, rfl, gated_cases (P := (·.fpc.lost = _)) rfl (core_lost ?_)⟩
      repeat' split
      all_goals simp
    | resolveTariff tag key base pass =>
      refine ⟨_, rfl, gated_cases (P := (·.fpc.lost = _)) rfl (core_lost ?_)⟩
      dsimp only
      split <;> simp
    | setLimit tag id limit =>
      refine ⟨_, rfl, gated_cases (P := (·.fpc.lost = _)) rfl (core_lost ?_)⟩
      repeat' split
      all_goals simp
    | _ => simp [mayTouch] at touches fau plu

/-- The node has its role and its state still. -/
def SameNode (s t : State) : Prop := t.hpt.role = s.hpt.role ∧ t.hpt.nodeState = s.hpt.nodeState

theorem SameNode.of_hpt (h : t.hpt = s.hpt) : SameNode s t := by rw [SameNode, h]; exact ⟨rfl, rfl⟩

theorem SameNode.responded (h : t.hpt = s.hpt) {tag : Byte} {st : Status} {body : List Byte} :
    SameNode s (respond tag st body t) := by
  rw [SameNode, respond, h]
  exact ⟨rfl, rfl⟩

/-- The commands that may give the node another role or state (R18, R191, R195, R196). -/
def changesNode : Instr → Bool
  | .powerOnReset | .frameReceived _ _ | .commit _ | .resetSoft _ => true
  | _ => false

/-- The host's transactions and answers leave the node's role and state. -/
theorem exec_node (c : Instr) (h : changesNode c = false) : ∃ t, exec c s = .next t ∧ SameNode s t := by
  by_cases touches : Part.hpt ∈ mayTouch c
  case neg =>
    obtain ⟨t, ht, keeps⟩ := exec_frame c s
    exact ⟨t, ht, .of_hpt (keeps.hpt touches)⟩
  case pos =>
    cases c
    case transactionBegins => exact ⟨_, rfl, by split <;> exact ⟨rfl, rfl⟩⟩
    case hostTransaction bytes =>
      refine ⟨_, rfl, ?_⟩
      unfold endTransaction takeRecord
      dsimp only
      repeat' split
      all_goals simp [SameNode, refuse, respond]
    case configure tag body =>
      refine ⟨_, rfl, gated_cases (P := SameNode s) (.responded rfl) ?_⟩
      repeat' split
      all_goals simp [SameNode, refuse, badField, respond]
    case defineTariff tag slot form key base pass =>
      refine ⟨_, rfl, gated_cases (P := SameNode s) (.responded rfl) ?_⟩
      dsimp only
      repeat' split
      all_goals exact .responded (by simp)
    case resolveTariff tag key base pass =>
      refine ⟨_, rfl, gated_cases (P := SameNode s) (.responded rfl) ?_⟩
      dsimp only
      repeat' split
      all_goals exact .responded (by simp)
    case setRun tag run =>
      refine ⟨_, rfl, gated_cases (P := SameNode s) (.responded rfl) ?_⟩
      unfold runOn runOff
      repeat' split
      all_goals exact .responded (by simp)
    case deliveryOpen tag ticket price litres =>
      refine ⟨_, rfl, fuelCommand_cases (P := SameNode s) (.responded rfl) fun c _ => ?_⟩
      unfold openDelivery
      repeat' split
      all_goals exact .responded (by simp)
    case deliveryClose tag =>
      refine ⟨_, rfl, fuelCommand_cases (P := SameNode s) (.responded rfl) fun c _ => ?_⟩
      split <;> exact .responded (by simp)
    case deliveryCancel tag =>
      refine ⟨_, rfl, fuelCommand_cases (P := SameNode s) (.responded rfl) fun c _ => ?_⟩
      split <;> exact .responded (by simp)
    case resyncTank tag =>
      refine ⟨_, rfl, fuelCommand_cases (P := SameNode s) (.responded rfl) fun c _ => ?_⟩
      repeat' split
      all_goals exact .responded (by simp)
    all_goals try (simp [mayTouch, changesNode] at touches h; done)
    all_goals
      refine ⟨_, rfl, gated_cases (P := SameNode s) (.responded rfl) ?_⟩
      repeat' split
      all_goals exact .responded (by simp)

theorem respond_move (tag : Byte) (st : Status) (body : List Byte) (s : State) :
    TableMove s (respond tag st body s) := (TableMove.refl s).responded

theorem gated_move {role : Option Role} {states : List NodeState} {tag : Byte} {act : State → State}
    (taken : TableMove s (act s)) : TableMove s (gated role states tag act s) :=
  gated_cases (respond_move ..) taken

theorem fuelCommand_move {tag : Byte} {act : FuelConfig → State → State} (taken : ∀ c, TableMove s (act c s)) :
    TableMove s (fuelCommand tag act s) :=
  fuelCommand_cases (respond_move ..) fun c _ => taken c

/-- Every command keeps the laws of R88, R91 and R98. -/
theorem exec_move (c : Instr) (s : State) : ∃ t, exec c s = .next t ∧ TableMove s t := by
  by_cases fau : Part.fau ∈ mayTouch c ∨ Part.plu ∈ mayTouch c
  case neg =>
    obtain ⟨fau, plu⟩ := not_or.mp fau
    obtain ⟨t, ht, keeps⟩ := exec_frame c s
    obtain ⟨t', ht', lost⟩ := exec_lost (s := s) c fau plu
    have sameNode : changesNode c = false := by cases c <;> simp [mayTouch, changesNode] at plu ⊢
    obtain ⟨t'', ht'', role, node⟩ := exec_node (s := s) c sameNode
    obtain rfl := Host.Outcome.next.inj (ht.symm.trans ht')
    obtain rfl := Host.Outcome.next.inj (ht.symm.trans ht'')
    have setc : Part.setc ∉ mayTouch c := by cases c <;> simp [mayTouch] at plu ⊢
    exact ⟨t, ht, tableMove_of_eq (by rw [keeps.setc setc]) role node (by rw [keeps.fau fau])
      (by rw [keeps.fau fau]; exact id) lost (keeps.plu plu)⟩
  case pos =>
    cases c with
    | powerOnReset => exact ⟨_, rfl, PluIdle.table ⟨rfl, rfl, rfl, rfl⟩ fun _ => Nat.zero_le _⟩
    | frameReceived rest idle => exact ⟨_, rfl, frameReceived_move ..⟩
    | peerLost node => exact ⟨_, rfl, (peerLost_move ..).table⟩
    | filteredLevelChange line => exact ⟨_, rfl, filteredChange_move ..⟩
    | intentWindowEnd =>
      exact ⟨_, rfl, .ite (enterCranking_move s) (.ite (enterUnloading_move s) (.refl s))⟩
    | crankLimit => exact ⟨_, rfl, .ite (crankFailed_move s) (.refl s)⟩
    | restTimeEnd => exact ⟨_, rfl, .ite (enterCranking_move s) (.refl s)⟩
    | warmUpEnd => exact ⟨_, rfl, .ite (enterSyncing_move ..) (.refl s)⟩
    | syncLimit => exact ⟨_, rfl, .ite (enterSet_move ..) (.refl s)⟩
    | unloadLimit => exact ⟨_, rfl, .ite (enterSet_move ..) (.refl s)⟩
    | coolDownEnd => exact ⟨_, rfl, .ite (enterSet_move ..) (.refl s)⟩
    | setMode tag mode =>
      refine ⟨_, rfl, gated_move ?_⟩
      split
      · exact (changeMode_move ..).responded
      · exact (changeMode_move ..).responded
      · exact respond_move ..
    | setRun tag run =>
      exact ⟨_, rfl, gated_move (.ite (respond_move ..) (.ite (respond_move ..)
        (.ite (runOn_move ..) (runOff_move ..))))⟩
    | clearSet tag =>
      refine ⟨_, rfl, gated_move (.ite (TableMove.responded ?_) (respond_move ..))⟩
      exact .after_setc (enterSet_move ..) rfl
    | frontEndAnswer bytes ended =>
      refine ⟨_, rfl, ?_⟩
      unfold readyRises
      dsimp only
      repeat' split
      · exact .refl s
      · exact .refl s
      · exact takeAnswer_move ..
      · exact tableMove_of_eq rfl rfl rfl rfl id rfl rfl
    | answerClockedIn bytes =>
      refine ⟨_, rfl, ?_⟩
      unfold clockedIn
      repeat' split
      · exact .refl s
      · exact .refl s
      · exact takeAnswer_move ..
    | answerWindowClose =>
      refine ⟨_, rfl, ?_⟩
      unfold closeWindow
      repeat' split
      · exact .refl s
      · exact .refl s
      · exact endPoll_move (by simp) (by simp) (by simp) (by simp)
      · exact endPoll_move (by simp) (by simp) (by simp) (by simp)
    | flowPulse lowUs highUs =>
      refine ⟨_, rfl, .ite ?_ (.refl s)⟩
      refine (countPulse_fuelMove (.refl _)).table (by simp) (by simp) ?_ (by simp)
      unfold countPulse
      dsimp only
      split <;> simp
    | deliveryOpen tag ticket price litres =>
      refine ⟨_, rfl, fuelCommand_move fun c => ?_⟩
      unfold openDelivery
      refine .ite (respond_move ..) (.ite (respond_move ..) (.ite (respond_move ..) (.ite (respond_move ..) ?_)))
      exact tableMove_of_eq rfl rfl rfl rfl id rfl rfl
    | deliveryCancel tag =>
      refine ⟨_, rfl, fuelCommand_move fun c => ?_⟩
      split
      · exact respond_move ..
      · exact tableMove_of_eq rfl rfl rfl rfl id rfl rfl
    | deliveryClose tag =>
      refine ⟨_, rfl, fuelCommand_move fun c => ?_⟩
      split
      · exact respond_move ..
      · exact (closeDelivery_move ..).responded
    | resyncTank tag =>
      refine ⟨_, rfl, fuelCommand_move fun c => ?_⟩
      repeat' split
      · exact respond_move ..
      · exact respond_move ..
      · exact respond_move ..
      · exact (resync_move ..).responded
    | deliveryAutoClose =>
      refine ⟨_, rfl, ?_⟩
      repeat' split
      · exact closeDelivery_move ..
      · exact .refl s
      · exact .refl s
    | levelCheck => exact ⟨_, rfl, levelCheck_move s⟩
    | strayBurstEnd => exact ⟨_, rfl, .ite (FuelMove.table ⟨rfl, id⟩ rfl rfl rfl rfl) (.refl s)⟩
    | claimExpiry board serial => exact ⟨_, rfl, (claimExpiry_move ..).table⟩
    | pledgeDeadline board serial => exact ⟨_, rfl, (pledgeDeadline_move ..).table⟩
    | selectProfile tag profile =>
      refine ⟨_, rfl, gated_move ?_⟩
      have chosen (x : ProfileName) : TableMove s (s.withPlu { s.plu with active := x }) :=
        (pledgeMove_of_lower { s.plu with active := x } (.refl _) (.refl _) le_rfl rfl rfl rfl).table
      split
      · exact (chosen .a).responded
      · exact (chosen .b).responded
      · exact respond_move ..
    | commit tag =>
      refine ⟨_, rfl, gated_move ?_⟩
      split
      · exact respond_move ..
      · exact .ite (respond_move ..) (.ite (respond_move ..) (commitRecord_move ..).responded)
    | resetSoft tag => exact ⟨_, rfl, gated_move (softReset_move s).responded⟩
    | _ => simp [mayTouch] at fau

theorem tick_node (s : State) : SameNode s (tick s) := by
  unfold tick
  split <;> exact ⟨rfl, rfl⟩

/-- What a step does to the tables and the headroom. -/
theorem step_move (h : step s = .next t) : TableMove s t := by
  cases pending : s.pending with
  | nil =>
    rw [step, pending] at h
    obtain rfl := Host.Outcome.next.inj h
    have keeps := tick_keeps s
    obtain ⟨role, node⟩ := tick_node s
    exact tableMove_of_eq (by rw [keeps.setc (by decide)]) role node (by rw [keeps.fau (by decide)])
      (by rw [keeps.fau (by decide)]; exact id) (by rw [keeps.fpc (by decide)]) (keeps.plu (by decide))
  | cons c rest =>
    rw [step, pending] at h
    obtain ⟨u, hu, move⟩ := exec_move c (s.withPending rest)
    obtain rfl := Host.Outcome.next.inj (hu.symm.trans h)
    have begun : TableMove s (s.withPending rest) := tableMove_of_eq rfl rfl rfl rfl id rfl rfl
    exact begun.trans move fun ws _ => ws

/-- Settles O33. -/
theorem pledgeTablesKept : Obligations.PledgeTablesKept := fun _ _ ok h => (step_move h).ok ok

/-- Settles O32. -/
theorem headroomLaw : Obligations.HeadroomLaw := fun _ _ ok h =>
  have move := step_move h
  ⟨move.headroom ok, fun away => move.quiet (away.imp And.left And.left) (away.imp And.right And.right)⟩

end Sys2Proof.Machine
end

section
/-! The table of the board states (R110, R113): O43. -/

namespace Sys2Proof.Machine

open Sys2Proof.Claims

variable {s t u : State}

/-! ### The rows of the table -/

/-- The feeder that is active while a claim is collected and its old feeder opened (R110): the old one on a planned
move, none on any other. -/
def HoldsOld (c : ClaimRec) (active : Option Feeder) : Prop :=
  (c.origin = .changeover → active = some (otherFeeder c.target)) ∧ (c.origin ≠ .changeover → active = none)

/-- The row of a board state: its claim record and its active feeder (R110, R113). -/
def RowOk (state : BoardState) (claim : Option ClaimRec) (active : Option Feeder) : Prop :=
  match state with
  | .settled => claim = none ∧ active ≠ none
  | .dark | .isolated => claim = none ∧ active = none
  | .topupClaiming => (∃ c, claim = some c ∧ c.origin = .topup) ∧ active ≠ none
  | .claiming => ∃ c, claim = some c ∧ c.origin ≠ .topup ∧ HoldsOld c active
  | .opening => ∃ c, claim = some c ∧ c.confirmed ≠ none ∧ HoldsOld c active
  | .dead | .closing | .fallback => (∃ c, claim = some c ∧ c.confirmed ≠ none) ∧ active = none

/-- The board stands in a row of the table. -/
def InRow (c : Chs) : Prop := RowOk c.state c.claim c.active

theorem boardOk_iff : BoardOk s ↔ (OnBoard s → InRow s.chs) := by
  refine imp_congr_right fun _ => ?_
  unfold InRow RowOk HoldsOld
  cases s.chs.state <;> cases s.chs.claim <;> simp <;> tauto

/-! ### What the sequencer's parts make of its record -/

section

variable (s)

@[simp] theorem setBoard_chs (st : BoardState) :
    (setBoard st s).chs = { s.chs with state := st, topupTimer := none } := by simp [setBoard]

@[simp] theorem endClaim_chs (why : ReleaseReason) : (endClaim why s).chs = { s.chs with claim := none } := by
  unfold endClaim
  split
  · rename_i none
    rw [← none]
  · simp

@[simp] theorem failClaim_chs (why : ReleaseReason) (reason : FailReason) :
    (failClaim why reason s).chs = { s.chs with claim := none } := by
  unfold failClaim
  split
  · rename_i none
    rw [← none]
  · simp

/-- The record that a claim makes (R113). -/
def State.newClaim (s : State) (target : Feeder) (kind : ClaimKind) (cls : Nat) (origin : ClaimOrigin) (kw : Nat) :
    ClaimRec where
  serial := (s.chs.serial + 1) % 256
  target := target
  group := (s.chs.feeder target).group
  kind := kind
  cls := cls
  origin := origin
  requested := kw
  pledges := []
  confirmed := none
  deadline := s.now + collectionTime kind

@[simp] theorem makeClaim_chs (f : Feeder) (k : ClaimKind) (n : Nat) (o : ClaimOrigin) (kw : Nat) :
    (makeClaim f k n o kw s).chs =
      { s.chs with serial := (s.chs.serial + 1) % 256, claim := some (s.newClaim f k n o kw) } := by
  simp [makeClaim, State.newClaim]

@[simp] theorem buildConfirm_chs (c : ClaimRec) :
    (buildConfirm c s).chs = { s.chs with claim := some c.confirm } := by
  unfold buildConfirm
  dsimp only
  split <;> simp

@[simp] theorem enterDark_chs : (enterDark s).chs = { s.chs.clearReturns with
    state := .dark, active := none, billing := none, deadTimer := none, closeLimit := none, topupTimer := none } := by
  simp [enterDark]

@[simp] theorem enterIsolated_chs (cause : IsolateCause) : (enterIsolated cause s).chs =
    { s.chs.stopTimers with state := .isolated, active := none, billing := none } := by simp [enterIsolated]

@[simp] theorem enterDead_chs : (enterDead s).chs = { s.chs with
    state := .dead, active := none, openLimit := none, topupTimer := none
    deadTimer := some (s.now + s.cfg.deadTime * millisecond) } := by simp [enterDead]

@[simp] theorem pulseOpen_chs (f : Feeder) :
    (pulseOpen f s).chs = { s.chs with openLimit := some ⟨f, s.now + 500 * millisecond⟩ } := by
  cases f <;> rfl

@[simp] theorem pulseClose_chs (f : Feeder) :
    (pulseClose f s).chs = { s.chs with closeLimit := some (s.now + 500 * millisecond) } := by
  cases f <;> rfl

theorem setShed_row (c : Chs) (n : Nat) (v : Option Nat) :
    (c.setShed n v).state = c.state ∧ (c.setShed n v).claim = c.claim ∧ (c.setShed n v).active = c.active := by
  unfold Chs.setShed
  split <;> exact ⟨rfl, rfl, rfl⟩

theorem shedCapacity_row (c : ClaimRec) : (shedCapacity c s).chs.state = s.chs.state ∧
    (shedCapacity c s).chs.claim = s.chs.claim ∧ (shedCapacity c s).chs.active = s.chs.active := by
  have folded (l : List (Nat × Nat)) (x : Chs) : (l.foldl (fun x l => x.setShed l.1 (some l.2)) x).state = x.state ∧
      (l.foldl (fun x l => x.setShed l.1 (some l.2)) x).claim = x.claim ∧
      (l.foldl (fun x l => x.setShed l.1 (some l.2)) x).active = x.active := by
    induction l generalizing x with
    | nil => exact ⟨rfl, rfl, rfl⟩
    | cons e l ih => simpa [setShed_row] using ih (x.setShed e.1 (some e.2))
  unfold shedCapacity
  dsimp only
  repeat' split
  · simpa using folded _ _
  · simpa using folded _ _
  · exact ⟨rfl, rfl, rfl⟩

/-- The collection's end confirms the record and moves nothing else of the row (R117). -/
theorem collect_row (c : ClaimRec) : (collect c s).chs.state = s.chs.state ∧
    (collect c s).chs.claim = some c.confirm ∧ (collect c s).chs.active = s.chs.active := by
  simpa [collect] using shedCapacity_row (buildConfirm c s) c.confirm

theorem startTopup_row : (startTopup s).chs.state = s.chs.state ∧ (startTopup s).chs.claim = s.chs.claim ∧
    (startTopup s).chs.active = s.chs.active := by
  unfold startTopup
  split <;> exact ⟨rfl, rfl, rfl⟩

end

/-! ### Entries that end in a row whatever the claim was -/

theorem enterIsolated_inRow (cause : IsolateCause) (h : s.chs.claim = none) : InRow (enterIsolated cause s).chs := by
  simpa [InRow, RowOk, Chs.stopTimers] using h

theorem enterDark_inRow (h : s.chs.claim = none) : InRow (enterDark s).chs := by
  simpa [InRow, RowOk, Chs.clearReturns] using h

theorem enterDead_inRow {c : ClaimRec} (h : s.chs.claim = some c) (confirmed : c.confirmed ≠ none) :
    InRow (enterDead s).chs := by
  simpa [InRow, RowOk] using ⟨c, h, confirmed⟩

theorem welded_inRow (f : Feeder) (s : State) : InRow (welded f s).chs := by
  refine enterIsolated_inRow _ ?_
  split
  · split <;> simp
  · assumption

/-- A forced claim past its collection (R126). -/
theorem leaveForced_inRow {f : Feeder} {c : ClaimRec} (h : s.chs.claim = some c) (confirmed : c.confirmed ≠ none)
    (forced : c.origin ≠ .changeover) (active : s.chs.active = none) : InRow (leaveForced f s).chs := by
  unfold leaveForced
  dsimp only
  repeat' split
  · exact welded_inRow ..
  · simpa [InRow, RowOk, HoldsOld] using ⟨c, h, confirmed, fun o => absurd o forced, fun _ => active⟩
  · exact enterDead_inRow h confirmed

theorem confirm_confirmed (c : ClaimRec) : c.confirm.confirmed ≠ none := nofun

theorem forcedChangeover_inRow (f : Feeder) (h : s.chs.claim = none) : InRow (forcedChangeover f s).chs := by
  have made (x : State) (c : ClaimRec) (claim : x.chs.claim = some c) (loss : c.origin = .loss)
      (state : x.chs.state = .claiming) (active : x.chs.active = none) : InRow (forcedMade x).chs := by
    unfold forcedMade
    rw [claim]
    dsimp only
    split
    · obtain ⟨-, claim', active'⟩ := collect_row x c
      refine leaveForced_inRow claim' (confirm_confirmed c) ?_ (active'.trans active)
      simp [ClaimRec.confirm, loss]
    · rw [InRow, state]
      exact ⟨c, claim, by simp [loss], by simp [loss], fun _ => active⟩
  unfold forcedChangeover
  dsimp only
  split
  · exact made _ _ (by rw [setBoard_chs, makeClaim_chs]) rfl (by simp) (by simp)
  · exact enterDark_inRow (by simpa using h)

theorem enterSettled_inRow (f : Feeder) (b : Bool) (h : s.chs.claim = none) : InRow (enterSettled f b s).chs := by
  have entered (x : State) (claim : x.chs.claim = none) (settled : InRow x.chs) :
      InRow (if lossConfirmed f x then forcedChangeover f x else x).chs := by
    split
    · exact forcedChangeover_inRow f claim
    · exact settled
  refine entered _ ?_ ?_
  · simpa [startTopup_row, Chs.clearReturns] using h
  · simpa [InRow, RowOk, startTopup_row, Chs.clearReturns] using h

theorem closure_inRow (c : ClaimRec) (s : State) : InRow (closure c s).chs := enterSettled_inRow _ _ (by simp)

theorem fallbackDone_inRow (c : ClaimRec) (s : State) : InRow (fallbackDone c s).chs :=
  enterSettled_inRow _ _ (by simp)

theorem fallbackFailed_inRow (s : State) : InRow (fallbackFailed s).chs := enterIsolated_inRow _ (by simp)

theorem blockClose_inRow (s : State) : InRow (blockClose s).chs := enterIsolated_inRow _ (by simp)

theorem leaveTopup_inRow (c : ClaimRec) (s : State) : InRow (leaveTopup c s).chs := enterSettled_inRow _ _ (by simp)

theorem closedByHand_inRow (f : Feeder) (s : State) : InRow (closedByHand f s).chs :=
  enterSettled_inRow _ _ (by simp)

theorem uncommandedOpen_inRow (f : Feeder) (s : State) : InRow (uncommandedOpen f s).chs := by
  refine enterDark_inRow ?_
  split
  · split <;> simp
  · assumption

/-! ### Entries that keep a confirmed claim (R121 to R124) -/

section

variable {c d : ClaimRec}

theorem enterClosing_inRow (h : s.chs.claim = some d) (confirmed : d.confirmed ≠ none) (active : s.chs.active = none) :
    InRow (enterClosing c s).chs := by
  unfold enterClosing
  dsimp only
  repeat' split
  · exact blockClose_inRow _
  · exact closure_inRow ..
  · simpa [InRow, RowOk] using ⟨⟨d, h, confirmed⟩, active⟩

theorem enterFallback_inRow {r : FailReason} (h : s.chs.claim = some d) (confirmed : d.confirmed ≠ none)
    (active : s.chs.active = none) : InRow (enterFallback r c s).chs := by
  unfold enterFallback
  dsimp only
  repeat' split
  · exact blockClose_inRow _
  · exact fallbackDone_inRow ..
  · simpa [InRow, RowOk] using ⟨⟨d, h, confirmed⟩, active⟩
  · exact fallbackFailed_inRow _

theorem enterOpening_inRow (h : s.chs.claim = some d) (confirmed : d.confirmed ≠ none)
    (active : HoldsOld d s.chs.active) : InRow (enterOpening c s).chs := by
  unfold enterOpening
  dsimp only
  split
  · simpa [InRow, RowOk] using ⟨d, h, confirmed, active⟩
  · exact enterDead_inRow (by simpa using h) confirmed

theorem leaveReturn_inRow (h : s.chs.claim = some d) (confirmed : d.confirmed ≠ none) (active : s.chs.active = none) :
    InRow (leaveReturn c s).chs := by
  unfold leaveReturn
  split
  · exact enterClosing_inRow h confirmed active
  · exact enterDark_inRow (by simp)

/-- The end of a collection, of any origin (R117). -/
theorem confirmClaim_inRow (active : c.origin ≠ .topup → HoldsOld c s.chs.active) : InRow (confirmClaim c s).chs := by
  obtain ⟨-, claim, active'⟩ := collect_row s c
  have confirmed := confirm_confirmed c
  unfold confirmClaim
  dsimp only
  cases origin : c.origin <;> dsimp only
  · exact enterOpening_inRow claim confirmed (active' ▸ active (by simp [origin]))
  · exact leaveForced_inRow claim confirmed (by simp [ClaimRec.confirm, origin])
      (active'.trans ((active (by simp [origin])).2 (by simp [origin])))
  · exact leaveReturn_inRow claim confirmed (active'.trans ((active (by simp [origin])).2 (by simp [origin])))
  · exact leaveTopup_inRow ..

end

/-! ### Bulletins and notices (R112, R115 to R118, R120) -/

/-- A record changed in its pledges alone stands in the same row. -/
theorem InRow.of_pledges {c d : ClaimRec} (h : InRow s.chs) (held : s.chs.claim = some c) (origin : d.origin = c.origin)
    (target : d.target = c.target) (confirmed : d.confirmed = c.confirmed) :
    InRow { s.chs with claim := some d } := by
  unfold InRow RowOk HoldsOld at *
  rw [held] at h
  cases state : s.chs.state <;> simp_all

theorem namedClaim_spec {c : ClaimRec} {board serial : Nat} (h : namedClaim board serial s = some c) :
    s.boardWorks = true ∧ s.chs.claim = some c := by
  unfold namedClaim at h
  split at h
  · rename_i works
    obtain ⟨held, -⟩ := (Option.filter_eq_some_iff).mp h
    exact ⟨works.1, held⟩
  · cases h

theorem pledged_same {c d : ClaimRec} {node kw : Nat} (h : c.pledged node kw = some d) :
    d.origin = c.origin ∧ d.target = c.target ∧ d.confirmed = c.confirmed := by
  unfold ClaimRec.pledged at h
  split at h
  · cases h
    exact ⟨rfl, rfl, rfl⟩
  · split at h
    · cases h
      exact ⟨rfl, rfl, rfl⟩
    · cases h

/-- While pledges are collected the claim is one that a planned, forced or return move collects, or a top-up's. -/
theorem InRow.collecting {c : ClaimRec} (h : InRow s.chs) (held : s.chs.claim = some c) (open_ : c.confirmed = none) :
    s.chs.state = .claiming ∧ c.origin ≠ .topup ∧ HoldsOld c s.chs.active ∨
      s.chs.state = .topupClaiming ∧ c.origin = .topup ∧ s.chs.active ≠ none := by
  unfold InRow RowOk at h
  rw [held] at h
  cases state : s.chs.state <;> simp_all

theorem takePledge_inRow (node board serial kw : Nat) (h : InRow s.chs) :
    InRow (takePledge node board serial kw s).chs := by
  unfold takePledge
  dsimp only
  repeat' split
  · exact h
  · exact h
  · exact h
  all_goals
    rename_i c named open_ _ d pledged _
    obtain ⟨-, held⟩ := namedClaim_spec named
    obtain ⟨origin, target, confirmed⟩ := pledged_same pledged
  · refine confirmClaim_inRow fun notTopup => ?_
    rcases h.collecting held (by simpa using open_) with ⟨-, -, active⟩ | ⟨-, topup, -⟩
    · simpa [HoldsOld, origin, target] using active
    · exact absurd (origin.trans topup) notTopup
  · exact h.of_pledges held origin target confirmed

theorem takeRevoke_inRow (node board serial revoked remaining : Nat) (h : InRow s.chs) :
    InRow (takeRevoke node board serial revoked remaining s).chs := by
  unfold takeRevoke
  dsimp only
  repeat' split
  · exact h
  · simpa using h
  all_goals
    rename_i c named _ _
    exact h.of_pledges (namedClaim_spec named).2 rfl rfl rfl

theorem boardPeerGone_inRow (node : Nat) (h : InRow s.chs) : InRow (boardPeerGone node s).chs := by
  unfold boardPeerGone
  cases held : s.chs.claim with
  | none => simpa [InRow, held] using h
  | some c => exact h.of_pledges held rfl rfl rfl

theorem muteBoard_inRow (h : InRow s.chs) : InRow (muteBoard s).chs := by
  unfold muteBoard
  repeat' split
  · exact enterSettled_inRow _ _ (by simp)
  · exact h
  · exact h

theorem feedbackConflict_inRow (h : InRow s.chs) : InRow (feedbackConflict s).chs := by
  unfold feedbackConflict
  dsimp only
  split
  · simpa using h
  · exact enterIsolated_inRow _ (by simp)

theorem positionChange_inRow (f : Feeder) (level : Bool) (h : InRow s.chs) : InRow (positionChange f level s).chs := by
  have kept (c : Prop) [Decidable c] {t : State} (ht : InRow t.chs) : InRow (if c then t else s).chs := by
    split <;> assumption
  unfold positionChange
  split
  · exact h
  · split
    · exact feedbackConflict_inRow h
    · split
      · rename_i c _ state held
        rw [InRow, state] at h
        obtain ⟨d, held', confirmed, -⟩ := h
        exact kept _ (enterDead_inRow held' confirmed)
      · exact kept _ (closure_inRow ..)
      · exact kept _ (fallbackDone_inRow ..)
      · exact kept _ (uncommandedOpen_inRow ..)
      · exact kept _ (closedByHand_inRow ..)
      · exact kept _ (uncommandedOpen_inRow ..)
      · exact kept _ (uncommandedOpen_inRow ..)
      · exact closedByHand_inRow ..
      · exact h

/-! ### The ends of limits, losses and returns (R119 to R131) -/

theorem changeFeeder_row (f : Feeder) (g : FeederRec → FeederRec) (s : State) :
    (changeFeeder f g s).chs.state = s.chs.state ∧ (changeFeeder f g s).chs.claim = s.chs.claim ∧
      (changeFeeder f g s).chs.active = s.chs.active := by
  cases f <;> exact ⟨rfl, rfl, rfl⟩

theorem contactorTimeout_row (f : Feeder) (cause : ContactorCause) (s : State) :
    (contactorTimeout f cause s).chs.state = s.chs.state ∧ (contactorTimeout f cause s).chs.claim = s.chs.claim ∧
      (contactorTimeout f cause s).chs.active = s.chs.active := by
  simpa [contactorTimeout] using changeFeeder_row f _ s

/-- A change that leaves the row. -/
theorem InRow.of_row (h : InRow s.chs) (row : t.chs.state = s.chs.state ∧ t.chs.claim = s.chs.claim ∧
    t.chs.active = s.chs.active) : InRow t.chs := by
  obtain ⟨state, claim, active⟩ := row
  rwa [InRow, state, claim, active]

theorem sourceLost_inRow (f : Feeder) (h : InRow s.chs) : InRow (sourceLost f s).chs := by
  have kept (c : Prop) [Decidable c] {t : State} (ht : InRow t.chs) : InRow (if c then t else s).chs := by
    split <;> assumption
  unfold sourceLost
  split
  · rename_i state
    rw [InRow, state] at h
    exact kept _ (forcedChangeover_inRow f h.1)
  · exact kept _ (forcedChangeover_inRow f (by simp))
  · rename_i c state held
    dsimp only
    split
    · split
      · exact enterSettled_inRow _ _ (by simp)
      · exact enterDark_inRow (by simp)
    · refine kept _ ?_
      simp [convertClaim, InRow, RowOk, HoldsOld, state]
  · exact h

theorem openLimitPassed_inRow (f : Feeder) (h : InRow s.chs) : InRow (openLimitPassed f s).chs := by
  unfold openLimitPassed
  repeat' split
  · exact enterSettled_inRow _ _ (by simp)
  · exact welded_inRow ..
  · exact h
  · exact welded_inRow ..
  · exact welded_inRow ..
  · exact h

theorem closeFailed_inRow {c d : ClaimRec} (h : s.chs.claim = some d) (confirmed : d.confirmed ≠ none)
    (active : s.chs.active = none) : InRow (closeFailed c s).chs := by
  obtain ⟨-, claim', active'⟩ := contactorTimeout_row c.target .closeTimeout s
  unfold closeFailed
  dsimp only
  split
  · exact enterFallback_inRow (claim'.trans h) confirmed (active'.trans active)
  · exact enterDark_inRow (by simp)

theorem topUp_inRow (h : InRow s.chs) (settled : s.chs.state = .settled) : InRow (topUp s).chs := by
  rw [InRow, settled] at h
  obtain ⟨none, active⟩ := h
  unfold topUp
  repeat' split
  · simpa [InRow, RowOk, State.newClaim] using active
  · simpa [InRow, RowOk, settled] using ⟨none, active⟩
  · simpa [InRow, RowOk, settled] using ⟨none, active⟩

theorem beginReturn_inRow (f : Feeder) (h : InRow s.chs) (dark : s.chs.state = .dark) :
    InRow (beginReturn f s).chs := by
  rw [InRow, dark] at h
  obtain ⟨-, inactive⟩ := h
  have made (x : State) (c : ClaimRec) (held : x.chs.claim = some c) (origin : c.origin = .fromDark)
      (state : x.chs.state = .claiming) (active : x.chs.active = none) :
      InRow (match x.chs.claim with
        | some c => if x.hpt.nodeState = NodeState.mute then confirmClaim c x else x
        | none => x).chs := by
    have old : HoldsOld c x.chs.active := ⟨by simp [origin], fun _ => active⟩
    rw [held]
    dsimp only
    split
    · exact confirmClaim_inRow fun _ => old
    · rw [InRow, state]
      exact ⟨c, held, by simp [origin], old⟩
  exact made _ _ (by rw [setBoard_chs, makeClaim_chs]) rfl (by simp) (by simpa [Chs.clearReturns] using inactive)

theorem restore_inRow (f : Feeder) (h : s.chs.claim = none) : InRow (restore f s).chs := by
  have dark : (enterDark (changeFeeder f (fun r => { r with faulty := false }) s)).chs.claim = none := by
    simpa [Chs.clearReturns, changeFeeder_row] using h
  unfold restore
  dsimp only
  repeat' split
  · exact enterSettled_inRow _ _ dark
  · exact enterSettled_inRow _ _ dark
  · exact enterDark_inRow (by simpa [changeFeeder_row] using h)

theorem boardSample_row (s : State) : (boardSample s).chs.state = s.chs.state ∧
    (boardSample s).chs.claim = s.chs.claim ∧ (boardSample s).chs.active = s.chs.active := by
  unfold boardSample
  dsimp only
  repeat' split
  all_goals simp [changeFeeder_row]

theorem deriveBoard_inRow (c : ConfigRecord) (s : State) : InRow (deriveBoard c s).chs := by
  unfold deriveBoard
  dsimp only
  split
  · split <;> simp [InRow, RowOk, changeFeeder_row, startTopup_row]
  · split <;> simp [InRow, RowOk, changeFeeder_row, startTopup_row]
  · simp [InRow, RowOk]
  · exact enterIsolated_inRow _ (by simp)

/-! ### The commands -/

theorem enterMute_inRow (h : InRow s.chs) : InRow (enterMute s).chs := by
  unfold enterMute
  dsimp only
  split
  · exact muteBoard_inRow (by simpa using h)
  · simpa using h

theorem peerGone_inRow (node : Nat) (h : InRow s.chs) : InRow (peerGone node s).chs := by
  unfold peerGone
  split
  · simpa using h
  · split
    · exact boardPeerGone_inRow node h
    · exact h

theorem takeStatus_inRow (node : Nat) (b : StatusBody) (h : InRow s.chs) : InRow (takeStatus node b s).chs := by
  unfold takeStatus
  dsimp only
  repeat' split
  · simpa using h
  · simpa using h
  · simpa using h
  · simpa using peerGone_inRow node (by simpa using h)

theorem deliver_inRow (src : Nat) (b : Bulletin) (capture : List Byte) (h : InRow s.chs) :
    InRow (deliver src b capture s).chs := by
  have refreshed : InRow (refreshPeer src s).chs := by simpa using h
  unfold deliver deliverOther duplicateId
  split
  · split
    · split
      · exact enterMute_inRow (by simpa using h)
      · exact h
    · exact takeStatus_inRow _ _ h
  · split
    · exact refreshed
    · simpa using refreshed
    · split <;> simpa using refreshed
    · split <;> simpa using refreshed
    · split <;> simpa using refreshed
    · exact takePledge_inRow _ _ _ _ refreshed
    · exact takeRevoke_inRow _ _ _ _ _ refreshed

theorem frameReceived_inRow (rest : List Byte) (lineIdle : Bool) (h : InRow s.chs) :
    InRow (frameReceived rest lineIdle s).chs := by
  have ended : InRow (frameEnded lineIdle s).chs := by simpa using h
  unfold frameReceived
  dsimp only
  repeat' split
  · exact ended
  · simpa using ended
  · exact deliver_inRow _ _ _ ended
  · exact h
  · exact h

theorem losePeer_inRow (node : Nat) (h : InRow s.chs) : InRow (losePeer node s).chs :=
  peerGone_inRow node (by simpa using h)

theorem recomputePeer_inRow (node : Nat) (h : InRow s.chs) : InRow (recomputePeer node s).chs := by
  unfold recomputePeer
  dsimp only
  repeat' split
  · exact h
  · exact h
  · simpa using h
  · simpa using h
  · exact losePeer_inRow node h

theorem commitRecord_inRow {c : ConfigRecord} (made : t = commitRecord c s) (board : c.role = .board) :
    InRow t.chs := by
  have recomputed (l : List Nat) (s : State) (h : InRow s.chs) :
      InRow (l.foldl (fun s node => recomputePeer node s) s).chs := by
    induction l generalizing s with
    | nil => exact h
    | cons n l ih => exact ih _ (recomputePeer_inRow n h)
  simp only [made, commitRecord, peerCommit, State.withPvt_chs, offerStatus_frame]
  refine recomputed _ _ ?_
  simp only [State.withPvt_chs, State.withHpt_chs, eventCommit_frame, billingCommit_frame, filterCommit_frame,
    boardCommit, board]
  exact deriveBoard_inRow c _

theorem SameNode.onBoard (h : SameNode s t) : OnBoard t ↔ OnBoard s := by
  rw [OnBoard, OnBoard, h.1, h.2]

theorem gated_inRow {role : Option Role} {states : List NodeState} {tag : Byte} {act : State → State}
    (h : InRow s.chs) (taken : InRow (act s).chs) : InRow (gated role states tag act s).chs :=
  gated_cases (P := (InRow ·.chs)) h taken

theorem endPoll_inRow (h : InRow s.chs) : InRow (endPoll s).chs := by
  have sampled : InRow (boardSample (groupCheck false (pledgeSample (fuelSample (s.withFpc
      { s.fpc with window := none }))))).chs := by
    refine InRow.of_row ?_ (boardSample_row _)
    simpa using h
  simpa [endPoll, deliverSample] using sampled

theorem takeAnswer_inRow (bytes : List Byte) (h : InRow s.chs) : InRow (takeAnswer bytes s).chs := by
  refine endPoll_inRow ?_
  split <;> simpa using h

theorem claimDue_spec {c : ClaimRec} (h : claimDue s = some c) :
    s.chs.claim = some c ∧ c.confirmed = none ∧ c.deadline ≤ s.now := by
  unfold claimDue at h
  split at h
  · obtain ⟨held, due⟩ := (Option.filter_eq_some_iff).mp h
    simp only [Bool.and_eq_true, Option.isNone_iff_eq_none, decide_eq_true_eq] at due
    exact ⟨held, due⟩
  · cases h

/-- A command keeps the board in the table, whatever gives the node its role and state apart. -/
theorem exec_inRow (c : Instr) (same : changesNode c = false) (h : InRow s.chs) :
    ∃ t, exec c s = .next t ∧ InRow t.chs := by
  by_cases touches : Part.chs ∈ mayTouch c
  case neg =>
    obtain ⟨t, ht, keeps⟩ := exec_frame c s
    exact ⟨t, ht, keeps.chs touches ▸ h⟩
  case pos =>
    have kept (c : Prop) [Decidable c] {t : State} (ht : InRow t.chs) : InRow (if c then t else s).chs := by
      split <;> assumption
    cases c with
    | peerLost node =>
      refine ⟨_, rfl, ?_⟩
      unfold peerLost
      split
      · exact kept _ (losePeer_inRow node h)
      · exact h
    | filteredLevelChange line =>
      refine ⟨_, rfl, ?_⟩
      unfold filteredChange levelEvent
      dsimp only
      refine kept _ ?_
      split
      · exact positionChange_inRow _ _ h
      · exact positionChange_inRow _ _ h
      all_goals split <;> simpa using h
    | frontEndAnswer bytes ended =>
      refine ⟨_, rfl, ?_⟩
      unfold readyRises
      dsimp only
      repeat' split
      · exact h
      · exact h
      · exact takeAnswer_inRow _ h
      · exact h
    | answerClockedIn bytes =>
      refine ⟨_, rfl, ?_⟩
      unfold clockedIn
      repeat' split
      · exact h
      · exact h
      · exact takeAnswer_inRow _ h
    | answerWindowClose =>
      refine ⟨_, rfl, ?_⟩
      unfold closeWindow
      repeat' split
      · exact h
      · exact h
      · exact endPoll_inRow (by simpa using h)
      · exact endPoll_inRow (by simpa using h)
    | changeover tag cls =>
      refine ⟨_, rfl, gated_inRow h ?_⟩
      repeat' split
      · exact h
      · exact h
      · rename_i f may
        unfold mayChange at may
        split at may
        · rename_i g settled active
          split at may
          · cases may
            cases g <;> simp [InRow, RowOk, HoldsOld, State.newClaim, active, otherFeeder]
          · cases may
        · cases may
    | cancelChangeover tag =>
      refine ⟨_, rfl, gated_inRow h ?_⟩
      repeat' split
      · simpa using enterSettled_inRow _ _ (by simp)
      · exact h
      · exact h
    | restore tag feeder =>
      refine ⟨_, rfl, gated_inRow h ?_⟩
      repeat' split
      · exact h
      · rename_i f _ isolated
        rw [InRow, isolated.1] at h
        simpa using restore_inRow f h.1
      · exact h
    | clearFeeder tag feeder =>
      refine ⟨_, rfl, gated_inRow h ?_⟩
      repeat' split
      · exact h
      · simpa using h.of_row (changeFeeder_row ..)
      · exact h
    | claimDeadline =>
      refine ⟨_, rfl, ?_⟩
      split
      · exact h
      · rename_i c due
        obtain ⟨held, open_, -⟩ := claimDue_spec due
        split
        · exact enterSettled_inRow _ _ (by simp)
        · exact enterSettled_inRow _ _ (by simp)
        all_goals
          refine confirmClaim_inRow fun notTopup => ?_
          rcases h.collecting held open_ with ⟨-, -, active⟩ | ⟨-, topup, -⟩
          · exact active
          · exact absurd topup notTopup
    | sourceLossConfirmed feeder =>
      exact ⟨_, rfl, kept _ (sourceLost_inRow feeder (h.of_row (changeFeeder_row ..)))⟩
    | openLimit =>
      refine ⟨_, rfl, ?_⟩
      split
      · exact h
      · dsimp only
        split
        · exact openLimitPassed_inRow _ h
        · exact h
    | deadTimeEnd =>
      refine ⟨_, rfl, kept _ ?_⟩
      dsimp only
      split
      · rename_i c state held
        have dead : s.chs.state = .dead := state
        have row := h
        rw [InRow, dead] at row
        obtain ⟨⟨d, held', confirmed⟩, active⟩ := row
        repeat' split
        · exact enterFallback_inRow held' confirmed active
        · exact enterFallback_inRow held' confirmed active
        · exact enterClosing_inRow held' confirmed active
      · exact h
    | closeLimit =>
      refine ⟨_, rfl, kept _ ?_⟩
      dsimp only
      split
      · rename_i c state held
        have closing : s.chs.state = .closing := state
        have row := h
        rw [InRow, closing] at row
        obtain ⟨⟨d, held', confirmed⟩, active⟩ := row
        exact closeFailed_inRow held' confirmed active
      · exact fallbackFailed_inRow _
      · exact h
    | topupTimer =>
      refine ⟨_, rfl, ?_⟩
      split
      · rename_i due
        exact topUp_inRow h (by simp at due; exact due.2)
      · exact h
    | returnConfirmed feeder =>
      refine ⟨_, rfl, ?_⟩
      split
      · rename_i due
        exact beginReturn_inRow feeder h (by simp [returnDue] at due; exact due.1.1.2)
      · exact h
    | _ => simp [mayTouch, changesNode] at touches same

/-! ### The commands that may give the node another role or state -/

theorem enterMute_hpt (s : State) : (enterMute s).hpt = { s.hpt with nodeState := .mute } := by
  unfold enterMute
  dsimp only
  split <;> simp

theorem softReset_nodeState (s : State) : (softReset s).hpt.nodeState = .config := by simp [softReset]

theorem enterMute_onBoard (h : OnBoard (enterMute s)) (running : s.hpt.nodeState = .run) : OnBoard s := by
  refine ⟨?_, by simp [running]⟩
  simpa [enterMute_hpt] using h.1

theorem deliver_onBoard {src : Nat} {b : Bulletin} {capture : List Byte} (h : OnBoard (deliver src b capture s)) :
    OnBoard s := by
  unfold deliver deliverOther duplicateId at h
  split at h
  · split at h
    · split at h
      · rename_i running
        have muted := enterMute_onBoard h (by simpa using running)
        simpa [OnBoard] using muted
      · exact h
    · simpa [OnBoard] using h
  · repeat' split at h
    all_goals simpa [OnBoard] using h

theorem frameReceived_onBoard {rest : List Byte} {idle : Bool} (h : OnBoard (frameReceived rest idle s)) :
    OnBoard s := by
  unfold frameReceived at h
  dsimp only at h
  repeat' split at h
  · simpa [OnBoard] using h
  · simpa [OnBoard] using h
  · simpa [OnBoard] using deliver_onBoard h
  · exact h
  · exact h

theorem commitRecord_role (c : ConfigRecord) (s : State) : (commitRecord c s).hpt.role = some c.role := by
  simp [commitRecord, identityCommit]

theorem commitRecord_answered_inRow {c : ConfigRecord} {tag : Byte} {body : List Byte} (made : t = commitRecord c s)
    (board : OnBoard (respond tag .ok body t)) : InRow (respond tag .ok body t).chs := by
  have role : c.role = .board := by simpa [OnBoard, respond, made, commitRecord_role] using board.1
  simpa using commitRecord_inRow made role

/-- Every command keeps the table of the board states. -/
theorem exec_boardOk (c : Instr) (h : BoardOk s) : ∃ t, exec c s = .next t ∧ BoardOk t := by
  rw [boardOk_iff] at h
  simp only [boardOk_iff]
  by_cases same : changesNode c = false
  case pos =>
    obtain ⟨t, ht, node⟩ := exec_node (s := s) c same
    refine ⟨t, ht, fun board => ?_⟩
    obtain ⟨t', ht', row⟩ := exec_inRow c same (h (node.onBoard.mp board))
    obtain rfl := Host.Outcome.next.inj (ht.symm.trans ht')
    exact row
  case neg =>
    cases c with
    | powerOnReset => exact ⟨_, rfl, fun board => nomatch board.1⟩
    | frameReceived rest idle =>
      exact ⟨_, rfl, fun board => frameReceived_inRow _ _ (h (frameReceived_onBoard board))⟩
    | commit tag =>
      refine ⟨_, rfl, gated_cases (P := fun t => OnBoard t → InRow t.chs) h ?_⟩
      repeat' split
      · exact h
      · exact h
      · exact h
      · rename_i c _ _ _
        dsimp only
        generalize made : commitRecord c s = t
        exact commitRecord_answered_inRow made.symm
    | resetSoft tag =>
      have config : ¬OnBoard (respond tag .ok [] (softReset s)) := by
        simp [OnBoard, respond, softReset_nodeState]
      exact ⟨_, rfl, gated_cases (P := fun t => OnBoard t → InRow t.chs) h fun board => absurd board config⟩
    | _ => simp [changesNode] at same

/-- Settles O43. -/
theorem boardStatesKept : Obligations.BoardStatesKept := by
  intro s t h ht
  refine step_keeps_of (P := BoardOk) (fun h => ?_) (fun c rest h => ?_) h ht
  · rw [boardOk_iff] at h ⊢
    intro board
    rw [(tick_keeps s).chs (by decide)]
    exact h ((tick_node s).onBoard.mp board)
  · exact exec_boardOk (s := s.withPending rest) c h

end Sys2Proof.Machine
end

section
/-! Channels, accounts and the relay rule (R151 to R154, R166), and the relay law: O50. -/

namespace Sys2Proof.Machine

open Sys2Proof.Claims

variable {s t u : State}

/-! ### Reading channels and accounts -/

theorem channel_of_mtr (h : t.mtr.channels = s.mtr.channels) (i : Nat) : t.channel i = s.channel i := by
  rw [State.channel, State.channel, h]

theorem account_of_bil (h : t.bil.accounts = s.bil.accounts) (i : Nat) : t.account i = s.account i := by
  rw [State.account, State.account, h]

theorem account_changeAccount (i : Nat) (f : Account → Account) (s : State) (j : Nat) :
    (changeAccount i f s).account j =
      if i = j ∧ j < s.bil.accounts.length then f (s.account j) else s.account j :=
  nth_adjust ..

theorem channel_changeChannel (i : Nat) (f : Channel → Channel) (s : State) (j : Nat) :
    (changeChannel i f s).channel j =
      if i = j ∧ j < s.mtr.channels.length then f (s.channel j) else s.channel j :=
  nth_adjust ..

theorem nth_map {α : Type} (d : α) (f : α → α) (l : List α) {i : Nat} (h : i < l.length) :
    nth d (l.map f) i = f (nth d l i) := by
  simp [nth, List.getD_eq_getElem?_getD, h]

/-- The channels replaced one by one. -/
theorem channel_mapped {f : Channel → Channel} (h : t.mtr.channels = s.mtr.channels.map f) {i : Nat}
    (hi : i < s.mtr.channels.length) : t.channel i = f (s.channel i) := by
  rw [State.channel, h, nth_map _ _ _ hi, State.channel]

theorem mem_channelsWhere {p : Channel → Bool} {i : Nat} :
    i ∈ channelsWhere p s ↔ i < 16 ∧ p (s.channel i) = true := by
  simp [channelsWhere]

/-! ### The relay rule (R153) -/

/-- A channel under the relay rule. -/
def Channel.ruled (c : Channel) : Channel := { c with shed := c.wantsShed }

theorem ruled_ruled (c : Channel) : c.ruled.ruled = c.ruled := rfl

theorem ruled_of_settled {c : Channel} (h : c.wantsShed = c.shed) : c.ruled = c := by
  rw [Channel.ruled, h]

theorem applyRelay_channel (i j : Nat) (s : State) :
    (applyRelay i s).channel j = if j = i then (s.channel j).ruled else s.channel j := by
  have outside (h : ¬j < s.mtr.channels.length) : s.channel j = .reset := by
    simp [State.channel, nth, List.getD_eq_getElem?_getD, List.getElem?_eq_none (Nat.le_of_not_lt h)]
  unfold applyRelay
  dsimp only
  split
  · rename_i settled
    split
    · rename_i own
      rw [own, ruled_of_settled settled]
    · rfl
  · rw [channel_of_mtr (s := changeChannel i (fun c => { c with shed := (s.channel i).wantsShed }) s) (by simp),
      channel_changeChannel]
    by_cases own : i = j
    · subst own
      by_cases inside : i < s.mtr.channels.length
      · simp [inside, Channel.ruled]
      · rw [if_neg (by simp [inside]), if_pos rfl, outside inside]
        rfl
    · rw [if_neg (by simp [own]), if_neg (Ne.symm own)]

theorem applyRelays_channel (l : List Nat) (j : Nat) (s : State) :
    (applyRelays l s).channel j = if j ∈ l then (s.channel j).ruled else s.channel j := by
  unfold applyRelays
  induction l generalizing s with
  | nil => rfl
  | cons i l ih =>
    rw [List.foldl_cons, ih, applyRelay_channel]
    by_cases own : j = i
    · simp [own, ruled_ruled]
    · simp [own]

/-- What the relay rule leaves of the metering unit: all but the channels. -/
theorem applyRelays_mtr (l : List Nat) (s : State) : (applyRelays l s).mtr =
    { s.mtr with channels := (applyRelays l s).mtr.channels } ∧
      (applyRelays l s).mtr.channels.length = s.mtr.channels.length := by
  unfold applyRelays
  induction l generalizing s with
  | nil => exact ⟨rfl, rfl⟩
  | cons i l ih =>
    have one : (applyRelay i s).mtr = { s.mtr with channels := (applyRelay i s).mtr.channels } ∧
        (applyRelay i s).mtr.channels.length = s.mtr.channels.length := by
      unfold applyRelay
      dsimp only
      split
      · exact ⟨rfl, rfl⟩
      · simp [changeChannel]
    obtain ⟨mtr, length⟩ := ih (applyRelay i s)
    rw [List.foldl_cons]
    refine ⟨?_, length.trans one.2⟩
    rw [mtr, one.1]

/-! ### The laws of the relays -/

/-- The laws of the relays but for the rule: every relay stands where its channel says. -/
structure RelaysSound (s : State) : Prop where
  channels : s.mtr.channels.length = 16
  relays : s.fpc.relays.length = 16
  accounts : s.bil.accounts.length = 64
  level : ∀ i, i < 16 → (s.channel i).level ≤ 3
  mirror : ∀ i, i < 16 → s.fpc.relays.getD i false = (s.channel i).shed
  credit : ∀ i, i < 16 → ((s.channel i).credit = true ↔
    ∃ a u, (s.channel i).mapping = some (a, u) ∧ (s.account a).state = .over)
  mapped : ∀ i a u, i < 16 → (s.channel i).mapping = some (a, u) → a < 64
  capacity : ∀ i, i < 16 → (s.channel i).capacity = s.mtr.levels.get (s.channel i).level

theorem relaysOk_iff : RelaysOk s ↔ RelaysSound s ∧ ∀ i, i < 16 → (s.channel i).shed = (s.channel i).wantsShed := by
  constructor
  · intro h
    exact ⟨⟨h.channels, h.relays, h.accounts, h.level, fun i hi => (h.shed i hi).2, h.credit, h.mapped, h.capacity⟩,
      fun i hi => (h.shed i hi).1⟩
  · intro ⟨h, ruled⟩
    exact ⟨h.channels, h.relays, h.accounts, h.level, fun i hi => ⟨ruled i hi, h.mirror i hi⟩, h.credit, h.mapped,
      h.capacity⟩

/-- The relay rule on one channel keeps every relay where its channel says. -/
theorem applyRelay_sound (i : Nat) (h : RelaysSound s) : RelaysSound (applyRelay i s) := by
  have channel (j : Nat) := applyRelay_channel i j s
  have bil : (applyRelay i s).bil = s.bil := by simp
  have mtr : (applyRelay i s).mtr.levels = s.mtr.levels ∧ (applyRelay i s).mtr.channels.length = 16 := by
    unfold applyRelay
    dsimp only
    split
    · exact ⟨rfl, h.channels⟩
    · simp [changeChannel, h.channels]
  have relay : (applyRelay i s).fpc.relays.length = 16 ∧ ∀ j, j < 16 →
      (applyRelay i s).fpc.relays.getD j false = if j = i then (s.channel j).wantsShed else (s.channel j).shed := by
    unfold applyRelay
    dsimp only
    split
    · rename_i settled
      refine ⟨h.relays, fun j hj => ?_⟩
      rw [h.mirror j hj]
      split
      · rename_i own
        rw [own, settled]
      · rfl
    · refine ⟨by simp [h.relays], fun j hj => ?_⟩
      have at_j := nth_adjust false (fun _ => (s.channel i).wantsShed) i j s.fpc.relays
      have mirror := h.mirror j hj
      rw [nth, nth] at at_j
      simp only [State.withFpc_fpc, postEvent_frame, State.withMtr_fpc, changeChannel, at_j, h.relays, hj, and_true,
        mirror]
      by_cases own : i = j
      · simp [own]
      · simp [own, Ne.symm own]
  obtain ⟨relays, relayed⟩ := relay
  have account (a : Nat) : (applyRelay i s).account a = s.account a := account_of_bil (by rw [bil]) a
  refine ⟨mtr.2, relays, bil ▸ h.accounts, fun j hj => ?_, fun j hj => ?_, fun j hj => ?_, fun j a u hj => ?_,
    fun j hj => ?_⟩
  · rw [channel]
    split <;> exact h.level j hj
  · rw [relayed j hj, channel]
    split <;> rfl
  · rw [channel]
    have credit := h.credit j hj
    simp only [account]
    split <;> exact credit
  · rw [channel]
    have mapped := h.mapped j a u hj
    split <;> exact mapped
  · rw [channel, mtr.1]
    split <;> exact h.capacity j hj

theorem applyRelays_sound (l : List Nat) (h : RelaysSound s) : RelaysSound (applyRelays l s) := by
  unfold applyRelays
  induction l generalizing s with
  | nil => exact h
  | cons i l ih => exact ih (applyRelay_sound i h)

/-- After a change of channels the rule on those it concerns makes the laws whole. -/
theorem applyRelays_relaysOk {l : List Nat} (h : RelaysSound s)
    (others : ∀ i, i < 16 → i ∉ l → (s.channel i).shed = (s.channel i).wantsShed) : RelaysOk (applyRelays l s) := by
  refine relaysOk_iff.mpr ⟨applyRelays_sound l h, fun i hi => ?_⟩
  rw [applyRelays_channel]
  split
  · rfl
  · rename_i other
    exact others i hi other

/-! ### Changes that the laws do not see -/

/-- A channel but for what it has drawn. -/
def Channel.face (c : Channel) : Channel := { c with power := 0, energy := 0 }

theorem face_fields {c d : Channel} (h : c.face = d.face) : c.mapping = d.mapping ∧ c.level = d.level ∧
    c.credit = d.credit ∧ c.capacity = d.capacity ∧ c.shed = d.shed ∧ c.wantsShed = d.wantsShed := by
  obtain ⟨mapping, level, credit, capacity, host, shed⟩ : c.mapping = d.mapping ∧ c.level = d.level ∧
      c.credit = d.credit ∧ c.capacity = d.capacity ∧ c.host = d.host ∧ c.shed = d.shed := by
    simpa [Channel.face] using h
  exact ⟨mapping, level, credit, capacity, shed, by simp only [Channel.wantsShed, level, credit, capacity, host]⟩

/-- Nothing that the laws of the relays speak of has changed. -/
structure Unmoved (s t : State) : Prop where
  channels : t.mtr.channels.length = s.mtr.channels.length
  relays : t.fpc.relays = s.fpc.relays
  accounts : t.bil.accounts.length = s.bil.accounts.length
  levels : t.mtr.levels = s.mtr.levels
  face : ∀ i, i < 16 → (t.channel i).face = (s.channel i).face
  isOver : ∀ i a u, i < 16 → (s.channel i).mapping = some (a, u) →
    ((t.account a).state = .over ↔ (s.account a).state = .over)

theorem Unmoved.refl (s : State) : Unmoved s s := ⟨rfl, rfl, rfl, rfl, fun _ _ => rfl, fun _ _ _ _ _ => .rfl⟩

theorem Unmoved.trans (h : Unmoved s t) (k : Unmoved t u) : Unmoved s u where
  channels := k.channels.trans h.channels
  relays := k.relays.trans h.relays
  accounts := k.accounts.trans h.accounts
  levels := k.levels.trans h.levels
  face i hi := (k.face i hi).trans (h.face i hi)
  isOver i a v hi mapped := by
    have same := (face_fields (h.face i hi)).1
    exact (k.isOver i a v hi (same.trans mapped)).trans (h.isOver i a v hi mapped)

theorem RelaysSound.unmoved (h : RelaysSound s) (k : Unmoved s t) : RelaysSound t := by
  refine ⟨k.channels.trans h.channels, k.relays ▸ h.relays, k.accounts.trans h.accounts, fun i hi => ?_, fun i hi => ?_,
    fun i hi => ?_, fun i a u hi => ?_, fun i hi => ?_⟩
  all_goals obtain ⟨mapping, level, credit, capacity, shed, -⟩ := face_fields (k.face i hi)
  · exact level ▸ h.level i hi
  · rw [k.relays, h.mirror i hi, shed]
  · rw [credit, h.credit i hi, mapping]
    exact exists_congr fun a => exists_congr fun u => and_congr_right fun mapped => (k.isOver i a u hi mapped).symm
  · rw [mapping]
    exact h.mapped i a u hi
  · rw [capacity, level, k.levels, h.capacity i hi]

theorem relaysOk_unmoved (h : RelaysOk s) (k : Unmoved s t) : RelaysOk t := by
  obtain ⟨sound, ruled⟩ := relaysOk_iff.mp h
  refine relaysOk_iff.mpr ⟨sound.unmoved k, fun i hi => ?_⟩
  obtain ⟨-, -, -, -, shed, wants⟩ := face_fields (k.face i hi)
  rw [shed, wants, ruled i hi]

theorem Unmoved.of_eq (channels : t.mtr.channels = s.mtr.channels) (levels : t.mtr.levels = s.mtr.levels)
    (relays : t.fpc.relays = s.fpc.relays) (accounts : t.bil.accounts = s.bil.accounts) : Unmoved s t where
  channels := by rw [channels]
  relays := relays
  accounts := by rw [accounts]
  levels := levels
  face i _ := by rw [channel_of_mtr channels]
  isOver _ a _ _ _ := by rw [account_of_bil accounts]

/-! ### Capacity requests (R154) -/

theorem levels_get_put {l : LevelSet} {n m : Nat} {v : Bool} (hn : 1 ≤ n ∧ n ≤ 3) :
    (l.put n v).get m = if m = n then v else l.get m := by
  obtain ⟨low, high⟩ := hn
  interval_cases n <;> (unfold LevelSet.put LevelSet.get; split <;> simp_all)

theorem levels_get_foldl {l : LevelSet} {ns : List Nat} {m : Nat} {v : Bool} (hns : ∀ n ∈ ns, 1 ≤ n ∧ n ≤ 3) :
    (ns.foldl (fun l n => l.put n v) l).get m = if m ∈ ns then v else l.get m := by
  induction ns generalizing l with
  | nil => rfl
  | cons n ns ih =>
    rw [List.foldl_cons, ih fun k hk => hns k (List.mem_cons_of_mem n hk), levels_get_put (hns n List.mem_cons_self)]
    by_cases hm : m ∈ ns
    · simp [hm]
    · simp [hm]

theorem capacityRequest_relaysOk {v : Bool} {l : List Nat} (levels : ∀ n ∈ l, 1 ≤ n ∧ n ≤ 3) (h : RelaysOk s) :
    RelaysOk (capacityRequest v l s) := by
  obtain ⟨sound, ruled⟩ := relaysOk_iff.mp h
  have asked : ∀ n ∈ l.filter (fun n => s.mtr.levels.get n != v), 1 ≤ n ∧ n ≤ 3 :=
    fun n hn => levels n (List.mem_of_mem_filter hn)
  unfold capacityRequest
  dsimp only
  generalize l.filter (fun n => s.mtr.levels.get n != v) = ns at asked ⊢
  generalize made : s.withMtr _ = x
  have channel (i : Nat) (hi : i < 16) : x.channel i =
      if ns.contains (s.channel i).level then { s.channel i with capacity := v } else s.channel i :=
    channel_mapped (f := fun c => if ns.contains c.level then { c with capacity := v } else c)
      (by rw [← made]; rfl) (sound.channels ▸ hi)
  have account (a : Nat) : x.account a = s.account a := account_of_bil (by rw [← made]; rfl) a
  have relays : x.fpc.relays = s.fpc.relays := by rw [← made]; rfl
  refine applyRelays_relaysOk ?_ fun i hi other => ?_
  · refine ⟨?_, relays ▸ sound.relays, ?_, fun i hi => ?_, fun i hi => ?_, fun i hi => ?_, fun i a u hi => ?_,
      fun i hi => ?_⟩
    · simpa [← made] using sound.channels
    · simpa [← made] using sound.accounts
    · rw [channel i hi]
      split <;> exact sound.level i hi
    · rw [relays, sound.mirror i hi, channel i hi]
      split <;> rfl
    · have credit := sound.credit i hi
      rw [channel i hi]
      simp only [account]
      split <;> exact credit
    · have mapped := sound.mapped i a u hi
      rw [channel i hi]
      split <;> exact mapped
    · have get : x.mtr.levels = ns.foldl (fun l n => l.put n v) s.mtr.levels := by rw [← made]; rfl
      rw [get, levels_get_foldl asked, channel i hi]
      by_cases graded : (s.channel i).level ∈ ns
      · simp [graded]
      · simp [graded, sound.capacity i hi]
  · have out : (s.channel i).level ∉ ns := by simpa [mem_channelsWhere, hi] using other
    rw [channel i hi]
    simpa [out] using ruled i hi

theorem clearAllCapacity_relaysOk (h : RelaysOk s) : RelaysOk (clearAllCapacity s) := by
  obtain ⟨sound, ruled⟩ := relaysOk_iff.mp h
  unfold clearAllCapacity
  split
  · exact h
  · generalize made : s.withMtr _ = x
    have channel (i : Nat) (hi : i < 16) : x.channel i = { s.channel i with capacity := false } :=
      channel_mapped (f := fun c => { c with capacity := false }) (by rw [← made]; rfl) (sound.channels ▸ hi)
    have account (a : Nat) : x.account a = s.account a := account_of_bil (by rw [← made]; rfl) a
    have relays : x.fpc.relays = s.fpc.relays := by rw [← made]; rfl
    refine applyRelays_relaysOk ?_ fun i hi other => absurd (List.mem_range.mpr hi) other
    refine ⟨?_, relays ▸ sound.relays, ?_, fun i hi => ?_, fun i hi => ?_, fun i hi => ?_, fun i a u hi => ?_,
      fun i hi => ?_⟩
    · simpa [← made] using sound.channels
    · simpa [← made] using sound.accounts
    · rw [channel i hi]
      exact sound.level i hi
    · rw [relays, sound.mirror i hi, channel i hi]
    · rw [channel i hi]
      simp only [account]
      exact sound.credit i hi
    · rw [channel i hi]
      exact sound.mapped i a u hi
    · rw [channel i hi, ← made]
      simp only [State.withMtr_mtr, LevelSet.get]
      split <;> rfl

/-! ### The credit tests (R166) -/

/-- An account that has become OVER. -/
def Account.overed (a : Account) : Account := { a with state := .over }

/-- A channel with CREDIT set where its account is one of the slots. -/
def Channel.credited (slots : List Nat) (c : Channel) : Channel :=
  if slots.any fun i => c.pointsAt i then { c with credit := true } else c

theorem becomeOver_account (i : Nat) (s : State) (a : Nat) : (becomeOver i s).account a =
    if i = a ∧ a < s.bil.accounts.length then (s.account a).overed else s.account a := by
  have same : (becomeOver i s).account a = (changeAccount i Account.overed s).account a :=
    account_of_bil (by simp [becomeOver]; rfl) a
  rw [same, account_changeAccount]

theorem becomeOver_fold_account (l : List Nat) (s : State) (a : Nat) :
    (l.foldl (fun s i => becomeOver i s) s).account a =
      if a ∈ l ∧ a < s.bil.accounts.length then (s.account a).overed else s.account a := by
  induction l generalizing s with
  | nil => simp
  | cons i l ih =>
    have length : (becomeOver i s).bil.accounts.length = s.bil.accounts.length := by simp [becomeOver, changeAccount]
    rw [List.foldl_cons, ih, length, becomeOver_account]
    by_cases inside : a < s.bil.accounts.length
    · by_cases own : i = a
      · subst own
        simp only [inside, and_true, reduceIte, List.mem_cons, true_or]
        split <;> rfl
      · simp [own, Ne.symm own, inside]
    · simp [inside]

theorem pointsAt_credited (l : List Nat) (c : Channel) (i : Nat) : (c.credited l).pointsAt i = c.pointsAt i := by
  unfold Channel.credited
  split <;> rfl

theorem credited_credited (i : Nat) (l : List Nat) (c : Channel) :
    (c.credited [i]).credited l = c.credited (i :: l) := by
  have rest : (c.credited [i]).credited l = if l.any fun j => c.pointsAt j then { c.credited [i] with credit := true }
      else c.credited [i] := by
    rw [Channel.credited]
    simp only [pointsAt_credited]
  rw [rest]
  by_cases own : c.pointsAt i = true <;> by_cases later : (l.any fun j => c.pointsAt j) = true <;>
    simp [Channel.credited, own, later]

theorem becomeOver_fold_mtr (l : List Nat) (s : State) : (l.foldl (fun s i => becomeOver i s) s).mtr =
    { s.mtr with channels := s.mtr.channels.map (Channel.credited l) } := by
  induction l generalizing s with
  | nil =>
    have same : Channel.credited [] = id := funext fun c => rfl
    rw [same, List.map_id]
    rfl
  | cons i l ih =>
    have one : (becomeOver i s).mtr = { s.mtr with channels := s.mtr.channels.map (Channel.credited [i]) } := by
      simp [becomeOver, Channel.credited]
    rw [List.foldl_cons, ih, one]
    simp only [List.map_map, Function.comp_def, credited_credited]

theorem becomeOver_fold_accounts (l : List Nat) (s : State) :
    (l.foldl (fun s i => becomeOver i s) s).bil.accounts.length = s.bil.accounts.length := by
  induction l generalizing s with
  | nil => rfl
  | cons i l ih => rw [List.foldl_cons, ih]; simp [becomeOver, changeAccount]

theorem pointsAt_iff {c : Channel} {i : Nat} : c.pointsAt i = true ↔ ∃ u, c.mapping = some (i, u) := by
  unfold Channel.pointsAt
  split
  · rename_i a u mapping
    simp [mapping]
  · rename_i mapping
    simp [mapping]

/-- The slots that the credit tests find newly above their limit. -/
def newlyOver (slots : List Nat) (s : State) : List Nat :=
  slots.filter fun i => decide ((s.account i).state = .opened) && (s.account i).exceeds

theorem creditTests_relaysOk {slots : List Nat} (h : RelaysOk s) : RelaysOk (creditTests slots s) := by
  obtain ⟨sound, ruled⟩ := relaysOk_iff.mp h
  change RelaysOk (applyRelays (channelsWhere (fun c => (newlyOver slots s).any fun i => c.pointsAt i) s)
    ((newlyOver slots s).foldl (fun s i => becomeOver i s) s))
  generalize newlyOver slots s = l
  have account (a : Nat) (ha : a < 64) := becomeOver_fold_account l s a
  have mtr := becomeOver_fold_mtr l s
  have fpc := becomeOver_fold_fpc s l
  have accounts := becomeOver_fold_accounts l s
  generalize l.foldl (fun s i => becomeOver i s) s = x at account mtr fpc accounts
  have channel (i : Nat) (hi : i < 16) : x.channel i = (s.channel i).credited l :=
    channel_mapped (by rw [mtr]) (sound.channels ▸ hi)
  refine applyRelays_relaysOk ?_ fun i hi other => ?_
  · refine ⟨by simpa [mtr] using sound.channels, fpc ▸ sound.relays, accounts.trans sound.accounts, fun i hi => ?_,
      fun i hi => ?_, fun i hi => ?_, fun i a u hi => ?_, fun i hi => ?_⟩
    all_goals rw [channel i hi]
    · unfold Channel.credited
      split <;> exact sound.level i hi
    · rw [fpc, sound.mirror i hi]
      unfold Channel.credited
      split <;> rfl
    · have mapping : ((s.channel i).credited l).mapping = (s.channel i).mapping := by
        unfold Channel.credited
        split <;> rfl
      rw [mapping]
      by_cases points : (l.any fun j => (s.channel i).pointsAt j) = true
      · obtain ⟨a, member, pointing⟩ := List.any_eq_true.mp points
        obtain ⟨u, mapped⟩ := pointsAt_iff.mp pointing
        have inside := sound.mapped i a u hi mapped
        have isOver : (x.account a).state = .over := by
          rw [account a inside, if_pos ⟨member, sound.accounts ▸ inside⟩]
          rfl
        simpa [Channel.credited, points] using ⟨a, ⟨u, mapped⟩, isOver⟩
      · rw [Channel.credited, if_neg points, sound.credit i hi]
        refine exists_congr fun a => exists_congr fun u => and_congr_right fun mapped => ?_
        have out : a ∉ l := fun member => points (List.any_eq_true.mpr ⟨a, member, pointsAt_iff.mpr ⟨u, mapped⟩⟩)
        rw [account a (sound.mapped i a u hi mapped), if_neg fun ⟨member, _⟩ => out member]
    · have mapped := sound.mapped i a u hi
      unfold Channel.credited
      split <;> exact mapped
    · have capacity := sound.capacity i hi
      have levels : x.mtr.levels = s.mtr.levels := by rw [mtr]
      rw [levels]
      unfold Channel.credited
      split <;> exact capacity
  · have out : ¬(l.any fun j => (s.channel i).pointsAt j) = true := fun points =>
      other (mem_channelsWhere.mpr ⟨hi, points⟩)
    rw [channel i hi, Channel.credited, if_neg out]
    exact ruled i hi

/-! ### Charging (R158, R161) -/

/-- An account changed, but OVER or not as it was. -/
theorem changeAccount_unmoved_of {i : Nat} {f : Account → Account}
    (h : (f (s.account i)).state = .over ↔ (s.account i).state = .over) : Unmoved s (changeAccount i f s) where
  channels := rfl
  relays := rfl
  accounts := by simp [changeAccount]
  levels := rfl
  face _ _ := rfl
  isOver j a u _ _ := by
    rw [account_changeAccount]
    split
    · rename_i own
      exact own.1 ▸ h
    · rfl

/-- An account changed in anything but its state. -/
theorem changeAccount_unmoved (i : Nat) {f : Account → Account} (state : ∀ a, (f a).state = a.state) (s : State) :
    Unmoved s (changeAccount i f s) := changeAccount_unmoved_of (by rw [state])

/-- A channel changed in what it has drawn. -/
theorem changeChannel_unmoved (i : Nat) {f : Channel → Channel} (face : ∀ c, (f c).face = c.face) (s : State) :
    Unmoved s (changeChannel i f s) where
  channels := by simp [changeChannel]
  relays := rfl
  accounts := rfl
  levels := rfl
  face j _ := by
    rw [channel_changeChannel]
    split
    · exact face _
    · rfl
  isOver _ _ _ _ _ := Iff.rfl

theorem price_state (n : Nat) (a : Account) : (a.price n).state = a.state := rfl

theorem meter_state (e : Nat) (r : Rate) (b : Bool) (a : Account) : (a.meter e r b).state = a.state := rfl

theorem requestResolve_unmoved (n key : Nat) (s : State) : Unmoved s (requestResolve n key s) :=
  .of_eq (by simp [requestResolve]) (by simp [requestResolve]) (by simp) (by simp)

theorem priceEnergy_unmoved (a n e : Nat) (r : Rate) (s : State) : Unmoved s (priceEnergy a n e r s) := by
  unfold priceEnergy
  split
  · exact changeAccount_unmoved a (fun x => price_state _ x) s
  · dsimp only
    split
    · exact Unmoved.trans (t := addPending a n e r s) (.of_eq rfl rfl rfl rfl) (requestResolve_unmoved ..)
    · exact .of_eq rfl rfl rfl rfl
  · exact .refl s

theorem chargeChannel_unmoved (r : Rate) (i : Nat) (s : State) : Unmoved s (chargeChannel r i s) := by
  have drawn := changeChannel_unmoved i (f := fun c => { c with
    power := nth 0 s.fpc.sample.powers i, energy := add64 c.energy (nth 0 s.fpc.sample.energies i) }) (fun _ => rfl) s
  unfold chargeChannel
  dsimp only
  split
  · exact drawn
  · split
    · exact (drawn.trans (changeAccount_unmoved _ (fun _ => meter_state ..) _)).trans (priceEnergy_unmoved ..)
    · exact drawn.trans (changeAccount_unmoved _ (fun _ => meter_state ..) _)

theorem foldl_unmoved {α : Type} {f : State → α → State} (hf : ∀ s a, Unmoved s (f s a)) (l : List α) (s : State) :
    Unmoved s (l.foldl f s) := by
  induction l generalizing s with
  | nil => exact .refl s
  | cons a l ih => exact (hf s a).trans (ih _)

theorem formGroupCis_unmoved (s : State) : Unmoved s (formGroupCis s) := by
  unfold formGroupCis
  split
  · exact .refl s
  · refine foldl_unmoved (fun s g => ?_) _ s
    unfold formGroupCi
    split
    · exact .of_eq rfl rfl rfl rfl
    · exact .refl s

theorem chargeSample_relaysOk (h : RelaysOk s) : RelaysOk (chargeSample s) :=
  creditTests_relaysOk (relaysOk_unmoved h ((formGroupCis_unmoved s).trans (foldl_unmoved (fun s i => chargeChannel_unmoved _ i s)
    _ _)))

theorem resolveKey_relaysOk {k a b : Nat} (h : RelaysOk s) : RelaysOk (resolveKey k a b s) := by
  refine creditTests_relaysOk (relaysOk_unmoved h (Unmoved.trans ?_ (foldl_unmoved (fun s p => ?_) _ _)))
  · exact .of_eq rfl rfl rfl rfl
  · exact changeAccount_unmoved _ (fun _ => by rfl) s

/-! ### The set's and the sequencer's work, and laws that it carries along -/

section

variable (s)

@[simp] theorem enterSet_relays (st : SetState) (c : Option SetCause) (b : Bool) :
    (enterSet st c b s).fpc.relays = s.fpc.relays := by simp

@[simp] theorem enterSyncing_relays (b : Bool) : (enterSyncing b s).fpc.relays = s.fpc.relays := by
  unfold enterSyncing enterOnline
  dsimp only
  split <;> simp

@[simp] theorem enterWarming_relays : (enterWarming s).fpc.relays = s.fpc.relays := by
  unfold enterWarming
  dsimp only
  split <;> simp

@[simp] theorem enterCranking_relays : (enterCranking s).fpc.relays = s.fpc.relays := by
  unfold enterCranking
  dsimp only
  split <;> simp

@[simp] theorem enterUnloading_relays : (enterUnloading s).fpc.relays = s.fpc.relays := by
  unfold enterUnloading
  dsimp only
  split <;> simp

@[simp] theorem announceIntent_relays (k : IntentKind) : (announceIntent k s).fpc.relays = s.fpc.relays := by
  simp [announceIntent]

@[simp] theorem groupCheck_relays (b : Bool) : (groupCheck b s).fpc.relays = s.fpc.relays := by
  unfold groupCheck checkStopped checkOnline
  dsimp only
  repeat' split
  all_goals simp

@[simp] theorem takeIntent_relays (n g : Nat) (k : IntentKind) (key : Nat) :
    (takeIntent n g k key s).fpc.relays = s.fpc.relays := by
  unfold takeIntent enterStopped enterOnline
  repeat' split
  all_goals simp

@[simp] theorem takeClaim_relays (c : ClaimId) (g : Nat) (k : ClaimKind) (n m : Nat) :
    (takeClaim c g k n m s).fpc.relays = s.fpc.relays := by
  unfold takeClaim
  split <;> simp

@[simp] theorem runningChange_relays (b : Bool) : (runningChange b s).fpc.relays = s.fpc.relays := by
  unfold runningChange enterFaulted
  repeat' split
  all_goals simp

@[simp] theorem breakerChange_relays (b : Bool) : (breakerChange b s).fpc.relays = s.fpc.relays := by
  unfold breakerChange enterOnline
  split <;> simp

@[simp] theorem setFaultChange_relays (b : Bool) : (setFaultChange b s).fpc.relays = s.fpc.relays := by
  unfold setFaultChange enterFaulted
  split <;> simp

@[simp] theorem crankFailed_relays : (crankFailed s).fpc.relays = s.fpc.relays := by
  unfold crankFailed enterFaulted
  dsimp only
  split <;> simp [askLines]

@[simp] theorem changeMode_relays (m : RunMode) : (changeMode m s).fpc.relays = s.fpc.relays := by
  unfold changeMode enterStopped enterOnline
  dsimp only
  repeat' split
  all_goals simp

@[simp] theorem runOn_relays (tag : Byte) : (runOn tag s).fpc.relays = s.fpc.relays := by
  unfold runOn
  split <;> simp

@[simp] theorem runOff_relays (tag : Byte) : (runOff tag s).fpc.relays = s.fpc.relays := by
  unfold runOff enterStopped
  repeat' split
  all_goals simp

@[simp] theorem setCommit_relays (c : ConfigRecord) : (setCommit c s).fpc.relays = s.fpc.relays := by
  unfold setCommit enterFaulted enterOnline enterStopped
  dsimp only
  repeat' split
  all_goals simp [askLines]

@[simp] theorem askPulse_relays (f : Feeder) (l : PulseLine) : (askPulse f l s).fpc.relays = s.fpc.relays := by
  cases f <;> rfl

end

/-- A law of the metering unit, the relays and the accounts that every work without a hand in them leaves, and that
the sequencer's capacity requests and the charging of a sample keep. -/
structure Carried (P : State → Prop) : Prop where
  frame : ∀ {s t : State}, P s → t.mtr = s.mtr → t.fpc.relays = s.fpc.relays → t.bil = s.bil → P t
  request : ∀ {s : State} {v : Bool} {l : List Nat}, (∀ n ∈ l, 1 ≤ n ∧ n ≤ 3) → P s → P (capacityRequest v l s)
  charge : ∀ {s : State}, P s → P (chargeSample s)

theorem relaysOk_carried : Carried RelaysOk where
  frame h mtr relays bil := relaysOk_unmoved h (.of_eq (by rw [mtr]) (by rw [mtr]) relays (by rw [bil]))
  request := capacityRequest_relaysOk
  charge := chargeSample_relaysOk

theorem shedWalk_levels (n : Nat) (ls : List Nat) (f : Int) : ∀ l ∈ (shedWalk n s ls f).1.map (·.1), l ∈ ls := by
  induction ls generalizing f with
  | nil => simp [shedWalk]
  | cons x xs ih =>
    intro l hl
    unfold shedWalk at hl
    split at hl
    · simp at hl
    · split at hl
      · exact List.mem_cons_of_mem x (ih _ l hl)
      · rcases List.mem_cons.mp hl with rfl | hl
        · exact List.mem_cons_self
        · exact List.mem_cons_of_mem x (ih _ l hl)

theorem lowestShed_level {c : Chs} {n p : Nat} (h : c.lowestShed = some (n, p)) : 1 ≤ n ∧ n ≤ 3 := by
  unfold Chs.lowestShed at h
  split at h <;> simp_all <;> omega

section

variable {P : State → Prop} (hP : Carried P) {c : ClaimRec}

include hP

theorem shedCapacity_carried (h : P s) : P (shedCapacity c s) := by
  unfold shedCapacity
  dsimp only
  split
  · refine hP.request (fun n hn => ?_) ?_
    · have member := shedWalk_levels _ _ _ n hn
      simp only [List.mem_cons, List.not_mem_nil, or_false] at member
      omega
    · split
      · exact hP.frame h rfl rfl rfl
      · exact hP.frame h (by simp) (by simp) (by simp)
  · exact h

theorem collect_carried (h : P s) : P (collect c s) := by
  refine shedCapacity_carried hP (hP.frame h ?_ ?_ ?_)
  all_goals
    unfold buildConfirm
    dsimp only
    split <;> simp

theorem leaveForced_carried {f : Feeder} (h : P s) : P (leaveForced f s) :=
  hP.frame h (by simp) (by simp) (by simp)

theorem forcedChangeover_carried {f : Feeder} (h : P s) : P (forcedChangeover f s) := by
  have made (x : State) (h : P x) : P (forcedMade x) := by
    unfold forcedMade
    repeat' split
    · exact leaveForced_carried hP (collect_carried hP h)
    · exact h
    · exact h
  unfold forcedChangeover pulseOpen
  dsimp only
  split
  · exact made _ (hP.frame h (by simp) (by simp) (by simp))
  · exact hP.frame h (by simp) (by simp) (by simp)

theorem enterSettled_carried {f : Feeder} {b : Bool} (h : P s) : P (enterSettled f b s) := by
  have entered (x : State) (h : P x) : P (if lossConfirmed f x then forcedChangeover f x else x) := by
    split
    · exact forcedChangeover_carried hP h
    · exact h
  exact entered _ (hP.frame h (by simp) (by simp) (by simp))

theorem closure_carried (h : P s) : P (closure c s) :=
  enterSettled_carried hP (hP.frame h (by simp) (by simp) (by simp))

theorem fallbackDone_carried (h : P s) : P (fallbackDone c s) :=
  enterSettled_carried hP (hP.frame h (by simp) (by simp) (by simp))

theorem pulseClose_carried {f : Feeder} (h : P s) : P (pulseClose f s) :=
  hP.frame h (by simp) (by simp [pulseClose]) (by simp)

theorem blockClose_carried (h : P s) : P (blockClose s) := hP.frame h (by simp) (by simp) (by simp)

theorem enterClosing_carried (h : P s) : P (enterClosing c s) := by
  have closing : P (setBoard .closing (s.withChs { s.chs with deadTimer := none })) :=
    hP.frame h (by simp) (by simp) (by simp)
  unfold enterClosing
  dsimp only
  repeat' split
  · exact blockClose_carried hP closing
  · exact closure_carried hP (pulseClose_carried hP closing)
  · exact pulseClose_carried hP closing

theorem fallbackFailed_carried (h : P s) : P (fallbackFailed s) :=
  hP.frame h (by simp [fallbackFailed]) (by simp [fallbackFailed]) (by simp [fallbackFailed])

theorem enterFallback_carried {r : FailReason} (h : P s) : P (enterFallback r c s) := by
  have fallback (x : Chs) : P (setBoard .fallback (s.withChs x)) := hP.frame h (by simp) (by simp) (by simp)
  unfold enterFallback
  dsimp only
  repeat' split
  · exact blockClose_carried hP (fallback _)
  · exact fallbackDone_carried hP (pulseClose_carried hP (fallback _))
  · exact pulseClose_carried hP (fallback _)
  · exact fallbackFailed_carried hP (fallback _)

theorem enterOpening_carried (h : P s) : P (enterOpening c s) := by
  unfold enterOpening pulseOpen
  dsimp only
  split
  · exact hP.frame h (by simp) (by simp) (by simp)
  · exact hP.frame h (by simp) (by simp) (by simp)

theorem leaveReturn_carried (h : P s) : P (leaveReturn c s) := by
  unfold leaveReturn
  split
  · exact enterClosing_carried hP h
  · exact hP.frame h (by simp) (by simp) (by simp)

theorem leaveTopup_carried (h : P s) : P (leaveTopup c s) := by
  unfold leaveTopup
  dsimp only
  refine enterSettled_carried hP ?_
  split
  · rename_i n p lowest
    have asked : P (capacityRequest false [n] (s.withChs (s.chs.setShed n none))) :=
      hP.request (by simpa using lowestShed_level lowest) (hP.frame h rfl rfl rfl)
    exact hP.frame asked (by simp) (by simp) (by simp)
  · exact hP.frame h (by simp) (by simp) (by simp)

theorem confirmClaim_carried (h : P s) : P (confirmClaim c s) := by
  have collected : P (collect c s) := collect_carried hP h
  unfold confirmClaim
  dsimp only
  split
  · exact enterOpening_carried hP collected
  · exact leaveForced_carried hP collected
  · exact leaveReturn_carried hP collected
  · exact leaveTopup_carried hP collected

theorem takePledge_carried {a b d e : Nat} (h : P s) : P (takePledge a b d e s) := by
  unfold takePledge
  dsimp only
  repeat' split
  · exact h
  · exact h
  · exact h
  · exact confirmClaim_carried hP (hP.frame h rfl rfl rfl)
  · exact hP.frame h rfl rfl rfl

theorem muteBoard_carried (h : P s) : P (muteBoard s) := by
  unfold muteBoard
  repeat' split
  · exact enterSettled_carried hP (hP.frame h (by simp) (by simp) (by simp))
  · exact h
  · exact h

theorem closedByHand_carried {f : Feeder} (h : P s) : P (closedByHand f s) :=
  enterSettled_carried hP (hP.frame h (by simp) (by simp) (by simp))

theorem positionChange_carried {f : Feeder} {level : Bool} (h : P s) : P (positionChange f level s) := by
  have opened : P (uncommandedOpen f s) := hP.frame h (by simp) (by simp) (by simp)
  have dead : P (enterDead s) := hP.frame h (by simp) (by simp) (by simp)
  unfold positionChange
  repeat' split
  · exact h
  · exact hP.frame h (by simp) (by simp) (by simp)
  · exact dead
  · exact h
  · exact closure_carried hP h
  · exact h
  · exact fallbackDone_carried hP h
  · exact h
  · exact opened
  · exact h
  · exact closedByHand_carried hP h
  · exact h
  · exact opened
  · exact h
  · exact opened
  · exact h
  · exact closedByHand_carried hP h
  · exact h

theorem sourceLost_carried {f : Feeder} (h : P s) : P (sourceLost f s) := by
  unfold sourceLost convertClaim pulseOpen
  dsimp only
  repeat' split
  · exact forcedChangeover_carried hP h
  · exact h
  · exact forcedChangeover_carried hP (hP.frame h (by simp) (by simp) (by simp))
  · exact h
  · exact enterSettled_carried hP (hP.frame h (by simp) (by simp) (by simp))
  · exact hP.frame h (by simp) (by simp) (by simp)
  · exact hP.frame h (by simp) (by simp) (by simp)
  · exact h
  · exact h

theorem openLimitPassed_carried {f : Feeder} (h : P s) : P (openLimitPassed f s) := by
  have welded : P (welded f s) := hP.frame h (by simp) (by simp) (by simp)
  unfold openLimitPassed
  repeat' split
  · exact enterSettled_carried hP (hP.frame h (by simp) (by simp) (by simp))
  · exact welded
  · exact h
  · exact welded
  · exact welded
  · exact h

theorem closeFailed_carried (h : P s) : P (closeFailed c s) := by
  unfold closeFailed
  dsimp only
  split
  · exact enterFallback_carried hP (hP.frame h (by simp) (by simp) (by simp))
  · exact hP.frame h (by simp) (by simp) (by simp)

theorem beginReturn_carried {f : Feeder} (h : P s) : P (beginReturn f s) := by
  unfold beginReturn
  dsimp only
  repeat' split
  · exact confirmClaim_carried hP (hP.frame h (by simp) (by simp) (by simp))
  · exact hP.frame h (by simp) (by simp) (by simp)
  · exact hP.frame h (by simp) (by simp) (by simp)

theorem restore_carried {f : Feeder} (h : P s) : P (restore f s) := by
  unfold restore
  dsimp only
  repeat' split
  · exact enterSettled_carried hP (hP.frame h (by simp) (by simp) (by simp))
  · exact enterSettled_carried hP (hP.frame h (by simp) (by simp) (by simp))
  · exact hP.frame h (by simp) (by simp) (by simp)

theorem enterMute_carried (h : P s) : P (enterMute s) := by
  unfold enterMute
  dsimp only
  split
  · exact muteBoard_carried hP (hP.frame h (by simp) (by simp) (by simp))
  · exact hP.frame h (by simp) (by simp) (by simp)

theorem deliver_carried {src : Nat} {b : Bulletin} {capture : List Byte} (h : P s) : P (deliver src b capture s) := by
  have refreshed : P (refreshPeer src s) := hP.frame h (by simp) (by simp) (by simp)
  unfold deliver deliverOther duplicateId
  repeat' split
  · exact enterMute_carried hP (hP.frame h (by simp) (by simp) (by simp))
  · exact h
  · exact hP.frame h (by simp) (by simp) (by simp)
  · exact refreshed
  · exact hP.frame refreshed (by simp) (by simp) (by simp)
  · exact hP.frame refreshed (by simp) (by simp) (by simp)
  · exact refreshed
  · exact hP.frame refreshed (by simp) (by simp) (by simp)
  · exact refreshed
  · exact hP.frame refreshed (by simp) (by simp) (by simp)
  · exact refreshed
  · exact takePledge_carried hP refreshed
  · exact hP.frame refreshed (by simp) (by simp) (by simp)

theorem frameReceived_carried {rest : List Byte} {idle : Bool} (h : P s) : P (frameReceived rest idle s) := by
  have ended : P (frameEnded idle s) := hP.frame h (by simp) (by simp) (by simp)
  unfold frameReceived
  dsimp only
  repeat' split
  · exact ended
  · exact hP.frame ended (by simp) (by simp) (by simp)
  · exact deliver_carried hP ended
  · exact h
  · exact h

theorem levelEvent_carried {line : FieldLine} {level : Bool} (h : P s) : P (levelEvent line level s) := by
  unfold levelEvent
  split
  · exact positionChange_carried hP h
  · exact positionChange_carried hP h
  all_goals
    split
    · exact hP.frame h (by simp) (by simp) (by simp)
    · exact h

theorem filteredChange_carried {line : FieldLine} (h : P s) : P (filteredChange line s) := by
  unfold filteredChange
  dsimp only
  split
  · exact levelEvent_carried hP (hP.frame h rfl (by cases line <;> rfl) rfl)
  · exact h

theorem endPoll_carried (h : P s) : P (endPoll s) := by
  unfold endPoll deliverSample
  refine hP.charge (hP.frame (s := fuelSample (s.withFpc { s.fpc with window := none })) ?_ ?_ ?_ ?_)
  · exact hP.frame h (by simp) (by simp) (by simp)
  all_goals simp

theorem miss_carried {k : FaultKind} {bytes : List Byte} (h : P s) : P (miss k bytes s) := by
  refine hP.frame h (by simp) ?_ (by simp)
  unfold miss
  dsimp only
  repeat' split
  all_goals simp [Fpc.silent, Fpc.estimated]

theorem takeAnswer_carried {bytes : List Byte} (h : P s) : P (takeAnswer bytes s) := by
  refine endPoll_carried hP ?_
  split
  · refine hP.frame h (by simp) ?_ (by simp)
    unfold goodAnswer
    dsimp only
    split <;> simp [Fpc.goodAnswer]
  · exact miss_carried hP h

omit hP in
/-- The commands with a hand in the metering unit or the accounts. -/
def meters : Instr → Bool
  | .setChannel _ _ _ _ _ _ | .shedHost _ _ _ | .defineTariff _ _ _ _ _ _ | .resolveTariff _ _ _ _
  | .resolveRequestTimer _ | .accountOpen _ _ _ | .setLimit _ _ _ | .accountClose _ _ | .intervalBoundary
  | .ackBilling _ _ | .commit _ | .setTime _ _ | .siteTimeWrap | .powerOnReset => true
  | _ => false

theorem gated_carried {role : Option Role} {states : List NodeState} {tag : Byte} {act : State → State} (h : P s)
    (taken : P (act s)) : P (gated role states tag act s) :=
  gated_cases (hP.frame h (by simp) (by simp) (by simp)) taken

/-- Every other command carries the law along. -/
theorem exec_carried (i : Instr) (other : meters i = false) (h : P s) : ∃ t, exec i s = .next t ∧ P t := by
  by_cases touches : Part.fpc ∈ mayTouch i
  case neg =>
    obtain ⟨t, ht, keeps⟩ := exec_frame i s
    by_cases ports : Part.mtr ∈ mayTouch i ∨ Part.bil ∈ mayTouch i
    · cases i <;> first | (simp [mayTouch] at ports touches; done) | exact nomatch other
    · obtain ⟨mtr, bil⟩ := not_or.mp ports
      exact ⟨t, ht, hP.frame h (keeps.mtr mtr) (by rw [keeps.fpc touches]) (keeps.bil bil)⟩
  case pos =>
    have kept (c : Prop) [Decidable c] {t : State} (ht : P t) : P (if c then t else s) := by split <;> assumption
    have set {t : State} (mtr : t.mtr = s.mtr) (relays : t.fpc.relays = s.fpc.relays) (bil : t.bil = s.bil) : P t :=
      hP.frame h mtr relays bil
    have responded {t : State} {tag : Byte} {st : Status} {body : List Byte} (ht : P t) : P (respond tag st body t) :=
      hP.frame ht rfl rfl rfl
    cases i with
    | frameReceived rest idle => exact ⟨_, rfl, frameReceived_carried hP h⟩
    | filteredLevelChange line => exact ⟨_, rfl, filteredChange_carried hP h⟩
    | intentWindowEnd =>
      refine ⟨_, rfl, ?_⟩
      repeat' split
      · exact set (by simp) (by simp) (by simp)
      · exact set (by simp) (by simp) (by simp)
      · exact h
    | crankLimit => exact ⟨_, rfl, kept _ (set (by simp) (by simp) (by simp))⟩
    | restTimeEnd => exact ⟨_, rfl, kept _ (set (by simp) (by simp) (by simp))⟩
    | warmUpEnd => exact ⟨_, rfl, kept _ (set (by simp) (by simp) (by simp))⟩
    | syncLimit => exact ⟨_, rfl, kept _ (set (by simp) (by simp [enterFaulted]) (by simp))⟩
    | unloadLimit => exact ⟨_, rfl, kept _ (set (by simp) (by simp [enterFaulted]) (by simp))⟩
    | coolDownEnd => exact ⟨_, rfl, kept _ (set (by simp) (by simp [enterStopped]) (by simp))⟩
    | setMode tag mode =>
      refine ⟨_, rfl, gated_carried hP h ?_⟩
      split
      all_goals exact set (by simp) (by simp) (by simp)
    | setRun tag run =>
      refine ⟨_, rfl, gated_carried hP h ?_⟩
      repeat' split
      all_goals exact set (by simp) (by simp) (by simp)
    | clearSet tag =>
      refine ⟨_, rfl, gated_carried hP h ?_⟩
      split
      all_goals exact set (by simp) (by simp [enterStopped]) (by simp)
    | poll => exact ⟨_, rfl, by split <;> [exact h; exact set rfl rfl rfl]⟩
    | rawLevelChange line level => exact ⟨_, rfl, set rfl (by cases line <;> rfl) rfl⟩
    | pulseEnd feeder => exact ⟨_, rfl, kept _ (set rfl (by cases feeder <;> rfl) rfl)⟩
    | flowPulse lowUs highUs =>
      refine ⟨_, rfl, kept _ (set (by simp) ?_ (by simp))⟩
      unfold countPulse
      dsimp only
      split <;> simp
    | frontEndAnswer bytes ended =>
      refine ⟨_, rfl, ?_⟩
      unfold readyRises
      dsimp only
      repeat' split
      · exact h
      · exact h
      · exact takeAnswer_carried hP h
      · exact set rfl rfl rfl
    | answerClockedIn bytes =>
      refine ⟨_, rfl, ?_⟩
      unfold clockedIn
      repeat' split
      · exact h
      · exact h
      · exact takeAnswer_carried hP h
    | answerWindowClose =>
      refine ⟨_, rfl, ?_⟩
      unfold closeWindow
      repeat' split
      · exact h
      · exact h
      · exact endPoll_carried hP (miss_carried hP h)
      · exact endPoll_carried hP (miss_carried hP h)
    | cancelChangeover tag =>
      refine ⟨_, rfl, gated_carried hP h ?_⟩
      repeat' split
      · have settled (f : Feeder) : P (enterSettled f false (failClaim .aborted .cancelled s)) :=
          enterSettled_carried hP (set (by simp) (by simp) (by simp))
        exact responded (settled _)
      · exact set rfl rfl rfl
      · exact set rfl rfl rfl
    | restore tag feeder =>
      refine ⟨_, rfl, gated_carried hP h ?_⟩
      repeat' split
      · exact set rfl rfl rfl
      · exact responded (restore_carried hP h)
      · exact set rfl rfl rfl
    | claimDeadline =>
      refine ⟨_, rfl, ?_⟩
      repeat' split
      · exact h
      · exact enterSettled_carried hP (set (by simp) (by simp) (by simp))
      · exact enterSettled_carried hP (set (by simp) (by simp) (by simp))
      · exact confirmClaim_carried hP h
      · exact confirmClaim_carried hP h
    | sourceLossConfirmed feeder =>
      exact ⟨_, rfl, kept _ (sourceLost_carried hP (set (by simp) (by simp) (by simp)))⟩
    | openLimit =>
      refine ⟨_, rfl, ?_⟩
      dsimp only
      repeat' split
      · exact h
      · exact openLimitPassed_carried hP (set rfl rfl rfl)
      · exact set rfl rfl rfl
    | deadTimeEnd =>
      refine ⟨_, rfl, kept _ ?_⟩
      have ended (x : Chs) : P (s.withChs x) := set rfl rfl rfl
      dsimp only
      repeat' split
      · exact enterFallback_carried hP (ended _)
      · exact enterFallback_carried hP (ended _)
      · exact enterClosing_carried hP (ended _)
      · exact ended _
    | closeLimit =>
      refine ⟨_, rfl, kept _ ?_⟩
      have ended (x : Chs) : P (s.withChs x) := set rfl rfl rfl
      dsimp only
      split
      · exact closeFailed_carried hP (ended _)
      · exact fallbackFailed_carried hP (set (by simp) (by simp) (by simp))
      · exact ended _
    | topupTimer =>
      refine ⟨_, rfl, kept _ ?_⟩
      unfold topUp
      repeat' split
      all_goals exact set (by simp) (by simp) (by simp)
    | returnConfirmed feeder => exact ⟨_, rfl, kept _ (beginReturn_carried hP h)⟩
    | _ => first | (simp [mayTouch] at touches; done) | exact nomatch other

end

/-! ### Productions and closes leave who is OVER (R175 to R178) -/

theorem produced_over (a : Account) : a.produced.state = .over ↔ a.state = .over := by
  unfold Account.produced
  split
  · rename_i ends
    have closing : a.state = .closing := by
      simp only [Account.endsNow, Bool.and_eq_true, decide_eq_true_eq] at ends
      exact ends.1.1
    simp [closing, Account.reset]
  · rfl

theorem produce_unmoved (i : Nat) (b : Bool) (n : Nat) (s : State) : Unmoved s (produce i b n s) :=
  (changeAccount_unmoved_of (produced_over _)).trans (.of_eq rfl rfl rfl rfl)

theorem serveClosing_unmoved (i : Nat) (b : Bool) (n k : Nat) (s : State) : Unmoved s (serveClosing i b n k s) := by
  induction k generalizing s with
  | zero => exact .refl s
  | succ k ih =>
    unfold serveClosing
    split
    · exact (produce_unmoved ..).trans (ih _)
    · exact .refl s

theorem carryAccount_unmoved (i : Nat) (s : State) : Unmoved s (carryAccount i s) := by
  have carried : Unmoved s (changeAccount i Account.carry s) := changeAccount_unmoved i (fun _ => by rfl) s
  unfold carryAccount reportLogFull
  dsimp only
  split
  · exact carried
  · exact carried.trans (.of_eq (by simp) (by simp) (by simp) (by simp))

theorem closeSlot_unmoved (b : Bool) (n i : Nat) (s : State) : Unmoved s (closeSlot b n i s) := by
  unfold closeSlot
  dsimp only
  repeat' split
  · exact .refl s
  · exact serveClosing_unmoved ..
  · exact produce_unmoved ..
  · exact carryAccount_unmoved ..
  · exact (changeAccount_unmoved i (fun _ => by rfl) s).trans (serveClosing_unmoved ..)

theorem Unmoved.withBil (h : Unmoved s t) {b : Bil} (accounts : b.accounts = t.bil.accounts) :
    Unmoved s (t.withBil b) := h.trans (.of_eq rfl rfl rfl accounts)

theorem closeInterval_unmoved (b : Bool) (n : Nat) (s : State) : Unmoved s (closeInterval b n s) := by
  have closed := foldl_unmoved (fun s i => closeSlot_unmoved b n i s) (List.range 64) s
  unfold closeInterval
  generalize (List.range 64).foldl (fun s i => closeSlot b n i s) s = x at closed ⊢
  exact closed.withBil rfl

theorem timeChange_unmoved (n : Nat) (s : State) : Unmoved s (timeChange n s) := by
  have closed := closeInterval_unmoved true s.siteSec s
  unfold timeChange
  generalize closeInterval true s.siteSec s = x at closed ⊢
  dsimp only
  split
  · exact (Unmoved.refl s).withBil rfl
  · exact closed.withBil rfl

theorem setSiteTime_unmoved (n : Nat) (d : Int) (s : State) : Unmoved s (setSiteTime n d s) := by
  have changed := timeChange_unmoved n s
  unfold setSiteTime
  dsimp only
  exact changed.trans (.of_eq (by simp) (by simp) (by simp) (by simp))

theorem intervalBoundary_unmoved (s : State) : Unmoved s (intervalBoundary s) := by
  have closed := closeInterval_unmoved false s.siteSec s
  unfold intervalBoundary
  generalize closeInterval false s.siteSec s = x at closed ⊢
  dsimp only
  split
  · exact .refl s
  · exact closed.withBil rfl

theorem ackBilling_unmoved (n : Nat) (s : State) : Unmoved s (ackBilling n s) := by
  have served (x : State) := foldl_unmoved (fun s i => serveClosing_unmoved i false s.siteSec 128 s) (List.range 64) x
  have dropped := (Unmoved.refl s).withBil
    (b := { s.bil with consumer := (s.bil.consumer + n) % 128, log := s.bil.log.drop n }) rfl
  have both := dropped.trans (served _)
  unfold ackBilling
  dsimp only
  generalize List.foldl _ _ (List.range 64) = x at both ⊢
  split
  · exact both.withBil rfl
  · exact both

theorem respond_unmoved (tag : Byte) (st : Status) (body : List Byte) (s : State) :
    Unmoved s (respond tag st body s) := .of_eq rfl rfl rfl rfl

/-! ### The metering and account commands -/

theorem slotOf_spec {id i : Nat} (h : s.slotOf id = some i) :
    i < 64 ∧ (s.account i).state ≠ .free ∧ (s.account i).id = id := by
  have inside := List.mem_range.mp (List.mem_of_find?_eq_some h)
  have holds := List.find?_some h
  simp only [Bool.and_eq_true, decide_eq_true_eq, beq_iff_eq] at holds
  exact ⟨inside, holds⟩

theorem freeSlot_spec {i : Nat} (h : s.freeSlot = some i) : i < 64 ∧ (s.account i).state = .free :=
  ⟨List.mem_range.mp (List.mem_of_find?_eq_some h), by simpa using List.find?_some h⟩

theorem closeAccount_unmoved {i : Nat} (unmapped : channelsWhere (Channel.pointsAt i) s = []) :
    Unmoved s (closeAccount i s).2 := by
  have closing : Unmoved s (changeAccount i (fun a => { a with state := .closing }) s) := by
    refine ⟨rfl, rfl, by simp [changeAccount], rfl, fun _ _ => rfl, fun j a u hj mapped => ?_⟩
    rw [account_changeAccount, if_neg]
    rintro ⟨rfl, -⟩
    have member := mem_channelsWhere.mpr ⟨hj, pointsAt_iff.mpr ⟨u, mapped⟩⟩
    rw [unmapped] at member
    exact absurd member List.not_mem_nil
  unfold closeAccount
  dsimp only
  split
  · exact closing.trans (serveClosing_unmoved ..)
  · exact closing.trans (carryAccount_unmoved ..)

theorem returnOpen_relaysOk {i : Nat} (hi : i < 64) (h : RelaysOk s) : RelaysOk (returnOpen i s) := by
  obtain ⟨sound, ruled⟩ := relaysOk_iff.mp h
  unfold returnOpen
  dsimp only
  have account (a : Nat) := account_changeAccount i (fun x => { x with state := .opened }) s a
  generalize opened : changeAccount i (fun a => { a with state := .opened }) s = y at account ⊢
  generalize made : y.withMtr _ = x
  have mtr : y.mtr = s.mtr := by rw [← opened]; rfl
  have channel (j : Nat) (hj : j < 16) : x.channel j =
      if (s.channel j).pointsAt i then { s.channel j with credit := false } else s.channel j :=
    channel_mapped (f := fun c => if c.pointsAt i then { c with credit := false } else c)
      (by rw [← made, ← mtr]; rfl) (sound.channels ▸ hj)
  have same (a : Nat) : x.account a = y.account a := account_of_bil (by rw [← made]; rfl) a
  have relays : x.fpc.relays = s.fpc.relays := by rw [← made, ← opened]; rfl
  refine applyRelays_relaysOk ?_ fun j hj other => ?_
  · refine ⟨by simp [← made, mtr, sound.channels], relays ▸ sound.relays, ?_, fun j hj => ?_, fun j hj => ?_,
      fun j hj => ?_, fun j a u hj => ?_, fun j hj => ?_⟩
    · simp [← made, ← opened, changeAccount, sound.accounts]
    all_goals rw [channel j hj]
    · split <;> exact sound.level j hj
    · rw [relays, sound.mirror j hj]
      split <;> rfl
    · have credit := sound.credit j hj
      have mapped := fun a u => sound.mapped j a u hj
      simp only [same, account]
      by_cases points : (s.channel j).pointsAt i = true
      · obtain ⟨v, mapping⟩ := pointsAt_iff.mp points
        simp [points, mapping, sound.accounts, hi]
      · rw [if_neg points, credit]
        refine exists_congr fun a => exists_congr fun u => and_congr_right fun mapping => ?_
        have other : i ≠ a := by
          rintro rfl
          exact points (pointsAt_iff.mpr ⟨u, mapping⟩)
        simp [other]
    · have mapped := sound.mapped j a u hj
      split <;> exact mapped
    · have levels : x.mtr.levels = s.mtr.levels := by rw [← made, ← mtr]; rfl
      have capacity := sound.capacity j hj
      rw [levels]
      split <;> exact capacity
  · have out : ¬(s.channel j).pointsAt i = true := fun points => other (mem_channelsWhere.mpr ⟨hj, points⟩)
    rw [channel j hj, if_neg out]
    exact ruled j hj

theorem changeLimit_relaysOk {i n : Nat} (hi : i < 64) (h : RelaysOk s) : RelaysOk (changeLimit i n s) := by
  have limited : RelaysOk (changeAccount i (fun a => { a with limit := n }) s) :=
    relaysOk_unmoved h (changeAccount_unmoved i (fun _ => by rfl) s)
  unfold changeLimit
  dsimp only
  repeat' split
  · exact limited
  · exact returnOpen_relaysOk hi limited
  · exact creditTests_relaysOk limited

/-! ### The channel and tariff commands -/

theorem leavePair_unmoved (i : Nat) (s : State) : Unmoved s (leavePair i s) := by
  unfold leavePair
  dsimp only
  repeat' split
  · exact .refl s
  · exact .of_eq rfl rfl rfl rfl
  · exact .refl s

theorem reservePending_unmoved (a n : Nat) (s : State) : Unmoved s (reservePending a n s) := by
  unfold reservePending
  split
  · exact .refl s
  · exact .of_eq rfl rfl rfl rfl

/-- One channel written, with its level, its CREDIT and its CAPACITY as the laws ask, and the relay rule on it. -/
theorem relayChanged_relaysOk {i : Nat} {f : Channel → Channel} (hi : i < 16) (h : RelaysOk s)
    (level : (f (s.channel i)).level ≤ 3) (shed : (f (s.channel i)).shed = (s.channel i).shed)
    (credit : (f (s.channel i)).credit = true ↔
      ∃ a u, (f (s.channel i)).mapping = some (a, u) ∧ (s.account a).state = .over)
    (mapped : ∀ a u, (f (s.channel i)).mapping = some (a, u) → a < 64)
    (capacity : (f (s.channel i)).capacity = s.mtr.levels.get (f (s.channel i)).level) :
    RelaysOk (applyRelay i (changeChannel i f s)) := by
  obtain ⟨sound, ruled⟩ := relaysOk_iff.mp h
  have channel (j : Nat) : (changeChannel i f s).channel j = if i = j then f (s.channel j) else s.channel j := by
    rw [channel_changeChannel, sound.channels]
    by_cases own : i = j
    · simp [own, own ▸ hi]
    · simp [own]
  have account (a : Nat) : (changeChannel i f s).account a = s.account a := rfl
  have written : RelaysSound (changeChannel i f s) := by
    refine ⟨by simp [changeChannel, sound.channels], sound.relays, sound.accounts, fun j hj => ?_, fun j hj => ?_,
      fun j hj => ?_, fun j a u hj => ?_, fun j hj => ?_⟩
    all_goals
      rw [channel]
      split
    · exact ‹i = j› ▸ level
    · exact sound.level j hj
    · exact (sound.mirror j hj).trans (‹i = j› ▸ shed.symm)
    · exact sound.mirror j hj
    · exact ‹i = j› ▸ credit
    · exact sound.credit j hj
    · exact ‹i = j› ▸ mapped a u
    · exact sound.mapped j a u hj
    · exact ‹i = j› ▸ capacity
    · exact sound.capacity j hj
  refine applyRelays_relaysOk (l := [i]) written fun j hj other => ?_
  rw [channel, if_neg (fun own => other (by simp [own]))]
  exact ruled j hj

theorem remapChannel_relaysOk {i level : Nat} {mapping : Option (Nat × Nat)} (hi : i < 16) (graded : level ≤ 3)
    (inside : ∀ a u, mapping = some (a, u) → a < 64) (h : RelaysOk s) : RelaysOk (remapChannel i mapping level s) := by
  have freed := relaysOk_unmoved h (leavePair_unmoved i s)
  unfold remapChannel
  dsimp only
  generalize leavePair i s = x at freed ⊢
  cases mapping with
  | none => exact relayChanged_relaysOk hi freed graded rfl (by simp) inside rfl
  | some pair =>
    obtain ⟨a, u⟩ := pair
    have reserved : RelaysOk (if (x.tariff u).isReference = true then reservePending a u x else x) := by
      split
      · exact relaysOk_unmoved freed (reservePending_unmoved ..)
      · exact freed
    exact relayChanged_relaysOk hi reserved graded rfl (by simp) inside rfl

theorem resolveTimerEnd_unmoved (n : Nat) (s : State) : Unmoved s (resolveTimerEnd n s) := by
  unfold resolveTimerEnd
  dsimp only
  repeat' split
  · exact requestResolve_unmoved ..
  · exact .of_eq rfl rfl rfl rfl
  · exact .refl s

/-! ### COMMIT and power-on -/

@[simp] theorem takeHeldPulses_relays (k : Nat) : (takeHeldPulses k s).fpc.relays = s.fpc.relays := by
  unfold takeHeldPulses
  dsimp only
  split
  · rfl
  · simp

/-- COMMIT carries what the sequencer's operations carry, if it lives through a cleared level set and a new
interval length. -/
theorem commitRecord_carried {P : State → Prop} {c : ConfigRecord} (hP : Carried P)
    (clear : ∀ {s}, P s → P (clearAllCapacity s)) (interval : ∀ {s n}, P s → P (billingCommit n s)) (h : P s)
    (made : t = commitRecord c s) : P t := by
  have set (s : State) : (setCommit c s).fpc.relays = s.fpc.relays := by
    unfold setCommit
    dsimp only
    repeat' split
    · rfl
    · simp [enterFaulted]
    · simp [enterOnline]
    · simp
    · simp [enterStopped]
  have filters (s : State) : (filterCommit c.filterTime s).fpc.relays = s.fpc.relays := rfl
  have fuel (s : State) : (fuelCommit c s).fpc.relays = s.fpc.relays := by
    unfold fuelCommit
    split <;> simp [firstFuelCommit]
  have board {s : State} (h : P s) : P (boardCommit c s) := by
    unfold boardCommit
    split
    · exact clear (hP.frame h rfl rfl rfl)
    · exact hP.frame h (by simp) (by simp) (by simp)
  subst made
  unfold commitRecord
  dsimp only
  generalize before : fuelCommit c _ = x
  have fuelled : P x := by
    rw [← before]
    refine hP.frame h ?_ ?_ ?_
    · simp [identityCommit]
    · rw [fuel, set]
      simp [identityCommit]
    · simp [identityCommit]
  have filtered : P (filterCommit c.filterTime (boardCommit c x)) :=
    hP.frame (board fuelled) (by simp) (filters _) (by simp)
  have timed := interval (n := c.intervalLength) filtered
  refine hP.frame timed ?_ ?_ ?_ <;> simp

theorem billingCommit_unmoved (n : Nat) (s : State) : Unmoved s (billingCommit n s) := by
  unfold billingCommit
  split
  · exact .refl s
  · exact .of_eq rfl rfl rfl rfl

/-! ### Every command -/

theorem reset_relaysOk (pending : List Instr) (choices : Nat) (levels : Fpc) (relays : levels.relays = Fpc.reset.relays) :
    RelaysOk { State.reset with pending := pending, choices := choices, fpc := levels } := by
  refine relaysOk_unmoved (s := .reset) ?_ (.of_eq rfl rfl relays rfl)
  refine ⟨rfl, rfl, rfl, by decide, by decide, fun i hi => ?_, fun i a u hi mapped => ?_, by decide⟩
  · have plain : ∀ i, i < 16 → (State.reset.channel i).credit = false ∧ (State.reset.channel i).mapping = none := by decide
    simp [plain i hi]
  · have unmapped : ∀ i, i < 16 → (State.reset.channel i).mapping = none := by decide
    simp [unmapped i hi] at mapped

theorem channelBadField_none {a b c d e : Nat} (h : channelBadField a b c d e = none) :
    a ≤ 15 ∧ c ≤ 63 ∧ d ≤ 15 ∧ e ≤ 3 := by
  unfold channelBadField at h
  repeat' split at h
  all_goals simp_all

/-- Every command keeps the laws of the relays. -/
theorem exec_relaysOk (c : Instr) (h : RelaysOk s) : ∃ t, exec c s = .next t ∧ RelaysOk t := by
  have answered {t : State} {tag : Byte} {st : Status} {body : List Byte} (ht : RelaysOk t) :
      RelaysOk (respond tag st body t) := relaysOk_unmoved ht (respond_unmoved ..)
  by_cases other : meters c = false
  case pos => exact exec_carried relaysOk_carried c other h
  case neg =>
    cases c with
    | setChannel tag channel enabled account tariff level =>
      refine ⟨_, rfl, gated_cases (P := RelaysOk) (answered h) ?_⟩
      split
      · exact answered h
      · rename_i inside
        obtain ⟨hc, ha, -, hl⟩ := channelBadField_none inside
        split
        · exact answered (remapChannel_relaysOk (by omega) hl (by simp) h)
        · split
          · exact answered h
          · refine answered (remapChannel_relaysOk (by omega) hl ?_ h)
            intro a u pair
            simp only [Option.some.injEq, Prod.mk.injEq] at pair
            omega
    | shedHost tag channel op =>
      refine ⟨_, rfl, gated_cases (P := RelaysOk) (answered h) ?_⟩
      split
      · exact answered h
      · split
        · exact answered h
        · obtain ⟨sound, -⟩ := relaysOk_iff.mp h
          have hi : channel.toNat < 16 := by omega
          exact answered (relayChanged_relaysOk hi h (sound.level _ hi) rfl (sound.credit _ hi)
            (fun a u => sound.mapped _ a u hi) (sound.capacity _ hi))
    | defineTariff tag slot form key base pass =>
      refine ⟨_, rfl, gated_cases (P := RelaysOk) (answered h) ?_⟩
      dsimp only
      split
      · exact answered h
      · split
        · exact answered h
        · split
          · exact answered h
          · exact answered (relaysOk_unmoved h (.of_eq rfl rfl rfl rfl))
    | resolveTariff tag key base pass =>
      refine ⟨_, rfl, gated_cases (P := RelaysOk) (answered h) ?_⟩
      dsimp only
      split
      · exact answered h
      · exact answered (resolveKey_relaysOk h)
    | resolveRequestTimer slot => exact ⟨_, rfl, relaysOk_unmoved h (resolveTimerEnd_unmoved ..)⟩
    | accountOpen tag id limit =>
      refine ⟨_, rfl, gated_cases (P := RelaysOk) (answered h) ?_⟩
      split
      · exact answered h
      · split
        · exact answered h
        · split
          · exact answered h
          · rename_i i free
            refine answered (relaysOk_unmoved h (changeAccount_unmoved_of ?_))
            simp [(freeSlot_spec free).2]
    | setLimit tag id limit =>
      refine ⟨_, rfl, gated_cases (P := RelaysOk) (answered h) ?_⟩
      split
      · exact answered h
      · split
        · exact answered h
        · exact answered (changeLimit_relaysOk (slotOf_spec ‹_›).1 h)
    | accountClose tag id =>
      refine ⟨_, rfl, gated_cases (P := RelaysOk) (answered h) ?_⟩
      split
      · exact answered h
      · split
        · exact answered h
        · split
          · rename_i unused
            exact answered (relaysOk_unmoved h (closeAccount_unmoved (List.isEmpty_iff.mp unused.1)))
          · exact answered h
    | intervalBoundary => exact ⟨_, rfl, relaysOk_unmoved h (intervalBoundary_unmoved s)⟩
    | ackBilling tag count =>
      refine ⟨_, rfl, gated_cases (P := RelaysOk) (answered h) ?_⟩
      split
      · exact answered h
      · exact answered (relaysOk_unmoved h (ackBilling_unmoved ..))
    | commit tag =>
      refine ⟨_, rfl, gated_cases (P := RelaysOk) (answered h) ?_⟩
      repeat' split
      · exact answered h
      · exact answered h
      · exact answered h
      · rename_i c _ _ _
        dsimp only
        generalize made : commitRecord c s = t
        exact answered (commitRecord_carried relaysOk_carried clearAllCapacity_relaysOk
          (fun h => relaysOk_unmoved h (billingCommit_unmoved ..)) h made.symm)
    | setTime tag seconds =>
      refine ⟨_, rfl, gated_cases (P := RelaysOk) (answered h) ?_⟩
      exact answered (relaysOk_unmoved h (setSiteTime_unmoved ..))
    | siteTimeWrap =>
      refine ⟨_, rfl, ?_⟩
      split
      · have moved : Unmoved s (lastMoment s) := .of_eq rfl rfl rfl rfl
        exact relaysOk_unmoved h (moved.trans (setSiteTime_unmoved ..))
      · exact h
    | powerOnReset => exact ⟨_, rfl, reset_relaysOk _ _ _ rfl⟩
    | _ => exact absurd rfl other

/-- Settles O50. -/
theorem relayLaw : Obligations.RelayLaw := by
  intro s t h ht
  have kept : RelaysOk t := by
    refine step_keeps_of (P := RelaysOk) (fun h => ?_) (fun c rest h => ?_) h ht
    · exact relaysOk_unmoved h (.of_eq (by rw [(tick_keeps s).mtr (by decide)]) (by rw [(tick_keeps s).mtr (by decide)])
        (by rw [(tick_keeps s).fpc (by decide)]) (by rw [(tick_keeps s).bil (by decide)]))
    · exact exec_relaysOk (s := s.withPending rest) c (relaysOk_unmoved h (.of_eq rfl rfl rfl rfl))
  refine ⟨kept, fun i a u hi mapped isOver low => ?_⟩
  have credit := (kept.credit i hi).mpr ⟨a, u, mapped, isOver⟩
  rw [(kept.shed i hi).2, (kept.shed i hi).1]
  unfold relayWanted
  rw [if_neg (by omega), credit]
  rfl

end Sys2Proof.Machine
end

section
/-! The laws of the accounts and the billing log (R164 to R168, R175 to R178, R181): O54. -/

namespace Sys2Proof.Machine

open Sys2Proof.Claims

variable {s t u : State}

/-! ### The laws, and changes that leave them -/

/-- An account that channels and pending records may name: OPEN or OVER. -/
def Account.Active (a : Account) : Prop := a.state = .opened ∨ a.state = .over

theorem Account.Active.not_free {a : Account} (h : a.Active) : a.state ≠ .free := by
  rcases h with h | h <;> simp [h]

theorem Account.Active.not_closing {a : Account} (h : a.Active) : a.state ≠ .closing := by
  rcases h with h | h <;> simp [h]

/-- The laws but for those on a full log, which hold between the productions of one action too. -/
structure LedgerOk (s : State) : Prop where
  accounts : s.bil.accounts.length = 64
  log : s.bil.log.length ≤ 128
  consumer : s.bil.consumer < 128
  serial : s.bil.serial < 2 ^ 32
  free : ∀ i, i < 64 → (s.account i).state = .free → s.account i = .reset
  ids : ∀ i j, i < 64 → j < 64 → i ≠ j → (s.account i).state ≠ .free → (s.account j).state ≠ .free →
    (s.account i).id ≠ (s.account j).id
  mapped : ∀ i a u, i < 16 → (s.channel i).mapping = some (a, u) → (s.account a).Active
  pended : ∀ r, some r ∈ s.mtr.pendings → (s.account r.account).Active
  records : ∀ r ∈ s.bil.log, r.energy < 2 ^ 32 ∧ r.charge < 2 ^ 32 ∧ r.pendingEnergy < 2 ^ 32

/-- An account is not CLOSING, or the log is full (R178). -/
def ServedOut (s : State) (i : Nat) : Prop := (s.account i).state = .closing → s.bil.log.length = 128

theorem billingOk_iff : BillingOk s ↔ LedgerOk s ∧ (∀ i, i < 64 → ServedOut s i) ∧
    (s.bil.fullReported = true → s.bil.log.length = 128) := by
  constructor
  · intro h
    exact ⟨⟨h.accounts, h.log, h.consumer, h.serial, h.free, h.ids, h.mapped, h.pended, h.records⟩, h.closing, h.told⟩
  · intro ⟨h, closing, told⟩
    exact ⟨h.accounts, h.log, h.consumer, h.serial, h.free, h.ids, h.mapped, h.pended, h.records, closing, told⟩

/-- The laws after work on channels and pending records, or on the interval's times. -/
theorem billingOk_of_points (h : BillingOk s) (accounts : t.bil.accounts = s.bil.accounts)
    (log : t.bil.log = s.bil.log) (consumer : t.bil.consumer = s.bil.consumer) (serial : t.bil.serial < 2 ^ 32)
    (told : t.bil.fullReported = s.bil.fullReported)
    (mapped : ∀ i a u, i < 16 → (t.channel i).mapping = some (a, u) → (s.account a).Active)
    (pended : ∀ r, some r ∈ t.mtr.pendings → (s.account r.account).Active) : BillingOk t := by
  have account := account_of_bil accounts
  refine ⟨accounts ▸ h.accounts, log ▸ h.log, consumer ▸ h.consumer, serial, ?_, ?_, ?_, ?_, log ▸ h.records, ?_, ?_⟩
  · simpa only [account] using h.free
  · simpa only [account] using h.ids
  · simpa only [account, Account.Active] using mapped
  · simpa only [account, Account.Active] using pended
  · simpa only [account, log] using h.closing
  · simpa only [told, log] using h.told

/-- The laws after work on channels and pending records alone. -/
theorem billingOk_lessen (h : BillingOk s) (bil : t.bil = s.bil)
    (mapping : ∀ i, i < 16 → (t.channel i).mapping = (s.channel i).mapping)
    (pendings : ∀ r, some r ∈ t.mtr.pendings → ∃ p, some p ∈ s.mtr.pendings ∧ p.account = r.account) : BillingOk t :=
  billingOk_of_points h (by rw [bil]) (by rw [bil]) (by rw [bil]) (bil ▸ h.serial) (by rw [bil])
    (fun i a u hi found => h.mapped i a u hi (mapping i hi ▸ found))
    (fun r member => by
      obtain ⟨p, pending, account⟩ := pendings r member
      exact account ▸ h.pended p pending)

theorem billingOk_of_eq (h : BillingOk s) (channels : t.mtr.channels = s.mtr.channels)
    (pendings : t.mtr.pendings = s.mtr.pendings) (bil : t.bil = s.bil) : BillingOk t :=
  billingOk_lessen h bil (fun i _ => by rw [channel_of_mtr channels]) fun r member => ⟨r, pendings ▸ member, rfl⟩

/-- An account that is held may change in all but its id, and an active one stays active. -/
theorem ledgerOk_changeAccount {i : Nat} {f : Account → Account} (h : LedgerOk s) (held : (s.account i).state ≠ .free)
    (id : (f (s.account i)).id = (s.account i).id) (still : (f (s.account i)).state ≠ .free)
    (active : (s.account i).Active → (f (s.account i)).Active) : LedgerOk (changeAccount i f s) := by
  have account (j : Nat) := account_changeAccount i f s j
  have activeOf (j : Nat) (ok : (s.account j).Active) : ((changeAccount i f s).account j).Active := by
    rw [account]
    split
    · rename_i own
      exact own.1 ▸ active (own.1.symm ▸ ok)
    · exact ok
  have idOf (j : Nat) : ((changeAccount i f s).account j).id = (s.account j).id := by
    rw [account]
    split
    · rename_i own
      exact own.1 ▸ id
    · rfl
  have freeOf (j : Nat) : ((changeAccount i f s).account j).state = .free ↔ (s.account j).state = .free := by
    rw [account]
    split
    · rename_i own
      exact own.1 ▸ iff_of_false still held
    · rfl
  refine ⟨by simp [changeAccount, h.accounts], h.log, h.consumer, h.serial, fun j hj free => ?_,
    fun j k hj hk apart heldj heldk => ?_, fun j a u hj found => activeOf a (h.mapped j a u hj found),
    fun r member => activeOf _ (h.pended r member), h.records⟩
  · have before := (freeOf j).mp free
    rw [account, if_neg]
    · exact h.free j hj before
    · rintro ⟨rfl, -⟩
      exact held before
  · rw [idOf, idOf]
    exact h.ids j k hj hk apart (mt (freeOf j).mpr heldj) (mt (freeOf k).mpr heldk)

/-- A held account changed in its figures, or between OPEN and OVER. -/
theorem billingOk_changeAccount {i : Nat} {f : Account → Account} (h : BillingOk s) (held : (s.account i).state ≠ .free)
    (id : (f (s.account i)).id = (s.account i).id)
    (state : (f (s.account i)).state = (s.account i).state ∨ (s.account i).Active ∧ (f (s.account i)).Active) :
    BillingOk (changeAccount i f s) := by
  obtain ⟨ledger, served, told⟩ := billingOk_iff.mp h
  refine billingOk_iff.mpr ⟨ledgerOk_changeAccount ledger held id ?_ fun active => ?_, fun j hj closing => ?_, told⟩
  · rcases state with same | ⟨-, active⟩
    · exact same ▸ held
    · exact active.not_free
  · rcases state with same | ⟨-, still⟩
    · simpa only [Account.Active, same] using active
    · exact still
  · rw [account_changeAccount] at closing
    split at closing
    · rename_i own
      rcases state with same | ⟨-, active⟩
      · exact served j hj (own.1 ▸ same ▸ own.1 ▸ closing)
      · exact absurd (own.1.symm ▸ closing) active.not_closing
    · exact served j hj closing

/-! ### Relays, capacity and the charging of a sample -/

theorem applyRelays_billingOk (l : List Nat) (h : BillingOk s) : BillingOk (applyRelays l s) := by
  refine billingOk_lessen h (by simp) (fun i _ => ?_) fun r member => ⟨r, ?_, rfl⟩
  · rw [applyRelays_channel]
    split <;> rfl
  · rw [(applyRelays_mtr l s).1] at member
    exact member

/-- Channels changed in anything but their mapping. -/
theorem billingOk_mapped {m : Mtr} {f : Channel → Channel} (h : BillingOk s) (channels : m.channels = s.mtr.channels.map f)
    (mapping : ∀ c, (f c).mapping = c.mapping) (pendings : m.pendings = s.mtr.pendings) : BillingOk (s.withMtr m) := by
  refine billingOk_lessen h rfl (fun i _ => ?_) fun r member => ⟨r, pendings ▸ member, rfl⟩
  by_cases inside : i < s.mtr.channels.length
  · rw [channel_mapped (t := s.withMtr m) channels inside, mapping]
  · simp [State.channel, nth, channels, List.getD_eq_getElem?_getD, List.getElem?_eq_none (Nat.le_of_not_lt inside)]

theorem capacityRequest_billingOk {v : Bool} {l : List Nat} (h : BillingOk s) : BillingOk (capacityRequest v l s) := by
  unfold capacityRequest
  refine applyRelays_billingOk _ (billingOk_mapped h rfl (fun c => ?_) rfl)
  split <;> rfl

theorem clearAllCapacity_billingOk (h : BillingOk s) : BillingOk (clearAllCapacity s) := by
  unfold clearAllCapacity
  split
  · exact h
  · exact applyRelays_billingOk _ (billingOk_mapped h rfl (fun c => rfl) rfl)

theorem becomeOver_billingOk {i : Nat} (h : BillingOk s) (active : (s.account i).Active) : BillingOk (becomeOver i s) := by
  have changed : BillingOk (changeAccount i Account.overed s) :=
    billingOk_changeAccount h active.not_free rfl (.inr ⟨active, .inr rfl⟩)
  unfold becomeOver
  have posted : BillingOk (postEvent .accountOver (.slot i) ((changeAccount i Account.overed s).account i).id 0
      (changeAccount i Account.overed s)) := billingOk_of_eq changed (by simp) (by simp) (by simp)
  refine billingOk_mapped posted rfl (fun c => ?_) rfl
  split <;> rfl

theorem becomeOver_active {i j : Nat} (h : (s.account j).Active) : ((becomeOver i s).account j).Active := by
  rw [becomeOver_account]
  split
  · exact .inr rfl
  · exact h

theorem becomeOver_fold_billingOk (l : List Nat) (h : BillingOk s) (active : ∀ i ∈ l, (s.account i).Active) :
    BillingOk (l.foldl (fun s i => becomeOver i s) s) := by
  induction l generalizing s with
  | nil => exact h
  | cons i l ih =>
    refine ih (becomeOver_billingOk h (active i List.mem_cons_self)) fun j member => ?_
    exact becomeOver_active (active j (List.mem_cons_of_mem i member))

theorem creditTests_billingOk {l : List Nat} (h : BillingOk s) : BillingOk (creditTests l s) := by
  refine applyRelays_billingOk _ (becomeOver_fold_billingOk _ h fun i member => ?_)
  have opened := (List.mem_filter.mp member).2
  simp only [Bool.and_eq_true, decide_eq_true_eq] at opened
  exact .inl opened.1

theorem addPending_billingOk {a n e : Nat} {r : Rate} (h : BillingOk s) : BillingOk (addPending a n e r s) := by
  refine billingOk_lessen h rfl (fun i _ => rfl) fun r member => ?_
  obtain ⟨p, pending, made⟩ := List.mem_map.mp member
  cases p with
  | none => simp at made
  | some p =>
    refine ⟨p, pending, ?_⟩
    dsimp only at made
    split at made <;> (cases made; rfl)

theorem requestResolve_billingOk {n key : Nat} (h : BillingOk s) : BillingOk (requestResolve n key s) :=
  billingOk_of_eq h (by simp [requestResolve]) (by simp [requestResolve]) (by simp)

theorem priceEnergy_billingOk {a n e : Nat} {r : Rate} (h : BillingOk s) (active : (s.account a).Active) :
    BillingOk (priceEnergy a n e r s) := by
  unfold priceEnergy
  split
  · exact billingOk_changeAccount h active.not_free rfl (.inl rfl)
  · dsimp only
    split
    · exact requestResolve_billingOk (addPending_billingOk h)
    · exact addPending_billingOk h
  · exact h

theorem chargeChannel_billingOk {r : Rate} {i : Nat} (hi : i < 16) (h : BillingOk s) : BillingOk (chargeChannel r i s) := by
  have drawn (f : Channel → Channel) (mapping : ∀ c, (f c).mapping = c.mapping) : BillingOk (changeChannel i f s) := by
    refine billingOk_lessen h rfl (fun j _ => ?_) fun r member => ⟨r, member, rfl⟩
    rw [channel_changeChannel]
    split
    · exact mapping _
    · rfl
  unfold chargeChannel
  dsimp only
  generalize measured : changeChannel i _ s = x
  have ok : BillingOk x := measured ▸ drawn _ fun c => rfl
  split
  · exact ok
  · rename_i a n mapping
    have active : (x.account a).Active := ok.mapped i a n hi mapping
    have metered (e : Nat) (b : Bool) : BillingOk (changeAccount a (·.meter e r b) x) :=
      billingOk_changeAccount ok active.not_free rfl (.inl rfl)
    split
    · refine priceEnergy_billingOk (metered _ _) ?_
      rw [account_changeAccount]
      split <;> exact active
    · exact metered _ _

theorem foldl_billingOk {α : Type} {f : State → α → State} {l : List α}
    (hf : ∀ a ∈ l, ∀ {s}, BillingOk s → BillingOk (f s a)) (h : BillingOk s) : BillingOk (l.foldl f s) := by
  induction l generalizing s with
  | nil => exact h
  | cons a l ih =>
    exact ih (fun b member => hf b (List.mem_cons_of_mem a member)) (hf a List.mem_cons_self h)

theorem chargeSample_billingOk (h : BillingOk s) : BillingOk (chargeSample s) := by
  have formed : BillingOk (formGroupCis s) := by
    unfold formGroupCis
    split
    · exact h
    · refine foldl_billingOk (fun g _ s h => ?_) h
      unfold formGroupCi
      split
      · exact billingOk_of_eq h rfl rfl rfl
      · exact h
  exact creditTests_billingOk (foldl_billingOk (fun i member => chargeChannel_billingOk (List.mem_range.mp member)) formed)

theorem billingOk_carried : Carried BillingOk where
  frame h mtr _ bil := billingOk_of_eq h (by rw [mtr]) (by rw [mtr]) bil
  request _ h := capacityRequest_billingOk h
  charge := chargeSample_billingOk

/-! ### The channel and tariff commands -/

theorem leavePair_billingOk {i : Nat} (h : BillingOk s) : BillingOk (leavePair i s) := by
  unfold leavePair
  dsimp only
  repeat' split
  · exact h
  · refine billingOk_lessen h rfl (fun _ _ => rfl) fun r member => ?_
    obtain ⟨p, pending, made⟩ := List.mem_map.mp member
    cases p with
    | none => simp at made
    | some p =>
      dsimp only at made
      split at made
      · simp at made
      · cases made
        exact ⟨r, pending, rfl⟩
  · exact h

theorem mem_adjust {α : Type} {f : α → α} {i : Nat} {l : List α} {x : α} (h : x ∈ adjust f i l) :
    x ∈ l ∨ ∃ y, x = f y := by
  induction l generalizing i with
  | nil => cases i <;> exact .inl h
  | cons y l ih =>
    cases i with
    | zero =>
      rcases List.mem_cons.mp h with first | later
      · exact .inr ⟨y, first⟩
      · exact .inl (List.mem_cons_of_mem y later)
    | succ i =>
      rcases List.mem_cons.mp h with first | later
      · exact .inl (first ▸ List.mem_cons_self)
      · exact (ih later).imp_left (List.mem_cons_of_mem y)

theorem adjust_congr {α : Type} {f g : α → α} (d : α) {i : Nat} {l : List α} (h : f (nth d l i) = g (nth d l i)) :
    adjust f i l = adjust g i l := by
  induction l generalizing i with
  | nil => cases i <;> rfl
  | cons y l ih =>
    cases i with
    | zero => exact congrArg (· :: l) h
    | succ i => exact congrArg (y :: ·) (ih h)

theorem reservePending_billingOk {a n : Nat} (h : BillingOk s) (active : (s.account a).Active) :
    BillingOk (reservePending a n s) := by
  unfold reservePending
  split
  · exact h
  · refine billingOk_of_points h rfl rfl rfl h.serial rfl (fun i a u hi found => h.mapped i a u hi found) fun r member => ?_
    rcases mem_adjust member with old | ⟨p, new⟩
    · exact h.pended r old
    · cases new
      exact active

/-- One channel written, and the relay rule on it. -/
theorem relayChanged_billingOk {i : Nat} {f : Channel → Channel} (h : BillingOk s)
    (active : ∀ a u, (f (s.channel i)).mapping = some (a, u) → (s.account a).Active) :
    BillingOk (applyRelay i (changeChannel i f s)) := by
  refine applyRelays_billingOk [i] (billingOk_of_points h rfl rfl rfl h.serial rfl (fun j a u hj found => ?_) fun r member =>
    h.pended r member)
  rw [channel_changeChannel] at found
  split at found
  · rename_i own
    exact active a u (own.1.symm ▸ found)
  · exact h.mapped j a u hj found

theorem leavePair_account (i a : Nat) (s : State) : (leavePair i s).account a = s.account a :=
  account_of_bil (by simp) a

theorem remapChannel_billingOk {i level : Nat} {mapping : Option (Nat × Nat)} (h : BillingOk s)
    (active : ∀ a u, mapping = some (a, u) → (s.account a).Active) : BillingOk (remapChannel i mapping level s) := by
  have freed := leavePair_billingOk (i := i) h
  have still (a u : Nat) (found : mapping = some (a, u)) : ((leavePair i s).account a).Active :=
    leavePair_account i a s ▸ active a u found
  unfold remapChannel
  dsimp only
  generalize leavePair i s = x at freed still ⊢
  cases mapping with
  | none => exact relayChanged_billingOk freed (by simp)
  | some pair =>
    obtain ⟨a, u⟩ := pair
    have reserved : BillingOk (if (x.tariff u).isReference = true then reservePending a u x else x) := by
      split
      · exact reservePending_billingOk freed (still a u rfl)
      · exact freed
    refine relayChanged_billingOk reserved fun b v found => ?_
    cases found
    have kept := account_of_bil (s := x)
      (t := if (x.tariff u).isReference = true then reservePending a u x else x) (by split <;> simp) a
    exact kept ▸ still a u rfl

theorem channelRefusal_none {a n : Nat} (h : channelRefusal a n s = none) : (s.account a).Active := by
  unfold channelRefusal at h
  dsimp only at h
  split at h
  · simp at h
  · rename_i held
    simpa [Account.Active, or_iff_not_imp_left] using held

theorem resolveKey_billingOk {k a b : Nat} (h : BillingOk s) : BillingOk (resolveKey k a b s) := by
  refine creditTests_billingOk ?_
  have priced (l : List PendingRec) {x : State} (hx : BillingOk x) (active : ∀ p ∈ l, (x.account p.account).Active) :
      BillingOk (l.foldl (fun s p => pricePending a b p s) x) := by
    induction l generalizing x with
    | nil => exact hx
    | cons p l ih =>
      refine ih (billingOk_changeAccount hx (active p List.mem_cons_self).not_free rfl (.inl rfl)) fun q member => ?_
      have before := active q (List.mem_cons_of_mem p member)
      unfold pricePending
      rw [account_changeAccount]
      split
      · exact before
      · exact before
  refine priced _ (billingOk_lessen h rfl (fun _ _ => rfl) fun r member => ?_) fun p member => ?_
  · obtain ⟨p, pending, made⟩ := List.mem_map.mp member
    cases p with
    | none => simp at made
    | some p =>
      dsimp only at made
      split at made
      · simp at made
      · cases made
        exact ⟨r, pending, rfl⟩
  · obtain ⟨q, pending, made⟩ := List.mem_filterMap.mp (List.mem_of_mem_filter member)
    exact h.pended p (by simpa [id] using made ▸ pending)

theorem resolveTimerEnd_billingOk {n : Nat} (h : BillingOk s) : BillingOk (resolveTimerEnd n s) := by
  unfold resolveTimerEnd
  dsimp only
  repeat' split
  · exact requestResolve_billingOk h
  · exact billingOk_of_eq h rfl rfl rfl
  · exact h

/-! ### Productions (R175 to R178) -/

theorem intervalRecord_fits (i n : Nat) (b : Bool) (s : State) : (intervalRecord i b n s).energy < 2 ^ 32 ∧
    (intervalRecord i b n s).charge < 2 ^ 32 ∧ (intervalRecord i b n s).pendingEnergy < 2 ^ 32 :=
  ⟨sat32_lt _, sat32_lt _, sat32_lt _⟩

/-- Either the account is closed for good, or it stands under its id in its state. -/
theorem produced_spec (a : Account) :
    (a.state = .closing ∧ a.produced = .reset) ∨ (a.produced.id = a.id ∧ a.produced.state = a.state) := by
  unfold Account.produced
  split
  · rename_i ends
    simp only [Account.endsNow, Bool.and_eq_true, decide_eq_true_eq] at ends
    exact .inl ⟨ends.1.1, rfl⟩
  · exact .inr ⟨rfl, rfl⟩

/-- The record of a production joins a log with room. -/
theorem ledgerOk_append {r : IntervalRec} (h : LedgerOk s) (room : s.bil.log.length < 128)
    (fits : r.energy < 2 ^ 32 ∧ r.charge < 2 ^ 32 ∧ r.pendingEnergy < 2 ^ 32) :
    LedgerOk (s.withBil { s.bil with log := s.bil.log ++ [r] }) := by
  refine { h with log := ?_, records := fun q member => ?_ }
  · simpa using room
  · rcases List.mem_append.mp member with old | new
    · exact h.records q old
    · exact List.mem_singleton.mp new ▸ fits

/-- A CLOSING account freed: nothing points at it. -/
theorem ledgerOk_free {i : Nat} (h : LedgerOk s) (closing : (s.account i).state = .closing) :
    LedgerOk (changeAccount i (fun _ => .reset) s) := by
  have account (j : Nat) := account_changeAccount i (fun _ => .reset) s j
  have kept (j : Nat) (held : ((changeAccount i (fun _ => .reset) s).account j).state ≠ .free) :
      (changeAccount i (fun _ => .reset) s).account j = s.account j := by
    rw [account] at held ⊢
    split at held
    · exact absurd rfl held
    · rw [if_neg ‹_›]
  have active (j : Nat) (ok : (s.account j).Active) : ((changeAccount i (fun _ => .reset) s).account j).Active := by
    rw [account, if_neg]
    · exact ok
    · rintro ⟨rfl, -⟩
      exact ok.not_closing closing
  refine ⟨by simp [changeAccount, h.accounts], h.log, h.consumer, h.serial, fun j hj free => ?_,
    fun j k hj hk apart heldj heldk => ?_, fun j a u hj found => active a (h.mapped j a u hj found),
    fun r member => active _ (h.pended r member), h.records⟩
  · rw [account] at free ⊢
    split
    · rfl
    · rw [if_neg ‹_›] at free
      exact h.free j hj free
  · have samej := kept j heldj
    have samek := kept k heldk
    rw [samej] at heldj ⊢
    rw [samek] at heldk ⊢
    exact h.ids j k hj hk apart heldj heldk

theorem produce_ledgerOk {i n : Nat} {b : Bool} (h : LedgerOk s) (held : (s.account i).state ≠ .free)
    (room : s.bil.log.length < 128) : LedgerOk (produce i b n s) := by
  refine ledgerOk_append ?_ room (intervalRecord_fits ..)
  rcases produced_spec (s.account i) with ⟨closing, ended⟩ | ⟨id, state⟩
  · have same : changeAccount i Account.produced s = changeAccount i (fun _ => .reset) s := by
      unfold changeAccount
      rw [adjust_congr (g := fun _ => .reset) Account.reset ended]
    exact same ▸ ledgerOk_free h closing
  · exact ledgerOk_changeAccount h held id (state ▸ held) fun active => by simpa only [Account.Active, state] using active

theorem hasRoom_iff {b : Bil} : b.hasRoom = true ↔ b.log.length < 128 := by simp [Bil.hasRoom]

theorem produce_account (i n : Nat) (b : Bool) (s : State) (j : Nat) : (produce i b n s).account j =
    if i = j ∧ j < s.bil.accounts.length then (s.account j).produced else s.account j :=
  account_changeAccount i Account.produced s j

/-- With no room, and for an account that is not CLOSING, nothing is served. -/
theorem serveClosing_idle {i n : Nat} {b : Bool} (k : Nat)
    (h : ¬((s.account i).state = .closing ∧ s.bil.hasRoom = true)) : serveClosing i b n k s = s := by
  cases k with
  | zero => rfl
  | succ k => rw [serveClosing, if_neg h]

/-- What the service of one slot leaves: the laws, and every other account; the log grows. -/
structure ServesOnly (i : Nat) (s t : State) : Prop where
  ledger : LedgerOk t
  log : s.bil.log.length ≤ t.bil.log.length
  told : t.bil.fullReported = s.bil.fullReported
  others : ∀ j, j ≠ i → t.account j = s.account j

theorem produce_servesOnly {i n : Nat} {b : Bool} (h : LedgerOk s) (held : (s.account i).state ≠ .free)
    (room : s.bil.log.length < 128) : ServesOnly i s (produce i b n s) where
  ledger := produce_ledgerOk h held room
  log := by simp [produce, changeAccount]
  told := by simp [produce, changeAccount]
  others j other := by rw [produce_account, if_neg fun own => other own.1.symm]

theorem serveClosing_servesOnly {i n : Nat} {b : Bool} (k : Nat) (h : LedgerOk s) :
    ServesOnly i s (serveClosing i b n k s) := by
  induction k generalizing s with
  | zero => exact ⟨h, le_rfl, rfl, fun _ _ => rfl⟩
  | succ k ih =>
    unfold serveClosing
    split
    · rename_i serves
      have one := produce_servesOnly (i := i) (n := n) (b := b) h (by simp [serves.1]) (hasRoom_iff.mp serves.2)
      have rest := ih one.ledger
      exact ⟨rest.ledger, one.log.trans rest.log, rest.told.trans one.told,
        fun j other => (rest.others j other).trans (one.others j other)⟩
    · exact ⟨h, le_rfl, rfl, fun _ _ => rfl⟩

/-- Served as often as the log has places, an account is CLOSING no more or the log is full (R178). -/
theorem serveClosing_servedOut {i n : Nat} {b : Bool} (k : Nat) (h : LedgerOk s) (enough : 128 ≤ s.bil.log.length + k) :
    ServedOut (serveClosing i b n k s) i := by
  induction k generalizing s with
  | zero => exact fun _ => Nat.le_antisymm h.log enough
  | succ k ih =>
    unfold serveClosing
    split
    · rename_i serves
      have one := produce_servesOnly (i := i) (n := n) (b := b) h (by simp [serves.1]) (hasRoom_iff.mp serves.2)
      refine ih one.ledger ?_
      simp [produce, changeAccount]
      omega
    · rename_i idle
      intro closing
      have full : ¬s.bil.log.length < 128 := fun room => idle ⟨closing, hasRoom_iff.mpr room⟩
      have := h.log
      omega

/-- The service of a slot undoes no other one's. -/
theorem ServesOnly.servedOut {i j : Nat} (h : ServesOnly i s t) (other : j ≠ i) (served : ServedOut s j) : ServedOut t j := by
  intro closing
  rw [h.others j other] at closing
  have full := served closing
  have fits := h.ledger.log
  have grows := h.log
  omega

/-- The CLOSING accounts served, slot by slot. -/
theorem serveAll_ledgerOk {n : State → Nat} {b : Bool} (l : List Nat) (h : LedgerOk s) :
    let t := l.foldl (fun s i => serveClosing i b (n s) 128 s) s
    LedgerOk t ∧ t.bil.fullReported = s.bil.fullReported ∧ (∀ j, j ∈ l ∨ ServedOut s j → ServedOut t j) := by
  induction l generalizing s with
  | nil => exact ⟨h, rfl, fun j served => served.resolve_left List.not_mem_nil⟩
  | cons i l ih =>
    have one := serveClosing_servesOnly (i := i) (n := n s) (b := b) 128 h
    obtain ⟨ledger, told, served⟩ := ih one.ledger
    refine ⟨ledger, told.trans one.told, fun j asked => served j ?_⟩
    by_cases own : j = i
    · exact .inr (own ▸ serveClosing_servedOut 128 h (by omega))
    · rcases asked with member | before
      · exact .inl ((List.mem_cons.mp member).resolve_left own)
      · exact .inr (one.servedOut own before)

/-! ### The closes of an interval, and the log's commands (R173, R179, R181) -/

theorem produce_billingOk {i n : Nat} {b : Bool} (h : BillingOk s) (held : (s.account i).state ≠ .free)
    (room : s.bil.log.length < 128) : BillingOk (produce i b n s) := by
  obtain ⟨ledger, served, told⟩ := billingOk_iff.mp h
  have one := produce_servesOnly (n := n) (b := b) ledger held room
  refine billingOk_iff.mpr ⟨one.ledger, fun j hj closing => ?_, fun full => ?_⟩
  · rw [produce_account] at closing
    split at closing
    · rcases produced_spec (s.account j) with ⟨-, ended⟩ | ⟨-, state⟩
      · rw [ended] at closing
        exact nomatch closing
      · exact absurd (served j hj (state ▸ closing)) (by omega)
    · exact absurd (served j hj closing) (by omega)
  · exact absurd (told (one.told ▸ full)) (by omega)

theorem reportLogFull_billingOk {i : Nat} (h : BillingOk s) (full : s.bil.log.length = 128) :
    BillingOk (reportLogFull i s) := by
  unfold reportLogFull
  dsimp only
  split
  · exact h
  · have told : BillingOk (s.withBil { s.bil with fullReported := true }) :=
      { h with told := fun _ => full }
    exact billingOk_of_eq told (by simp) (by simp) (by simp)

theorem carryAccount_billingOk {i : Nat} (h : BillingOk s) (held : (s.account i).state ≠ .free)
    (full : s.bil.log.length = 128) : BillingOk (carryAccount i s) :=
  reportLogFull_billingOk (billingOk_changeAccount h held rfl (.inl rfl)) full

theorem closeSlot_billingOk {i n : Nat} {b : Bool} (h : BillingOk s) (hi : i < 64) : BillingOk (closeSlot b n i s) := by
  obtain ⟨ledger, served, -⟩ := billingOk_iff.mp h
  unfold closeSlot
  dsimp only
  split
  · exact h
  · rename_i held
    split
    · split
      · rename_i room
        rw [hasRoom_iff] at room
        split
        · rename_i closing
          exact absurd (served i hi closing) (by omega)
        · exact produce_billingOk h held room
      · rename_i noRoom
        rw [hasRoom_iff] at noRoom
        exact carryAccount_billingOk h held (by have := ledger.log; omega)
    · have emptied : BillingOk (changeAccount i Account.emptied s) := billingOk_changeAccount h held rfl (.inl rfl)
      rw [serveClosing_idle]
      · exact emptied
      · rintro ⟨closing, room⟩
        rw [hasRoom_iff] at room
        have full := (billingOk_iff.mp emptied).2.1 i hi closing
        omega

theorem closeInterval_billingOk {n : Nat} {b : Bool} (h : BillingOk s) : BillingOk (closeInterval b n s) := by
  have closed : BillingOk ((List.range 64).foldl (fun s i => closeSlot b n i s) s) :=
    foldl_billingOk (fun i member _ h => closeSlot_billingOk h (List.mem_range.mp member)) h
  unfold closeInterval
  generalize (List.range 64).foldl (fun s i => closeSlot b n i s) s = x at closed ⊢
  exact billingOk_of_points closed rfl rfl rfl (Nat.mod_lt _ (by decide)) rfl closed.mapped closed.pended

theorem timeChange_billingOk {n : Nat} (h : BillingOk s) : BillingOk (timeChange n s) := by
  have closed := closeInterval_billingOk (n := s.siteSec) (b := true) h
  unfold timeChange
  generalize closeInterval true s.siteSec s = x at closed ⊢
  dsimp only
  split
  · exact billingOk_of_points h rfl rfl rfl h.serial rfl h.mapped h.pended
  · exact billingOk_of_points closed rfl rfl rfl closed.serial rfl closed.mapped closed.pended

theorem setSiteTime_billingOk {n : Nat} {d : Int} (h : BillingOk s) : BillingOk (setSiteTime n d s) := by
  have changed := timeChange_billingOk (n := n) h
  unfold setSiteTime
  dsimp only
  exact billingOk_of_eq changed (by simp) (by simp) (by simp)

theorem intervalBoundary_billingOk (h : BillingOk s) : BillingOk (intervalBoundary s) := by
  have closed := closeInterval_billingOk (n := s.siteSec) (b := false) h
  unfold intervalBoundary
  generalize closeInterval false s.siteSec s = x at closed ⊢
  dsimp only
  split
  · exact h
  · exact billingOk_of_points closed rfl rfl rfl closed.serial rfl closed.mapped closed.pended

theorem ackBilling_billingOk {n : Nat} (h : BillingOk s) : BillingOk (ackBilling n s) := by
  obtain ⟨ledger, -, -⟩ := billingOk_iff.mp h
  have dropped : LedgerOk (s.withBil { s.bil with consumer := (s.bil.consumer + n) % 128, log := s.bil.log.drop n }) :=
    { ledger with
      log := (List.length_drop ▸ Nat.sub_le _ _).trans ledger.log
      consumer := Nat.mod_lt _ (by decide)
      records := fun r member => ledger.records r (List.mem_of_mem_drop member) }
  have served := serveAll_ledgerOk (n := State.siteSec) (b := false) (List.range 64) dropped
  unfold ackBilling
  dsimp only at served ⊢
  generalize List.foldl _ _ (List.range 64) = x at served ⊢
  obtain ⟨ledger, -, out⟩ := served
  have all (i : Nat) (hi : i < 64) : ServedOut x i := out i (.inl (List.mem_range.mpr hi))
  split
  · exact billingOk_iff.mpr ⟨{ ledger with }, all, nofun⟩
  · rename_i noRoom
    rw [hasRoom_iff] at noRoom
    exact billingOk_iff.mpr ⟨ledger, all, fun _ => by have := ledger.log; omega⟩

/-! ### The account commands (R165 to R168) -/

theorem closeAccount_billingOk {i : Nat} (h : BillingOk s) (hi : i < 64) (held : (s.account i).state ≠ .free)
    (unmapped : ∀ j a u, j < 16 → (s.channel j).mapping = some (a, u) → a ≠ i)
    (unpended : ∀ r, some r ∈ s.mtr.pendings → r.account ≠ i) : BillingOk (closeAccount i s).2 := by
  obtain ⟨ledger, served, told⟩ := billingOk_iff.mp h
  have account (j : Nat) := account_changeAccount i (fun a => { a with state := .closing }) s j
  have others (j : Nat) (other : j ≠ i) :
      (changeAccount i (fun a => { a with state := .closing }) s).account j = s.account j := by
    rw [account, if_neg fun own => other own.1.symm]
  have own : (changeAccount i (fun a => { a with state := .closing }) s).account i =
      { s.account i with state := .closing } := by
    rw [account, if_pos ⟨rfl, ledger.accounts.symm ▸ hi⟩]
  have closing : LedgerOk (changeAccount i (fun a => { a with state := .closing }) s) := by
    have free (j : Nat) : ((changeAccount i (fun a => { a with state := .closing }) s).account j).state = .free ↔
        (s.account j).state = .free := by
      by_cases here : j = i
      · subst here
        rw [own]
        exact iff_of_false nofun held
      · rw [others j here]
    have id (j : Nat) : ((changeAccount i (fun a => { a with state := .closing }) s).account j).id = (s.account j).id := by
      rw [account]
      split <;> rfl
    refine ⟨by simp [changeAccount, ledger.accounts], ledger.log, ledger.consumer, ledger.serial, fun j hj isFree => ?_,
      fun j k hj hk apart heldj heldk => ?_, fun j a u hj found => ?_, fun r member => ?_, ledger.records⟩
    · have before := (free j).mp isFree
      rw [others j fun here => held (here ▸ before)]
      exact ledger.free j hj before
    · rw [id, id]
      exact ledger.ids j k hj hk apart (mt (free j).mpr heldj) (mt (free k).mpr heldk)
    · rw [others a (unmapped j a u hj found)]
      exact ledger.mapped j a u hj found
    · rw [others _ (unpended r member)]
      exact ledger.pended r member
  unfold closeAccount
  dsimp only
  split
  · rename_i room
    rw [hasRoom_iff] at room
    have serves := serveClosing_servesOnly (i := i) (n := s.siteSec) (b := false) 128 closing
    refine billingOk_iff.mpr ⟨serves.ledger, fun j hj => ?_, fun full => ?_⟩
    · by_cases here : j = i
      · rw [here]
        exact serveClosing_servedOut 128 closing (by omega)
      · refine serves.servedOut here fun isClosing => ?_
        exact served j hj (others j here ▸ isClosing)
    · exact absurd (told (serves.told ▸ full)) (by omega)
  · rename_i noRoom
    rw [hasRoom_iff] at noRoom
    have full : s.bil.log.length = 128 := by have := ledger.log; omega
    refine carryAccount_billingOk (billingOk_iff.mpr ⟨closing, fun _ _ _ => full, told⟩) ?_ full
    rw [own]
    nofun

theorem openAccount_billingOk {i id limit : Nat} (h : BillingOk s) (free : (s.account i).state = .free)
    (unused : ∀ j, j < 64 → (s.account j).state ≠ .free → (s.account j).id ≠ id) :
    BillingOk (changeAccount i (fun _ => { Account.reset with id := id, state := .opened, limit := limit }) s) := by
  obtain ⟨ledger, served, told⟩ := billingOk_iff.mp h
  have account (j : Nat) :=
    account_changeAccount i (fun _ => { Account.reset with id := id, state := .opened, limit := limit }) s j
  generalize made : changeAccount i _ s = t at account ⊢
  have others (j : Nat) (hj : j < 64) (other : j ≠ i) : t.account j = s.account j := by
    rw [account, if_neg fun own => other own.1.symm]
  have active (a : Nat) (ok : (s.account a).Active) : (t.account a).Active := by
    rw [account, if_neg]
    · exact ok
    · rintro ⟨rfl, -⟩
      exact ok.not_free free
  have own (hi : i < 64) : t.account i = { Account.reset with id := id, state := .opened, limit := limit } := by
    rw [account, if_pos ⟨rfl, ledger.accounts.symm ▸ hi⟩]
  have apartFrom (j : Nat) (hi : i < 64) (hj : j < 64) (other : j ≠ i) (held : (t.account j).state ≠ .free) :
      (t.account j).id ≠ (t.account i).id := by
    rw [others j hj other] at held ⊢
    rw [own hi]
    exact unused j hj held
  refine billingOk_iff.mpr ⟨⟨?_, ?_, ?_, ?_, fun j hj isFree => ?_, fun j k hj hk apart heldj heldk => ?_,
    fun j a u hj found => ?_, fun r member => ?_, ?_⟩, fun j hj closing => ?_, ?_⟩
  · simp [← made, changeAccount, ledger.accounts]
  · exact made ▸ ledger.log
  · exact made ▸ ledger.consumer
  · exact made ▸ ledger.serial
  · by_cases here : j = i
    · subst here
      rw [own hj] at isFree
      exact nomatch isFree
    · rw [others j hj here] at isFree ⊢
      exact ledger.free j hj isFree
  · by_cases hereJ : j = i
    · subst hereJ
      exact (apartFrom k hj hk (Ne.symm apart) heldk).symm
    · by_cases hereK : k = i
      · subst hereK
        exact apartFrom j hk hj hereJ heldj
      · rw [others j hj hereJ] at heldj ⊢
        rw [others k hk hereK] at heldk ⊢
        exact ledger.ids j k hj hk apart heldj heldk
  · have same : t.channel j = s.channel j := made ▸ rfl
    exact active a (ledger.mapped j a u hj (same ▸ found))
  · have same : t.mtr = s.mtr := made ▸ rfl
    exact active _ (ledger.pended r (same ▸ member))
  · exact made ▸ ledger.records
  · have log : t.bil.log = s.bil.log := made ▸ rfl
    by_cases here : j = i
    · subst here
      rw [own hj] at closing
      exact nomatch closing
    · rw [others j hj here] at closing
      exact log ▸ served j hj closing
  · exact made ▸ told

theorem changeLimit_billingOk {i n : Nat} (h : BillingOk s) (held : (s.account i).state ≠ .free) :
    BillingOk (changeLimit i n s) := by
  have limited : BillingOk (changeAccount i (fun a => { a with limit := n }) s) :=
    billingOk_changeAccount h held rfl (.inl rfl)
  unfold changeLimit
  dsimp only
  generalize changeAccount i (fun a => { a with limit := n }) s = x at limited ⊢
  split
  · rename_i isOver
    split
    · exact limited
    · have active : (x.account i).Active := .inr isOver
      have opened : BillingOk (changeAccount i (fun a => { a with state := .opened }) x) :=
        billingOk_changeAccount limited active.not_free rfl (.inr ⟨active, .inl rfl⟩)
      unfold returnOpen
      refine applyRelays_billingOk _ (billingOk_mapped opened rfl (fun c => ?_) rfl)
      split <;> rfl
  · exact creditTests_billingOk limited

theorem billingCommit_billingOk {n : Nat} (h : BillingOk s) : BillingOk (billingCommit n s) := by
  unfold billingCommit
  split
  · exact h
  · exact billingOk_of_points h rfl rfl rfl h.serial rfl h.mapped h.pended

theorem reset_account (i : Nat) : State.reset.account i = .reset := by
  have all (n : Nat) : nth Account.reset (List.replicate n .reset) i = .reset := by
    simp only [nth, List.getD_eq_getElem?_getD, List.getElem?_replicate]
    split <;> rfl
  exact all 64

theorem reset_billingOk (pending : List Instr) (choices : Nat) (port : Fpc) :
    BillingOk { State.reset with pending := pending, choices := choices, fpc := port } := by
  have free (i : Nat) := reset_account i
  have unmapped : ∀ i, i < 16 → (State.reset.channel i).mapping = none := by decide
  have unpended : ∀ p ∈ State.reset.mtr.pendings, p = none := by decide
  refine billingOk_of_eq (s := .reset) ?_ rfl rfl rfl
  refine ⟨rfl, by decide, by decide, by decide, fun i _ _ => free i, fun i j _ _ _ held => ?_, fun i a u hi found => ?_,
    fun r member => ?_, fun r member => absurd member List.not_mem_nil, fun i _ closing => ?_, nofun⟩
  · exact absurd (free i ▸ rfl) held
  · rw [unmapped i hi] at found
    exact nomatch found
  · exact nomatch unpended _ member
  · rw [free i] at closing
    exact nomatch closing

/-! ### Every command -/

theorem slotOf_none {id : Nat} (h : s.slotOf id = none) :
    ∀ i, i < 64 → (s.account i).state ≠ .free → (s.account i).id ≠ id := by
  intro i hi held same
  have none := List.find?_eq_none.mp h i (List.mem_range.mpr hi)
  simp [held, same] at none

theorem pendingCount_zero {i : Nat} (h : s.mtr.pendingCount i = 0) : ∀ r, some r ∈ s.mtr.pendings → r.account ≠ i := by
  intro r member own
  have none := List.filter_eq_nil_iff.mp (List.length_eq_zero_iff.mp h) r (List.mem_filterMap.mpr ⟨some r, member, rfl⟩)
  simp [own] at none

/-- Every command keeps the laws of the accounts and the log. -/
theorem exec_billingOk (c : Instr) (h : BillingOk s) : ∃ t, exec c s = .next t ∧ BillingOk t := by
  have answered {t : State} {tag : Byte} {st : Status} {body : List Byte} (ht : BillingOk t) :
      BillingOk (respond tag st body t) := billingOk_of_eq ht rfl rfl rfl
  by_cases other : meters c = false
  case pos => exact exec_carried billingOk_carried c other h
  case neg =>
    cases c with
    | setChannel tag channel enabled account tariff level =>
      refine ⟨_, rfl, gated_cases (P := BillingOk) (answered h) ?_⟩
      split
      · exact answered h
      · split
        · exact answered (remapChannel_billingOk h (by simp))
        · split
          · exact answered h
          · rename_i taken
            refine answered (remapChannel_billingOk h ?_)
            rintro a u ⟨⟩
            exact channelRefusal_none taken
    | shedHost tag channel op =>
      refine ⟨_, rfl, gated_cases (P := BillingOk) (answered h) ?_⟩
      split
      · exact answered h
      · split
        · exact answered h
        · rename_i inside _
          exact answered (relayChanged_billingOk h fun a u => h.mapped _ a u (by omega))
    | defineTariff tag slot form key base pass =>
      refine ⟨_, rfl, gated_cases (P := BillingOk) (answered h) ?_⟩
      dsimp only
      split
      · exact answered h
      · split
        · exact answered h
        · split
          · exact answered h
          · exact answered (billingOk_of_eq h rfl rfl rfl)
    | resolveTariff tag key base pass =>
      refine ⟨_, rfl, gated_cases (P := BillingOk) (answered h) ?_⟩
      dsimp only
      split
      · exact answered h
      · exact answered (resolveKey_billingOk h)
    | resolveRequestTimer slot => exact ⟨_, rfl, resolveTimerEnd_billingOk h⟩
    | accountOpen tag id limit =>
      refine ⟨_, rfl, gated_cases (P := BillingOk) (answered h) ?_⟩
      split
      · exact answered h
      · split
        · exact answered h
        · rename_i unused
          split
          · exact answered h
          · rename_i i free
            refine answered (openAccount_billingOk h (freeSlot_spec free).2 (slotOf_none ?_))
            simpa using unused
    | setLimit tag id limit =>
      refine ⟨_, rfl, gated_cases (P := BillingOk) (answered h) ?_⟩
      split
      · exact answered h
      · rename_i i holds
        split
        · exact answered h
        · exact answered (changeLimit_billingOk h (slotOf_spec holds).2.1)
    | accountClose tag id =>
      refine ⟨_, rfl, gated_cases (P := BillingOk) (answered h) ?_⟩
      split
      · exact answered h
      · rename_i i holds
        obtain ⟨hi, held, -⟩ := slotOf_spec holds
        split
        · exact answered h
        · split
          · rename_i unused
            refine answered (closeAccount_billingOk h hi held (fun j a u hj found own => ?_) (pendingCount_zero unused.2))
            have member := mem_channelsWhere.mpr ⟨hj, pointsAt_iff.mpr ⟨u, own ▸ found⟩⟩
            rw [List.isEmpty_iff.mp unused.1] at member
            exact absurd member List.not_mem_nil
          · exact answered h
    | intervalBoundary => exact ⟨_, rfl, intervalBoundary_billingOk h⟩
    | ackBilling tag count =>
      refine ⟨_, rfl, gated_cases (P := BillingOk) (answered h) ?_⟩
      split
      · exact answered h
      · exact answered (ackBilling_billingOk h)
    | commit tag =>
      refine ⟨_, rfl, gated_cases (P := BillingOk) (answered h) ?_⟩
      repeat' split
      · exact answered h
      · exact answered h
      · exact answered h
      · rename_i c _ _ _
        dsimp only
        generalize made : commitRecord c s = t
        exact answered (commitRecord_carried billingOk_carried clearAllCapacity_billingOk billingCommit_billingOk h made.symm)
    | setTime tag seconds =>
      refine ⟨_, rfl, gated_cases (P := BillingOk) (answered h) ?_⟩
      exact answered (setSiteTime_billingOk h)
    | siteTimeWrap =>
      refine ⟨_, rfl, ?_⟩
      split
      · exact setSiteTime_billingOk (billingOk_of_eq (t := lastMoment s) h rfl rfl rfl)
      · exact h
    | powerOnReset => exact ⟨_, rfl, reset_billingOk ..⟩
    | _ => exact absurd rfl other

/-- Settles O54. -/
theorem billingKept : Obligations.BillingKept := by
  intro s t h ht
  refine step_keeps_of (P := BillingOk) (fun h => ?_) (fun c rest h => ?_) h ht
  · have keeps := tick_keeps s
    exact billingOk_of_eq h (by rw [keeps.mtr (by decide)]) (by rw [keeps.mtr (by decide)]) (keeps.bil (by decide))
  · exact exec_billingOk (s := s.withPending rest) c (billingOk_of_eq h rfl rfl rfl)

end Sys2Proof.Machine
end

section
/-! The step on an empty queue, the resets, the gate of R189 and the reads: O2, O3, O59, O4, O5. -/

namespace Sys2Proof.Machine

open Sys2Proof.Claims

variable {s t : State}

/-! ### The idle step -/

theorem step_idle (h : s.pending = []) : step s = .next (tick s) := by simp [step, h]

theorem takenFirst_spec {l : List Instr} (h : 2 ≤ l.length) : ∃ e ∈ l, takenFirst s l = [e] := by
  have inside : Config.tieBreak s.choices % l.length < l.length := Nat.mod_lt _ (by omega)
  refine ⟨l[Config.tieBreak s.choices % l.length], List.getElem_mem inside, ?_⟩
  rw [takenFirst, List.drop_eq_getElem_cons inside]
  rfl

/-- Settles O2. -/
theorem idleStepTicks : Obligations.IdleStepTicks := by
  intro s idle
  rw [step_idle idle]
  unfold tick
  refine ⟨fun none => by rw [none]; rfl, fun e one => by rw [one]; rfl, fun several => ?_⟩
  obtain ⟨e, member, taken⟩ := takenFirst_spec (s := s) several
  refine ⟨e, member, ?_⟩
  split
  · rename_i none
    simp [none] at several
  · rename_i one
    simp [one] at several
  · rw [taken]
    rfl

/-! ### Power-on reset -/

/-- Settles O3. -/
theorem powerOn : Obligations.PowerOn := by
  refine ⟨?_, fun s => ⟨_, rfl, ?_, ?_, ?_⟩⟩
  · dsimp only
    refine ⟨by decide, by decide, by decide, by decide, by decide, by decide, ?_, by decide, ?_, by decide, by decide⟩
    · refine ⟨rfl, rfl, rfl, rfl, rfl, rfl, rfl, rfl, rfl, rfl, rfl, rfl, rfl, rfl, rfl, rfl, rfl, rfl, rfl, rfl, rfl,
        fun l => ?_⟩
      cases l <;> rfl
    · exact ⟨rfl, rfl, rfl, rfl, rfl, rfl, rfl, fun i => by rw [reset_account]; rfl⟩
  · intro p kept
    cases p <;> first | rfl | (simp at kept)
  · intro l
    cases l <;> exact ⟨rfl, rfl⟩
  · exact ⟨rfl, rfl, rfl, rfl, rfl, rfl, rfl, rfl, rfl, rfl, rfl, rfl, rfl, rfl, rfl, rfl, rfl, rfl, rfl⟩

/-- Settles O59. -/
theorem invariantsAtReset : Obligations.InvariantsAtReset := by
  have board : BoardOk State.reset := boardOk_iff.mpr fun board => nomatch board.1
  have headroom : HeadroomOk State.reset := fun some => absurd rfl some
  exact ⟨⟨by decide, by decide, by decide, by decide⟩,
    ⟨by decide, by decide, by decide, by decide, by decide, by decide⟩,
    ⟨by decide, by decide, by decide, by decide, by decide, by decide, by decide⟩, headroom, board,
    reset_relaysOk [] 0 _ rfl, reset_billingOk [] 0 _⟩

/-! ### The gate (R189) -/

/-- Every command of R189's table is carried out behind its row. -/
theorem exec_of_hostGate {c : Instr} {tag : Byte} {role : Option Role} {states : List NodeState}
    (row : hostGate c = some (tag, role, states)) : ∃ act, ∀ s, exec c s = .next (gated role states tag act s) := by
  cases c <;> cases row <;> exact ⟨_, fun s => rfl⟩

theorem takes_false {role : Option Role} {states : List NodeState}
    (h : s.hpt.nodeState ∉ states ∨ ∃ r, role = some r ∧ s.hpt.role ≠ some r) : s.takes role states = false := by
  unfold State.takes
  rcases h with out | ⟨r, rfl, other⟩
  · simp [out]
  · simp [other]

/-- Settles O4. -/
theorem gateRefuses : Obligations.GateRefuses := by
  intro c s tag role states row outside
  obtain ⟨act, run⟩ := exec_of_hostGate row
  rw [run, gated_refused s (takes_false outside)]
  rfl

/-! ### Reads -/

theorem takes_all : s.takes none allStates = true := by
  unfold State.takes
  cases s.hpt.nodeState <;> rfl

theorem takes_genset_all (h : s.hpt.role = some .genset) : s.takes (some .genset) [.config, .run, .mute] = true := by
  unfold State.takes
  rw [h]
  cases s.hpt.nodeState <;> rfl

/-- A fuel command with a working copy. -/
theorem fuelCommand_taken {tag : Byte} {act : FuelConfig → State → State} {c : FuelConfig}
    (h : s.hpt.role = some .genset) (copy : s.fau.copy = some c) : fuelCommand tag act s = act c s := by
  rw [fuelCommand, gated_taken s (takes_genset_all h), copy]

theorem exec_of_readAnswer {c : Instr} {tag : Byte} {body : List Byte} (h : readAnswer s c = some (tag, body)) :
    exec c s = .next (s.answered tag .ok body) := by
  have all (tag : Byte) (act : State → State) : gated none allStates tag act s = act s := gated_taken s takes_all
  cases c with
  | noop => cases h; exact congrArg _ (all _ _)
  | readBilling => cases h; exact congrArg _ (all _ _)
  | readEvents => cases h; exact congrArg _ (all _ _)
  | readFaults => cases h; exact congrArg _ (all _ _)
  | readPeers tag node =>
    simp only [readAnswer, Option.ite_none_right_eq_some] at h
    obtain ⟨inside, ⟨⟩⟩ := h
    refine (congrArg _ (all _ _)).trans ?_
    rw [if_pos inside]
    rfl
  | readTank tag =>
    simp only [readAnswer, Option.ite_none_right_eq_some] at h
    obtain ⟨⟨role, held⟩, ⟨⟩⟩ := h
    obtain ⟨copy, found⟩ := Option.isSome_iff_exists.mp held
    exact congrArg _ (fuelCommand_taken role found)
  | readLots tag =>
    simp only [readAnswer, Option.ite_none_right_eq_some] at h
    obtain ⟨⟨role, held⟩, ⟨⟩⟩ := h
    obtain ⟨copy, found⟩ := Option.isSome_iff_exists.mp held
    exact congrArg _ (fuelCommand_taken role found)
  | readPledges tag =>
    simp only [readAnswer, Option.ite_none_right_eq_some] at h
    obtain ⟨works, ⟨⟩⟩ := h
    have running : Running s := by simpa [State.gensetWorks, Running] using works
    exact congrArg _ (gated_taken s (takes_genset_iff.mpr running))
  | readAccount tag id =>
    simp only [readAnswer, Option.map_eq_some_iff] at h
    obtain ⟨i, holds, ⟨⟩⟩ := h
    refine (congrArg _ (all _ _)).trans ?_
    rw [holds]
    rfl
  | readNode tag part half =>
    simp only [readAnswer, Option.ite_none_right_eq_some, Option.map_eq_some_iff] at h
    obtain ⟨⟨parts, genset, board, halves⟩, body, found, ⟨⟩⟩ := h
    refine (congrArg _ (all _ _)).trans ?_
    have role : s.takes (sectionRole part.toNat) allStates = true := by
      unfold sectionRole
      split
      · exact takes_genset_all (genset ‹_›)
      · unfold State.takes
        rw [board ‹_›]
        cases s.hpt.nodeState <;> rfl
      · exact takes_all
    rw [if_neg (by omega), if_neg (by omega), role, found]
    rfl
  | _ => cases h

/-- Records of one length behind a head of another. -/
theorem flatten_length {α : Type} {n : Nat} {f : α → List Byte} (one : ∀ x, (f x).length = n) (l : List α) :
    ((l.map f).flatten).length = n * l.length := by
  induction l with
  | nil => rfl
  | cons x l ih => simp [one, ih, Nat.mul_add, Nat.add_comm]

theorem eventRec_bytes_length (r : EventRec) : r.bytes.length = 20 := rfl

theorem intervalRec_bytes_length (r : IntervalRec) : r.bytes.length = 31 := rfl

/-- Settles O5. -/
theorem readsChangeNothing : Obligations.ReadsChangeNothing := by
  refine ⟨fun c s tag body h => exec_of_readAnswer h, eventRec_bytes_length, intervalRec_bytes_length, fun l => rfl,
    fun e => ⟨?_, rfl⟩, fun b => ⟨?_, rfl⟩⟩
  · have records := flatten_length eventRec_bytes_length (e.ring.take 4)
    rw [List.length_take] at records
    rw [← records]
    exact Nat.add_comm _ 6
  · have records := flatten_length intervalRec_bytes_length (b.log.take 4)
    rw [List.length_take] at records
    rw [← records]
    exact Nat.add_comm _ 3

end Sys2Proof.Machine
end

section
/-! Events and faults (chapter 11): what a posting and a report write, and O58. -/

namespace Sys2Proof.Machine

open Sys2Proof.Claims

variable {s t u : State}

/-! ### What is written to the ring (R197) -/

/-- The events `l` have been written, each stamped, the first with the lost count, and nothing else: where the ring
has room for all. -/
structure Wrote (l : List (EventKind × Subject × Nat × Nat)) (s t : State) : Prop where
  written : s.evf.ring.length + l.length ≤ 64 →
    t.evf.ring = s.evf.ring ++ stamped s s.evf.lost l ∧ t.evf.lost = if l = [] then s.evf.lost else 0

theorem stamped_length (s : State) (n : Nat) (l : List (EventKind × Subject × Nat × Nat)) :
    (stamped s n l).length = l.length := by
  induction l generalizing n with
  | nil => rfl
  | cons x l ih => simp [stamped, ih]

/-- Only the time of the stamp is read off the state. -/
theorem stamped_congr (clock : t.clock = s.clock) (n : Nat) (l : List (EventKind × Subject × Nat × Nat)) :
    stamped t n l = stamped s n l := by
  induction l generalizing n with
  | nil => rfl
  | cons x l ih => simp only [stamped, ih, State.siteSec, State.siteMs, State.now, clock]

theorem stamped_append (s : State) (n : Nat) (l m : List (EventKind × Subject × Nat × Nat)) :
    stamped s n (l ++ m) = stamped s n l ++ stamped s (if l = [] then n else 0) m := by
  induction l generalizing n with
  | nil => simp [stamped]
  | cons x l ih => simp [stamped, ih]

theorem Wrote.posts {l : List (EventKind × Subject × Nat × Nat)} (h : Wrote l s t) : Posts l s t :=
  fun room => (h.written room).1

theorem Wrote.of_eq (evf : t.evf = s.evf) : Wrote [] s t := ⟨fun _ => by simp [evf, stamped]⟩

theorem Wrote.trans {l m : List (EventKind × Subject × Nat × Nat)} (h : Wrote l s t) (k : Wrote m t u)
    (clock : t.clock = s.clock) : Wrote (l ++ m) s u := by
  refine ⟨fun room => ?_⟩
  rw [List.length_append] at room
  obtain ⟨ring, lost⟩ := h.written (by omega)
  obtain ⟨ring', lost'⟩ := k.written (by rw [ring, List.length_append, stamped_length]; omega)
  refine ⟨?_, ?_⟩
  · rw [ring', ring, stamped_append, stamped_congr clock, lost, List.append_assoc]
  · rw [lost', lost]
    by_cases none : m = [] <;> simp [none]

/-- What is written stands first, whatever follows it. -/
theorem Wrote.first {l : List (EventKind × Subject × Nat × Nat)} (h : Wrote l s t) (k : Tells t u) : PostsFirst l s u :=
  fun room => (h.written room).1 ▸ k.ring

/-- The events of an operation may be read off a state that differs in other parts. -/
theorem Wrote.of_start {l : List (EventKind × Subject × Nat × Nat)} (h : Wrote l s t)
    (ring : s.evf.ring = u.evf.ring) (lost : s.evf.lost = u.evf.lost) (clock : s.clock = u.clock) : Wrote l u t := by
  refine ⟨fun room => ?_⟩
  rw [← ring] at room ⊢
  rw [stamped_congr clock.symm, ← lost]
  exact h.written room

theorem Wrote.of_end {l : List (EventKind × Subject × Nat × Nat)} (h : Wrote l s t) (ring : u.evf.ring = t.evf.ring)
    (lost : u.evf.lost = t.evf.lost) : Wrote l s u := by
  refine ⟨fun room => ?_⟩
  rw [ring, lost]
  exact h.written room

theorem postEvent_wrote (k : EventKind) (a : Subject) (v q : Nat) (s : State) :
    Wrote [(k, a, v, q)] s (postEvent k a v q s) := by
  refine ⟨fun room => ?_⟩
  obtain ⟨ring, lost⟩ := postEvent_room s k a v q (by simpa using room)
  exact ⟨ring, lost⟩

theorem postEvent_wrote_on (k : EventKind) (a : Subject) (v q : Nat) (x : State) (ring : x.evf.ring = s.evf.ring := by rfl)
    (lost : x.evf.lost = s.evf.lost := by rfl) (clock : x.clock = s.clock := by rfl) : Wrote [(k, a, v, q)] s (postEvent k a v q x) :=
  (postEvent_wrote k a v q x).of_start ring lost clock

/-- The sticky status set, as a report does first (R202). -/
def State.marked (s : State) (k : FaultKind) : State := s.withEvf { s.evf with sticky := s.evf.sticky ||| k.bit }

/-- The FAULT event of an unmasked kind (R202). -/
def State.faulted (s : State) (k : FaultKind) : State :=
  postEvent .fault (.node s.eventId) (if s.evf.first.kind.isNone then 1 else 0) k.code (s.marked k)

theorem reportFault_masked {k : FaultKind} (c : List Byte) (h : k.inSet s.evf.mask = true) :
    reportFault k c s = s.marked k := if_pos h

theorem reportFault_first {k : FaultKind} (c : List Byte) (h : k.inSet s.evf.mask = false)
    (empty : s.evf.first.kind.isNone = true) : reportFault k c s = (s.faulted k).withEvf { (s.faulted k).evf with
      first := ⟨some k, s.siteSec, s.siteMs, padTo 8 c⟩ } := by
  have reported : reportFault k c s = if s.evf.first.kind.isNone then (s.faulted k).withEvf { (s.faulted k).evf with
      first := ⟨some k, (s.faulted k).siteSec, (s.faulted k).siteMs, padTo 8 c⟩ } else s.faulted k :=
    if_neg (by simpa using h)
  have clock : (s.faulted k).clock = s.clock := by simp [State.faulted, State.marked]
  rw [reported, if_pos empty]
  simp only [State.siteSec, State.siteMs, clock]

theorem reportFault_later {k : FaultKind} (c : List Byte) (h : k.inSet s.evf.mask = false)
    (held : ¬s.evf.first.kind.isNone = true) : reportFault k c s = s.faulted k := by
  have reported : reportFault k c s = if s.evf.first.kind.isNone then _ else s.faulted k := if_neg (by simpa using h)
  rw [reported, if_neg held]

/-- A report writes the FAULT event alone, and none for a masked kind (R202). -/
theorem reportFault_wrote (k : FaultKind) (c : List Byte) (s : State) : Wrote (faultPosts k s) s (reportFault k c s) := by
  have posted : Wrote [(.fault, .node s.eventId, if s.evf.first.kind.isNone then 1 else 0, k.code)] s (s.faulted k) :=
    postEvent_wrote_on ..
  unfold faultPosts
  split
  · rename_i masked
    rw [reportFault_masked c masked]
    exact ⟨fun _ => ⟨(List.append_nil _).symm, rfl⟩⟩
  · rename_i unmasked
    rw [Bool.not_eq_true] at unmasked
    by_cases empty : s.evf.first.kind.isNone = true
    · rw [reportFault_first c unmasked empty]
      exact posted.of_end rfl rfl
    · rw [reportFault_later c unmasked empty]
      exact posted

theorem reportFault_reports (k : FaultKind) (c : List Byte) (s : State) : Reports k [] s (reportFault k c s) :=
  ⟨reportFault_sticky s k c, (reportFault_wrote k c s).posts⟩

/-- Events, and then a report of a fault. -/
theorem Wrote.reports {l : List (EventKind × Subject × Nat × Nat)} (h : Wrote l s t) (k : FaultKind) (c : List Byte)
    (clock : t.clock = s.clock) (hpt : t.hpt = s.hpt) (sticky : t.evf.sticky = s.evf.sticky) (mask : t.evf.mask = s.evf.mask)
    (first : t.evf.first = s.evf.first) : Reports k l s (reportFault k c t) := by
  refine ⟨by rw [reportFault_sticky, sticky], ?_⟩
  have same : faultPosts k t = faultPosts k s := by simp only [faultPosts, mask, first, State.eventId, hpt]
  exact (h.trans (same ▸ reportFault_wrote k c t) clock).posts

/-! ### ATTN (R200) -/

theorem wantsAttn_iff {e : Evf} {now : Nat} : e.wantsAttn now = true ↔ Raises e now := by
  unfold Evf.wantsAttn Raises
  cases ring : e.ring with
  | nil => simp
  | cons r rest =>
    rw [Bool.or_eq_true, decide_eq_true_eq, decide_eq_true_eq]
    refine ⟨fun wants => ⟨r, rest, rfl, ring ▸ wants⟩, ?_⟩
    rintro ⟨r', rest', same, wants⟩
    cases same
    exact ring ▸ wants

/-- The test of ATTN changes ATTN alone. -/
theorem testAttn_tested (s : State) : (testAttn s).evf = { s.evf with attn := (testAttn s).evf.attn } ∧
    Tested s.evf.attn s.now (testAttn s).evf := by
  refine ⟨rfl, ?_⟩
  have raises : Raises (testAttn s).evf s.now ↔ Raises s.evf s.now := Iff.rfl
  rw [Tested, raises, ← wantsAttn_iff, testAttn]
  simp

/-! ### O58 -/

theorem gated_all (tag : Byte) (act : State → State) (s : State) : gated none allStates tag act s = act s :=
  gated_taken s takes_all

theorem inSet_cleared (k : FaultKind) (a b : BitVec 16) : k.inSet (a &&& ~~~b) = (k.inSet a && !k.inSet b) := by
  have inside : k.code < 16 := by cases k <;> decide
  simp [FaultKind.inSet, inside]

/-- Settles O58. -/
theorem eventsAndFaults : Obligations.EventsAndFaults := by
  refine ⟨fun s k a v q => ?_, fun s k c short => ?_, fun s => ?_, fun s tag count => ?_, fun s tag mark => ?_, fun s tag => ?_,
    fun s tag kinds => ?_, fun s tag kinds => ?_⟩
  · refine ⟨keepsAllBut_of (by simp), fun room => ?_, fun full => ?_⟩
    · have posted : postEvent k a v q s = testAttn _ := if_pos room
      rw [posted]
      exact testAttn_tested _
    · rw [postEvent_full s k a v q full]
      rfl
  · have kept (k : EventKind) (a : Subject) (v q : Nat) (x : State) := postEvent_faults x k a v q
    have mask : (s.faulted k).evf.mask = s.evf.mask := (kept ..).2.1
    have held : (s.faulted k).evf.first = s.evf.first := (kept ..).2.2
    refine ⟨keepsAllBut_of (by simp), reportFault_reports k c s, ?_, fun quiet => ?_, fun masked => ?_, fun unmasked empty => ?_⟩
    · by_cases masked : k.inSet s.evf.mask = true
      · rw [reportFault_masked c masked]
        rfl
      · rw [Bool.not_eq_true] at masked
        by_cases empty : s.evf.first.kind.isNone = true
        · rw [reportFault_first c masked empty]
          exact mask
        · rw [reportFault_later c masked empty, mask]
    · by_cases masked : k.inSet s.evf.mask = true
      · rw [reportFault_masked c masked]
        rfl
      · have some := quiet.resolve_left masked
        rw [Bool.not_eq_true] at masked
        rw [reportFault_later c masked (by simpa [Option.isNone_iff_eq_none] using some), held]
    · rw [reportFault_masked c masked]
      exact ⟨rfl, rfl⟩
    · rw [reportFault_first c unmasked (by simp [empty])]
      have padded : padTo 8 c = c ++ List.replicate (8 - c.length) 0 := by
        rw [padTo, List.take_append, List.take_of_length_le short, List.take_replicate]
        congr 2
        omega
      rw [padded]
      rfl
  · exact ⟨_, rfl, keepsAllBut_of (by simp), testAttn_tested s⟩
  · have run : exec (.ackEvents tag count) s = _ := congrArg Host.Outcome.next (gated_all tag _ s)
    refine ⟨fun more => ?_, fun zero => ?_, fun some fits => ?_⟩
    · rw [run, if_pos more]
      rfl
    · subst zero
      rw [run]
      rfl
    · rw [run, if_neg (by omega)]
      have positive : count.toNat ≠ 0 := fun zero => some (BitVec.eq_of_toNat_eq zero)
      have acked : ackEvents count.toNat s = testAttn (s.withEvf { s.evf with
          ring := s.evf.ring.drop count.toNat, consumer := (s.evf.consumer + count.toNat) % 64
          attn := s.evf.attn && !(s.evf.ring.drop count.toNat).isEmpty }) := if_neg positive
      have left : (s.evf.ring.drop count.toNat).isEmpty = decide (s.evf.ring.length = count.toNat) := by
        rw [Bool.eq_iff_iff, List.isEmpty_iff, List.drop_eq_nil_iff, decide_eq_true_eq]
        omega
      rw [left] at acked
      dsimp only
      rw [acked]
      have tested := testAttn_tested (s.withEvf { s.evf with
          ring := s.evf.ring.drop count.toNat, consumer := (s.evf.consumer + count.toNat) % 64
          attn := s.evf.attn && !decide (s.evf.ring.length = count.toNat) })
      refine ⟨_, ?_, keepsAllBut_of (by simp), tested.1, ?_⟩
      · rw [tested.1]
        simp [respond, State.answered]
      · have same : (s.evf.attn && decide (s.evf.ring.length ≠ count.toNat)) =
            (s.evf.attn && !decide (s.evf.ring.length = count.toNat)) := by simp
        rw [same]
        exact tested.2
  · exact ⟨_, congrArg Host.Outcome.next (gated_all tag _ s), keepsAllBut_of (by simp), testAttn_tested _⟩
  · refine (congrArg Host.Outcome.next (gated_all tag _ s)).trans ?_
    cases held : s.evf.first.kind <;> simp [faultsBody, held, kindSet, optional, respond, State.answered]
  · refine ⟨_, congrArg Host.Outcome.next (gated_all tag _ s), keepsAllBut_of (by simp), rfl, fun k => ?_, fun k held cleared => ?_,
      fun kept => ?_⟩
    · exact inSet_cleared k _ _
    · simp [Evf.cleared, held, cleared, FirstFault.empty]
    · cases held : s.evf.first.kind with
      | none => simp [Evf.cleared, held]
      | some k => simp [Evf.cleared, held, kept k held]
  · exact congrArg Host.Outcome.next (gated_all tag _ s)

end Sys2Proof.Machine
end

section
/-! The Set Controller (chapter 3): its limits, its inputs, its commands and its contests: O17, O18, O20, O21. -/

namespace Sys2Proof.Machine

open Sys2Proof.Claims

variable {s t u : State}

/-! ### The trip notice and choices outside ONLINE (R88, R103) -/

theorem tripEntries_pledges (l : List PledgeEntry) (s : State) : (tripEntries l s).plu.pledges =
    s.plu.pledges.filter fun e => decide (∀ x ∈ l, e.claim ≠ x.claim) := by
  induction l generalizing s with
  | nil => simp [tripEntries]
  | cons x l ih =>
    have dropped : (if x.state = .settling then dropPledge x.claim s
        else announceRevoke x.claim x.kw 0 .trip (dropPledge x.claim s)).plu.pledges =
        s.plu.pledges.filter fun e => decide (e.claim ≠ x.claim) := by
      split <;> simp [dropPledge]
    rw [tripEntries, ih, dropped, List.filter_filter]
    congr 1
    funext e
    simp [Bool.and_comm]

theorem tripNotice_pledges (s : State) : (tripNotice s).plu.pledges = [] := by
  rw [tripNotice, tripEntries_pledges, List.filter_eq_nil_iff]
  intro e member
  simp only [List.mem_reverse, decide_eq_true_eq, not_forall, not_not]
  exact ⟨e, member, rfl⟩

theorem servePledges_offline (h : s.setc.state ≠ .online) : servePledges s = refreshHeadroom s := by
  rw [servePledges, arbiterRuns_eq_self]
  exact offeredHeadroom_of_not_online h

/-- An entry with a trip notice to a state without headroom leaves no pledge (R103). -/
theorem enterSet_tripped (st : SetState) (cause : Option SetCause) {trip : Bool} (offline : st ≠ .online)
    (trips : trip = true ∨ st = .faulted) (s : State) : (enterSet st cause trip s).plu.pledges = [] := by
  simp only [enterSet, if_pos trips]
  rw [servePledges_offline (by simpa [Setc.entered] using offline)]
  simp [refreshHeadroom, tripNotice_pledges]

/-! ### The event of an entry (R61) -/

/-- SET_STATE stands first among what an entry posts. -/
theorem enterSet_posts (st : SetState) (cause : Option SetCause) (trip : Bool) (s : State) :
    PostsFirst [setEvent s st (match (if st = .faulted then cause else none) with
      | some c => c.code
      | none => 0)] s (enterSet st cause trip s) := by
  have wrote := postEvent_wrote .setState (.node s.eventId) (pair16 s.setc.state.code st.code)
    (match (if st = .faulted then cause else none) with
      | some c => c.code
      | none => 0) (askLines (setLines st) (s.withSetc (s.setc.entered st cause s.now s.cfg.warmUp)))
  refine (wrote.of_start (u := s) rfl rfl rfl).first ?_
  unfold enterSet
  exact extraCause_tells (servePledges_tells (.ite (tripNotice_tells (.ite (Tells.refl _) (Tells.refl _)))
    (.ite (Tells.refl _) (Tells.refl _))))

theorem postsFirst_of_tells {l : List (EventKind × Subject × Nat × Nat)} (h : PostsFirst l s t) (k : Tells t u) :
    PostsFirst l s u := fun room => (h room).trans k.ring

theorem enterSyncing_posts (trip : Bool) (s : State) : PostsFirst [setEvent s .syncing 0] s (enterSyncing trip s) := by
  refine postsFirst_of_tells (enterSet_posts .syncing none trip s) ?_
  exact .ite (enterSet_tells (Tells.refl _)) (Tells.refl _)

theorem enterCranking_cranks (s : State) : Cranks s (enterCranking s) := by
  refine ⟨fun still => ?_, enterCranking_warms, ?_⟩
  · have cranking : Enters .cranking true false (some (s.now + 15 * second)) none s.setc.attempts s _ :=
      enterSet_enters s .cranking none false nofun
    simpa [enterCranking, still] using cranking
  · refine postsFirst_of_tells (enterSet_posts .cranking none false s) ?_
    exact .ite (enterWarming_tells (Tells.refl _)) (Tells.refl _)

theorem enterUnloading_unloads (s : State) : Unloads s (enterUnloading s) := by
  have unloading : Enters .unloading true false (some (s.now + 60 * second)) none s.setc.attempts s _ :=
    enterSet_enters s .unloading none false nofun
  refine ⟨fun closed => ?_, fun opened => ?_, ?_⟩
  · simpa [enterUnloading, closed] using unloading
  · have cooling := enters_passed unloading (enterSet_enters _ .cooling none false nofun) (by decide)
    have now := (enters_reads unloading).1
    rw [now] at cooling
    simpa [enterUnloading, opened, setLines, setLimitOf, Setc.entered] using cooling
  · refine postsFirst_of_tells (enterSet_posts .unloading none false s) ?_
    exact .ite (Tells.refl _) (enterSet_tells (Tells.refl _))

theorem enterFaulted_faults (cause : SetCause) (s : State) : Faults cause s.setc.attempts s (enterFaulted cause s) :=
  ⟨enterSet_enters s .faulted (some cause) true nofun, enterSet_tripped .faulted _ nofun (.inr rfl) s⟩

/-! ### The ends of the limits: O17 -/

/-- The state in which a crank has failed: one more attempt, the lines off, and its event (R51). -/
def crankFailure (s : State) : State :=
  postEvent .startFail (.node s.eventId) (s.setc.attempts + 1) 0
    (askLines (false, false) (s.withSetc { s.setc with attempts := s.setc.attempts + 1 }))

theorem crankFailed_eq (s : State) : crankFailed s =
    if s.setc.attempts + 1 = 3 then enterFaulted .startFail (crankFailure s)
    else enterSet .resting none false (crankFailure s) := by
  have attempts : (crankFailure s).setc.attempts = s.setc.attempts + 1 := by simp [crankFailure, askLines]
  have failed : crankFailed s = if (crankFailure s).setc.attempts = 3 then enterFaulted .startFail (crankFailure s)
    else enterSet .resting none false (crankFailure s) := rfl
  rw [failed, attempts]

/-- What stands before an entry in the same step shows in the attempt count alone. -/
theorem crankFailure_enters {st : SetState} {timer : Option Nat} {cause : Option SetCause}
    (h : Enters st false false timer cause (s.setc.attempts + 1) (crankFailure s) t) :
    Enters st false false timer cause (s.setc.attempts + 1) s t := by
  obtain ⟨setc, fpc, keeps, headroom⟩ := h
  have before : KeepsAllBut [.setc, .fpc, .evf, .plu, .slc, .pvt] s (crankFailure s) :=
    keepsAllBut_of (by simp [crankFailure, askLines])
  refine ⟨?_, ?_, before.trans keeps, headroom⟩
  · simpa [crankFailure, askLines] using setc
  · simpa [crankFailure, askLines] using fpc

theorem crankFailure_posts {st : SetState} {cause : Nat} (h : PostsFirst [setEvent (crankFailure s) st cause] (crankFailure s) t) :
    PostsFirst [(.startFail, .node s.eventId, s.setc.attempts + 1, 0), setEvent s st cause] s t := by
  have wrote := postEvent_wrote .startFail (.node s.eventId) (s.setc.attempts + 1) 0
    (askLines (false, false) (s.withSetc { s.setc with attempts := s.setc.attempts + 1 }))
  intro room
  obtain ⟨ring, lost⟩ := (wrote.of_start (u := s) rfl rfl rfl).written (by simp at room ⊢; omega)
  have second := h (by
    change (crankFailure s).evf.ring = _ at ring
    rw [ring]
    simp [stamped] at room ⊢
    omega)
  have clock : (crankFailure s).clock = s.clock := by simp [crankFailure, askLines]
  have event : setEvent (crankFailure s) st cause = setEvent s st cause := by
    simp [setEvent, crankFailure, askLines, State.eventId]
  rw [stamped_congr clock, event] at second
  change (crankFailure s).evf.ring = _ at ring
  change (crankFailure s).evf.lost = _ at lost
  rw [ring, lost] at second
  simpa [stamped] using second

theorem crankFailed_spec (s : State) :
    (s.setc.attempts ≠ 2 →
      Enters .resting false false (some (s.now + 20 * second)) none (s.setc.attempts + 1) s (crankFailed s) ∧
      PostsFirst [(.startFail, .node s.eventId, s.setc.attempts + 1, 0), setEvent s .resting 0] s (crankFailed s)) ∧
    (s.setc.attempts = 2 → Faults .startFail 3 s (crankFailed s) ∧
      PostsFirst [(.startFail, .node s.eventId, 3, 0), setEvent s .faulted 0] s (crankFailed s)) := by
  rw [crankFailed_eq]
  have attempts : (crankFailure s).setc.attempts = s.setc.attempts + 1 := by simp [crankFailure, askLines]
  have now : (crankFailure s).now = s.now := by simp [crankFailure, askLines, State.now]
  refine ⟨fun more => ?_, fun third => ?_⟩
  · rw [if_neg (by omega)]
    refine ⟨crankFailure_enters ?_, crankFailure_posts (enterSet_posts .resting none false _)⟩
    rw [← attempts, ← now]
    exact enterSet_enters _ .resting none false nofun
  · rw [if_pos (by omega)]
    have posts := crankFailure_posts (enterSet_posts .faulted (some .startFail) true (crankFailure s))
    obtain ⟨enters, pledges⟩ := enterFaulted_faults .startFail (crankFailure s)
    rw [attempts] at enters
    have faults := crankFailure_enters enters
    rw [third] at posts faults
    exact ⟨⟨faults, pledges⟩, posts⟩

/-- Settles O17. -/
theorem setLimitsEnd : Obligations.SetLimitsEnd := by
  intro s
  refine ⟨fun ended => ⟨_, exec_intentWindowEnd_of_intending ended, enterCranking_cranks s⟩, fun ended => ?_, fun ended => ?_,
    fun ended => ?_, fun ended => ?_, fun ended => ?_, fun ended => ?_, fun ended => ?_⟩
  all_goals have runs := setTimerEnded_of_timedOut ended
  · have other : setTimerEnded .intending s = false := by simp [setTimerEnded, ended.2.1]
    refine ⟨enterUnloading s, ?_, enterUnloading_unloads s⟩
    simp [exec, execIntentWindowEnd, other, runs]
  · exact ⟨_, congrArg Host.Outcome.next (if_pos runs), enterCranking_cranks s⟩
  · exact ⟨_, congrArg Host.Outcome.next (if_pos runs), crankFailed_spec s⟩
  · exact ⟨_, congrArg Host.Outcome.next (if_pos runs), enterSyncing_syncs false s, enterSyncing_posts false s⟩
  · exact ⟨_, congrArg Host.Outcome.next (if_pos runs), enterFaulted_faults .syncFail s, enterSet_posts .faulted (some .syncFail) true s⟩
  · exact ⟨_, congrArg Host.Outcome.next (if_pos runs), enterFaulted_faults .unloadFail s, enterSet_posts .faulted (some .unloadFail) true s⟩
  · exact ⟨_, congrArg Host.Outcome.next (if_pos runs), enterSet_enters s .stopped none false nofun, enterSet_posts .stopped none false s⟩

/-! ### The inputs: O18 -/

theorem gensetWorks_iff : s.gensetWorks = true ↔ Running s := by
  simp only [State.gensetWorks, Running, Bool.and_eq_true, decide_eq_true_eq]

/-- A stable raw level becomes the filtered level, and its block is told (R144). -/
theorem exec_filteredLevelChange_of_stable {line : FieldLine} {level : Bool} (h : Stable line level s) :
    exec (.filteredLevelChange line) s = .next (levelEvent line level (filtered line s)) := by
  obtain ⟨raw, d, since, due⟩ := h
  have stable : (s.fpc.filter line).stable s.fpc.filterTime s.now = true := by
    simpa [Filter.stable, since, reached] using due
  have changed : exec (.filteredLevelChange line) s = .next (filteredChange line s) := rfl
  rw [changed, filteredChange, if_pos stable, raw, filtered, raw]

theorem runningChange_effect (level : Bool) (s : State) :
    (∀ effect, inputEffect .running level s.setc.state = some effect → effect s (runningChange level s)) ∧
    (inputEffect .running level s.setc.state = none → runningChange level s = s) := by
  have stops := enterFaulted_faults .unexpectedStop s
  unfold runningChange
  cases level with
  | true =>
    by_cases cranking : s.setc.state = .cranking
    · simp [inputEffect, cranking, enterWarming_warms]
    · rw [if_pos rfl, if_neg cranking]
      refine ⟨fun effect named => ?_, fun _ => rfl⟩
      unfold inputEffect at named
      split at named <;> simp_all
  | false => cases state : s.setc.state <;> simp [inputEffect, stopUnexpected, stops]

theorem breakerChange_effect {level : Bool} {s : State} (filtered : s.fpc.breaker.level = level) :
    (∀ effect, inputEffect .breakerClosed level s.setc.state = some effect → effect s (breakerChange level s)) ∧
    (inputEffect .breakerClosed level s.setc.state = none → breakerChange level s = s) := by
  have tripped (opened : s.fpc.breaker.level = false) :
      Enters .syncing true true (some (s.now + 60 * second)) none s.setc.attempts s (enterSyncing true s) ∧
        (enterSyncing true s).plu.pledges = [] := by
    refine ⟨(enterSyncing_syncs true s).1 opened, ?_⟩
    have pledges := enterSet_tripped .syncing none nofun (.inl (rfl : true = true)) s
    simpa [enterSyncing, opened] using pledges
  have cools : Enters .cooling true false (some (s.now + 180 * second)) none s.setc.attempts s _ :=
    enterSet_enters s .cooling none false nofun
  have closes (syncing : s.setc.state = .syncing) :
      Enters .online true true none none s.setc.attempts s (enterOnline s) :=
    enterSet_enters s .online none false (by simp [syncing])
  cases level with
  | true => cases state : s.setc.state <;> simp [inputEffect, breakerChange, state, closes]
  | false => cases state : s.setc.state <;> simp [inputEffect, breakerChange, state, tripped, filtered, cools]

theorem setFaultChange_effect (level : Bool) (s : State) :
    (∀ effect, inputEffect .setFault level s.setc.state = some effect → effect s (setFaultChange level s)) ∧
    (inputEffect .setFault level s.setc.state = none → setFaultChange level s = s) := by
  have faults := enterFaulted_faults .setFault s
  cases level with
  | true => cases state : s.setc.state <;> simp [inputEffect, setFaultChange, state, faults]
  | false => simp [inputEffect, setFaultChange]

/-- Settles O18. -/
theorem setInputs : Obligations.SetInputs := by
  intro s line level input stable
  refine ⟨_, exec_filteredLevelChange_of_stable stable, ?_⟩
  have raw := stable.1
  have works : (filtered line s).gensetWorks = true ↔ Running s := gensetWorks_iff (s := filtered line s)
  have setc : (filtered line s).setc = s.setc := rfl
  have acts {change : Bool → State → State} (h : levelEvent line level (filtered line s) =
      if (filtered line s).gensetWorks then change level (filtered line s) else filtered line s)
      (spec : (∀ effect, inputEffect line level s.setc.state = some effect →
          effect (filtered line s) (change level (filtered line s))) ∧
        (inputEffect line level s.setc.state = none → change level (filtered line s) = filtered line s)) :
      (Running s → ∀ effect, inputEffect line level s.setc.state = some effect →
        effect (filtered line s) (levelEvent line level (filtered line s))) ∧
      (¬Running s ∨ inputEffect line level s.setc.state = none → levelEvent line level (filtered line s) = filtered line s) := by
    rw [h]
    by_cases running : Running s
    · rw [if_pos (works.mpr running)]
      exact ⟨fun _ => spec.1, fun quiet => spec.2 (quiet.resolve_left (not_not.mpr running))⟩
    · rw [if_neg (mt works.mp running)]
      exact ⟨fun runs => absurd runs running, fun _ => rfl⟩
  simp only [List.mem_cons, List.not_mem_nil, or_false] at input
  rcases input with rfl | rfl | rfl
  · exact acts rfl (runningChange_effect level (filtered .running s))
  · exact acts rfl (breakerChange_effect (s := filtered .breakerClosed s) raw)
  · exact acts rfl (setFaultChange_effect level (filtered .setFault s))

/-! ### SET_MODE and SET_RUN: O20 -/

theorem exec_setMode {tag m : Byte} {mode : RunMode} (works : Running s) (code : m.toNat = mode.code) :
    exec (.setMode tag m) s = .next ((changeMode mode s).answered tag .ok []) := by
  simp only [exec, execSetMode, gated_taken s (takes_genset_iff.mpr works), code]
  cases mode <;> rfl

theorem changeMode_spec {mode : RunMode} (other : s.setc.mode ≠ mode) :
    let x := s.withSetc { s.setc with mode := mode, startWatch := none, stopWatch := none }
    (mode = .manual ∧ s.setc.state = .intending → Enters .stopped false false none none s.setc.attempts x (changeMode mode s)) ∧
    (mode = .manual ∧ s.setc.state = .stopIntending →
      Enters .online true true none none s.setc.attempts x (changeMode mode s)) ∧
    (mode = .auto ∨ s.setc.state ≠ .intending ∧ s.setc.state ≠ .stopIntending → changeMode mode s = x) := by
  intro x
  have state : x.setc.state = s.setc.state := rfl
  have stopped : Enters .stopped false false none none s.setc.attempts x (enterStopped x) :=
    enterSet_enters x .stopped none false nofun
  have online (intending : s.setc.state = .stopIntending) :
      Enters .online true true none none s.setc.attempts x (enterOnline x) :=
    enterSet_enters x .online none false (by simp [x, intending])
  unfold changeMode
  rw [if_neg other]
  dsimp only
  rw [show (s.withSetc { s.setc with mode := mode, startWatch := none, stopWatch := none }) = x from rfl, state]
  refine ⟨?_, ?_, ?_⟩
  · rintro ⟨rfl, intending⟩
    rw [intending]
    exact stopped
  · rintro ⟨rfl, intending⟩
    rw [intending]
    exact online intending
  · rintro (rfl | ⟨notStart, notStop⟩)
    · rfl
    · split <;> simp_all

theorem exec_setRun (tag : Byte) (isOn : Bool) (works : Running s) : exec (.setRun tag (if isOn then 0 else 1)) s =
    .next (if s.setc.mode ≠ .manual then s.answered tag .state [] else if isOn then runOn tag s else runOff tag s) := by
  simp only [exec, execSetRun, gated_taken s (takes_genset_iff.mpr works)]
  cases isOn <;> rfl

/-- The rows of SET_RUN ON (R60). -/
theorem runOn_effect (tag : Byte) (s : State) :
    (∀ effect, runEffect true s.setc.state = some effect → ∃ u : State, runOn tag s = u.answered tag .ok [] ∧ effect s u) ∧
    (s.setc.state = .cooling ∨ s.setc.state = .faulted → runOn tag s = s.answered tag .state []) ∧
    (runEffect true s.setc.state = none → s.setc.state ≠ .cooling ∧ s.setc.state ≠ .faulted →
      runOn tag s = s.answered tag .ok []) := by
  have cranks : ∃ u : State, respond tag .ok [] (enterCranking s) = u.answered tag .ok [] ∧ Cranks s u :=
    ⟨_, rfl, enterCranking_cranks s⟩
  have syncs : ∃ u : State, respond tag .ok [] (enterSyncing false s) = u.answered tag .ok [] ∧ Syncs s.setc.attempts s u :=
    ⟨_, rfl, enterSyncing_syncs false s⟩
  have quiet : respond tag .ok [] s = s.answered tag .ok [] := rfl
  have refused : refuse tag .state s = s.answered tag .state [] := rfl
  unfold runOn
  cases state : s.setc.state <;> simp only [runEffect] <;> simp [cranks, syncs, quiet, refused]

/-- The rows of SET_RUN OFF (R60). -/
theorem runOff_effect (tag : Byte) (s : State) :
    (∀ effect, runEffect false s.setc.state = some effect → (s.setc.state = .online → s.plu.pledges = []) →
      ∃ u : State, runOff tag s = u.answered tag .ok [] ∧ effect s u) ∧
    (s.setc.state = .online → s.plu.pledges ≠ [] → runOff tag s = s.answered tag .busy []) ∧
    (runEffect false s.setc.state = none → runOff tag s = s.answered tag .ok []) := by
  have stops : ∃ u : State, respond tag .ok [] (enterStopped (s.withSetc { s.setc with attempts := 0 })) =
      u.answered tag .ok [] ∧ Enters .stopped false false none none 0 s u := ⟨_, rfl, enterStopped_enters s⟩
  have cools : ∃ u : State, respond tag .ok [] (enterSet .cooling none false s) = u.answered tag .ok [] ∧
      Enters .cooling true false (some (s.now + 180 * second)) none s.setc.attempts s u :=
    ⟨_, rfl, enterSet_enters s .cooling none false nofun⟩
  have unloads : ∃ u : State, respond tag .ok [] (enterUnloading s) = u.answered tag .ok [] ∧ Unloads s u :=
    ⟨_, rfl, enterUnloading_unloads s⟩
  have quiet : respond tag .ok [] s = s.answered tag .ok [] := rfl
  have busy : refuse tag .busy s = s.answered tag .busy [] := rfl
  unfold runOff
  cases state : s.setc.state <;> simp only [runEffect] <;> simp +contextual [stops, cools, unloads, quiet, busy]

/-- Settles O20. -/
theorem setModeAndRun : Obligations.SetModeAndRun := by
  refine ⟨fun s tag m mode works code => ⟨fun same => ?_, fun other => ?_⟩, fun s tag isOn works => ?_⟩
  · rw [exec_setMode works code, changeMode, if_pos same]
  · exact ⟨_, exec_setMode works code, changeMode_spec other⟩
  · have run := exec_setRun tag isOn works
    refine ⟨fun auto => ?_, fun manual => ?_⟩
    · rw [run, if_pos (by simp [auto])]
    · rw [if_neg (not_not.mpr manual)] at run
      cases isOn with
      | true =>
        obtain ⟨effects, refused, quiet⟩ := runOn_effect tag s
        refine ⟨fun effect named _ => ?_, nofun, fun _ state => run.trans (congrArg _ (refused state)), fun none rows =>
          run.trans (congrArg _ (quiet none (rows.resolve_left nofun)))⟩
        obtain ⟨u, made, done⟩ := effects effect named
        exact ⟨u, run.trans (congrArg _ made), done⟩
      | false =>
        obtain ⟨effects, busy, quiet⟩ := runOff_effect tag s
        refine ⟨fun effect named empty => ?_, fun _ online held => run.trans (congrArg _ (busy online held)), nofun,
          fun none _ => run.trans (congrArg _ (quiet none))⟩
        obtain ⟨u, made, done⟩ := effects effect named (empty rfl)
        exact ⟨u, run.trans (congrArg _ made), done⟩

end Sys2Proof.Machine
end

section
/-! The group check and the contests of INTENTs (R44 to R50, R55): O21. -/

namespace Sys2Proof.Machine

open Sys2Proof.Claims

variable {s t u : State}

/-! ### Offers with room (R8) -/

/-- A bulletin other than a STATUS joins a queue with room (R8). -/
theorem offer_joins {b : Bulletin} {cls : TxClass} (run : s.hpt.nodeState = .run) (other : b.isStatus = false)
    (room : s.slc.queue.length < 16) :
    offer b cls s = s.withSlc { s.slc with queue := joinQueue (freshEntry b cls) s.slc.queue } := by
  simp [offer, run, other, offerNew, room]

theorem replaceStatus_length {b : Bulletin} {c d : Slc} (h : replaceStatus b c = some d) :
    d.queue.length ≤ c.queue.length := by
  unfold replaceStatus at h
  repeat' split at h
  all_goals cases h
  · exact le_rfl
  · exact spliceFirst_length_le _ (by simp) _
  · exact le_rfl

/-- An offer lengthens the queue by one at most. -/
theorem offer_length (b : Bulletin) (cls : TxClass) (s : State) :
    (offer b cls s).slc.queue.length ≤ s.slc.queue.length + 1 := by
  have fresh : (offerNew b cls s).slc.queue.length ≤ s.slc.queue.length + 1 := by
    simp only [offerNew]
    split
    · simp
    · split
      · split
        · rename_i evicted
          have length := (evict_spec evicted).1
          simp
          omega
        · simp [dropFull, postDrop]
      · split <;> simp [dropFull, postDrop]
  unfold offer
  split
  · split
    · rename_i replaced
      split at replaced
      · exact (replaceStatus_length replaced).trans (Nat.le_succ _)
      · cases replaced
    · exact fresh
  · exact Nat.le_succ _

theorem extraCause_length (s : State) : (extraCause s).slc.queue.length ≤ s.slc.queue.length + 1 := by
  unfold extraCause offerExtra offerStatus
  repeat' split
  · exact Nat.le_succ _
  · exact Nat.le_succ _
  · exact Nat.le_succ _
  · exact offer_length ..
  · exact Nat.le_succ _

/-- An entry without a trip notice to a state without headroom offers one STATUS at most. -/
theorem enterSet_length {st : SetState} (cause : Option SetCause) (offline : st ≠ .online) (calm : st ≠ .faulted) (s : State) :
    (enterSet st cause false s).slc.queue.length ≤ s.slc.queue.length + 1 := by
  have noTrip : ¬(false = true ∨ st = .faulted) := by simp [calm]
  simp only [enterSet, if_neg noTrip]
  refine (extraCause_length _).trans ?_
  rw [servePledges_offline (by simpa [Setc.entered] using offline)]
  simp [refreshHeadroom, askLines]

/-! ### Announcements (R46, R49) -/

/-- What an announcement leaves. -/
theorem announceIntent_spec (kind : IntentKind) (s : State) :
    let st : SetState := match kind with
      | .start => .intending
      | .stop => .stopIntending
    let t := announceIntent kind s
    t.setc = { s.setc with
      state := st, timer := some (s.now + 3 * second), cause := none
      intentKey := some s.fau.minutes, intentSerial := (s.setc.intentSerial + 1) % 256 } ∧
    t.fpc = { s.fpc with runRequest := (setLines st).1, loadEnable := (setLines st).2 } ∧ t.plu.headroom = 0 ∧
    (s.setc.state = .online → t.plu.ci = 0) ∧
    (s.hpt.nodeState = .run → s.slc.queue.length < 15 → ∃ e ∈ t.slc.queue, e.cls = .normal ∧ e.bulletin =
      .intent s.cfg.groupA kind s.fau.minutes ((s.setc.intentSerial + 1) % 256)) := by
  intro st t
  have offline : st ≠ .online := by cases kind <;> decide
  have calm : st ≠ .faulted := by cases kind <;> decide
  have limit : setLimitOf s.cfg.warmUp st = some (3 * second) := by cases kind <;> rfl
  have entered : t = offer (.intent (enterSet st none false (s.withSetc { s.setc with
      intentKey := some s.fau.minutes, intentSerial := (s.setc.intentSerial + 1) % 256 })).cfg.groupA kind s.fau.minutes
      ((s.setc.intentSerial + 1) % 256)) .normal (enterSet st none false (s.withSetc { s.setc with
      intentKey := some s.fau.minutes, intentSerial := (s.setc.intentSerial + 1) % 256 })) := rfl
  have setc : (enterSet st none false (s.withSetc { s.setc with
      intentKey := some s.fau.minutes, intentSerial := (s.setc.intentSerial + 1) % 256 })).setc = { s.setc with
      state := st, timer := some (s.now + 3 * second), cause := none
      intentKey := some s.fau.minutes, intentSerial := (s.setc.intentSerial + 1) % 256 } := by
    have stays : st ≠ .stopped := by cases kind <;> decide
    rw [enterSet_setc]
    simp only [Setc.entered, State.cfg, State.withSetc_hpt] at limit ⊢
    rw [limit]
    simp [calm, offline, stays, State.now]
  have fpc := enterSet_fpc (s.withSetc { s.setc with
    intentKey := some s.fau.minutes, intentSerial := (s.setc.intentSerial + 1) % 256 }) st none false
  have headroom := enterSet_headroom (s.withSetc { s.setc with
    intentKey := some s.fau.minutes, intentSerial := (s.setc.intentSerial + 1) % 256 }) st none false offline
  have ci (online : s.setc.state = .online) := enterSet_ci_of_leaving_online (s := s.withSetc { s.setc with
    intentKey := some s.fau.minutes, intentSerial := (s.setc.intentSerial + 1) % 256 }) none false online offline
  have length := enterSet_length none offline calm (s.withSetc { s.setc with
    intentKey := some s.fau.minutes, intentSerial := (s.setc.intentSerial + 1) % 256 })
  have hpt : (enterSet st none false (s.withSetc { s.setc with
    intentKey := some s.fau.minutes, intentSerial := (s.setc.intentSerial + 1) % 256 })).hpt = s.hpt := by simp
  generalize enterSet st none false _ = x at entered setc fpc headroom ci length hpt
  have group : x.cfg.groupA = s.cfg.groupA := by simp only [State.cfg, hpt]
  rw [group] at entered
  refine ⟨?_, ?_, ?_, fun online => ?_, fun run room => ?_⟩
  · simpa [entered] using setc
  · simpa [entered] using fpc
  · simpa [entered] using headroom
  · simpa [entered] using ci online
  · have joins := offer_joins (b := .intent s.cfg.groupA kind s.fau.minutes ((s.setc.intentSerial + 1) % 256)) (cls := .normal)
      (s := x) (hpt ▸ run) rfl (by simp at length; omega)
    refine ⟨freshEntry (.intent s.cfg.groupA kind s.fau.minutes ((s.setc.intentSerial + 1) % 256)) .normal, ?_, rfl, rfl⟩
    rw [entered, joins]
    exact mem_joinQueue.mpr (.inl rfl)

/-! ### The group check (R44 to R46, R48, R49, R55) -/

theorem startCondition_iff : startCondition s = true ↔ 0 < onlineCapacity s.cfg.groupA s ∧
    s.cfg.startThreshold < min (1000 * onlineLoad s.cfg.groupA s / onlineCapacity s.cfg.groupA s) 1000 := by
  unfold startCondition utilisation
  by_cases none : onlineCapacity s.cfg.groupA s = 0
  · simp [none]
  · simp [none, Nat.pos_of_ne_zero none]

theorem stopCondition_iff : stopCondition s = true ↔
    (0 < onlineCapacity s.cfg.groupA s - s.cfg.rating ∧ min (1000 * onlineLoad s.cfg.groupA s /
      (onlineCapacity s.cfg.groupA s - s.cfg.rating)) 1000 < s.cfg.stopThreshold) ∨
    (onlineCapacity s.cfg.groupA s - s.cfg.rating = 0 ∧ onlineLoad s.cfg.groupA s = 0) := by
  unfold stopCondition utilisation
  by_cases none : onlineCapacity s.cfg.groupA s - s.cfg.rating = 0
  · simp [none]
  · simp [none, Nat.pos_of_ne_zero none]

theorem ranDelay_iff {delay now : Nat} {w : Option Watch} :
    ranDelay delay now w = true ↔ ∃ x, w = some x ∧ x.since + delay * second ≤ now := by
  cases w <;> simp [ranDelay]

theorem namesSelf_iff {v : Option SetView} : namesSelf v s = true ↔ ∃ x, v = some x ∧ x.node = s.eventId := by
  cases v <;> simp [namesSelf]

theorem groupCheck_works (notice : Bool) (works : Running s) (auto : s.setc.mode = .auto) : groupCheck notice s =
    match s.setc.state with
    | .stopped => checkStopped notice s
    | .online => checkOnline s
    | .unloading => if startCondition s then enterSyncing false s else s
    | _ => s := if_pos ⟨gensetWorks_iff.mpr works, auto⟩

theorem takeIntent_works (sender : Nat) (kind : IntentKind) (key : Nat) (works : Running s) :
    takeIntent sender s.cfg.groupA kind key s = match s.setc.state, kind with
      | .intending, .start => if outranks key sender s then enterStopped s else s
      | .stopIntending, .start => enterOnline s
      | .stopIntending, .stop => if worseRanked key sender s then enterOnline s else s
      | _, _ => s := if_pos ⟨gensetWorks_iff.mpr works, rfl⟩

theorem groupCheck_idle (notice : Bool) (h : ¬Running s ∨ s.setc.mode = .manual ∨
    (s.setc.state ≠ .stopped ∧ s.setc.state ≠ .online ∧ s.setc.state ≠ .unloading)) : groupCheck notice s = s := by
  by_cases works : Running s ∧ s.setc.mode = .auto
  · obtain ⟨running, auto⟩ := works
    have other := (h.resolve_left (not_not.mpr running)).resolve_left (by simp [auto])
    rw [groupCheck_works notice running auto]
    split <;> simp_all
  · exact if_neg fun runs => works ⟨gensetWorks_iff.mp runs.1, runs.2⟩

/-- The check of a STOPPED set (R45, R46). -/
theorem checkStopped_spec (notice : Bool) (works : Running s) (auto : s.setc.mode = .auto) (stopped : s.setc.state = .stopped) :
    let w := if 0 < onlineCapacity s.cfg.groupA s ∧ s.cfg.startThreshold <
        min (1000 * onlineLoad s.cfg.groupA s / onlineCapacity s.cfg.groupA s) 1000
      then some (s.setc.startWatch.getD ⟨s.now, s.siteSec⟩) else none
    let candidate := (∃ x, w = some x ∧ x.since + s.cfg.startDelay * second ≤ s.now) ∨
      onlineCount s.cfg.groupA s < s.cfg.minOnline ∨ notice = true ∧ onlineCapacity s.cfg.groupA s = 0
    let named := ∃ v, bestStopped s.cfg.groupA s = some v ∧ v.node = s.eventId
    (¬(s.fau.factor = 1000 ∧ candidate ∧ named) →
      groupCheck notice s = { s with setc := { s.setc with startWatch := w } }) ∧
    (s.fau.factor = 1000 ∧ candidate ∧ named →
      (groupCheck notice s).setc = { s.setc with
        state := .intending, timer := some (s.now + 3 * second), cause := none, startWatch := w
        intentKey := some s.fau.minutes, intentSerial := (s.setc.intentSerial + 1) % 256 } ∧
      (s.hpt.nodeState = .run → s.slc.queue.length < 15 →
        ∃ e ∈ (groupCheck notice s).slc.queue, e.cls = .normal ∧ e.bulletin =
          .intent s.cfg.groupA .start s.fau.minutes ((s.setc.intentSerial + 1) % 256))) := by
  intro w candidate named
  have watch : keepWatch (startCondition s) s.now s.siteSec s.setc.startWatch = w := by
    simp only [keepWatch, startCondition_iff, w]
  have check : groupCheck notice s = if s.fau.factor = 1000 ∧ candidate ∧ named then
      announceIntent .start (s.withSetc { s.setc with startWatch := w }) else s.withSetc { s.setc with startWatch := w } := by
    rw [groupCheck_works notice works auto, stopped]
    dsimp only
    unfold checkStopped
    dsimp only
    rw [watch]
    refine if_congr (and_congr .rfl (and_congr ?_ ?_)) rfl rfl
    · simp only [Bool.or_eq_true, Bool.and_eq_true, decide_eq_true_eq, ranDelay_iff, or_assoc]
      rfl
    · exact namesSelf_iff
  rw [check]
  refine ⟨fun stays => if_neg stays, fun goes => ?_⟩
  rw [if_pos goes]
  obtain ⟨setc, -, -, -, queued⟩ := announceIntent_spec .start (s.withSetc { s.setc with startWatch := w })
  exact ⟨setc, queued⟩

/-- The check of an ONLINE set (R48, R49). -/
theorem checkOnline_spec (notice : Bool) (works : Running s) (auto : s.setc.mode = .auto) (online : s.setc.state = .online) :
    let load := onlineLoad s.cfg.groupA s
    let rest := onlineCapacity s.cfg.groupA s - s.cfg.rating
    let w := if 0 < rest ∧ min (1000 * load / rest) 1000 < s.cfg.stopThreshold ∨ rest = 0 ∧ load = 0
      then some (s.setc.stopWatch.getD ⟨s.now, s.siteSec⟩) else none
    let leaves := (∃ x, w = some x ∧ x.since + s.cfg.stopDelay * second ≤ s.now) ∧ s.plu.pledges = [] ∧
      s.cfg.minOnline < onlineCount s.cfg.groupA s ∧
      ∃ v, worstOnline s.cfg.groupA s = some v ∧ v.node = s.eventId
    (¬leaves → groupCheck notice s = { s with setc := { s.setc with stopWatch := w } }) ∧
    (leaves →
      let t := groupCheck notice s
      t.setc = { s.setc with
        state := .stopIntending, timer := some (s.now + 3 * second), cause := none, stopWatch := w
        intentKey := some s.fau.minutes, intentSerial := (s.setc.intentSerial + 1) % 256 } ∧
      t.fpc = { s.fpc with runRequest := true, loadEnable := true } ∧ t.plu.ci = 0 ∧ t.plu.headroom = 0 ∧
      (s.hpt.nodeState = .run → s.slc.queue.length < 15 →
        ∃ e ∈ t.slc.queue, e.cls = .normal ∧ e.bulletin =
          .intent s.cfg.groupA .stop s.fau.minutes ((s.setc.intentSerial + 1) % 256))) := by
  intro load rest w leaves
  have watch : keepWatch (stopCondition s) s.now s.siteSec s.setc.stopWatch = w := by
    simp only [keepWatch, stopCondition_iff, w, load, rest]
  have check : groupCheck notice s = if leaves then
      announceIntent .stop (s.withSetc { s.setc with stopWatch := w }) else s.withSetc { s.setc with stopWatch := w } := by
    rw [groupCheck_works notice works auto, online]
    dsimp only
    unfold checkOnline
    dsimp only
    rw [watch]
    refine if_congr (and_congr ranDelay_iff (and_congr .rfl (and_congr .rfl namesSelf_iff))) rfl rfl
  rw [check]
  refine ⟨fun stays => if_neg stays, fun goes => ?_⟩
  rw [if_pos goes]
  obtain ⟨setc, fpc, headroom, ci, queued⟩ := announceIntent_spec .stop (s.withSetc { s.setc with stopWatch := w })
  exact ⟨setc, fpc, ci online, headroom, queued⟩

/-! ### The contests (R47, R50) -/

theorem outranks_iff {key sender own : Nat} (held : s.setc.intentKey = some own) :
    outranks key sender s = true ↔ own < key ∨ key = own ∧ sender < s.eventId := by
  simp [outranks, held]

theorem worseRanked_iff {key sender own : Nat} (held : s.setc.intentKey = some own) :
    worseRanked key sender s = true ↔ key < own ∨ key = own ∧ s.eventId < sender := by
  simp [worseRanked, held]

theorem takeIntent_spec (sender key : Nat) {own : Nat} (works : Running s) (held : s.setc.intentKey = some own) :
    (∀ group kind, group ≠ s.cfg.groupA → takeIntent sender group kind key s = s) ∧
    (s.setc.state = .intending →
      let ahead := own < key ∨ key = own ∧ sender < s.eventId
      (ahead → Enters .stopped false false none none s.setc.attempts s
        (takeIntent sender s.cfg.groupA .start key s)) ∧
      (¬ahead → takeIntent sender s.cfg.groupA .start key s = s) ∧
      takeIntent sender s.cfg.groupA .stop key s = s) ∧
    (s.setc.state = .stopIntending →
      let worse := key < own ∨ key = own ∧ s.eventId < sender
      Enters .online true true none none s.setc.attempts s (takeIntent sender s.cfg.groupA .start key s) ∧
      (worse → Enters .online true true none none s.setc.attempts s
        (takeIntent sender s.cfg.groupA .stop key s)) ∧
      (¬worse → takeIntent sender s.cfg.groupA .stop key s = s)) ∧
    (s.setc.state ≠ .intending → s.setc.state ≠ .stopIntending →
      ∀ group kind, takeIntent sender group kind key s = s) := by
  have foreign (group : Nat) (kind : IntentKind) (other : group ≠ s.cfg.groupA) : takeIntent sender group kind key s = s :=
    if_neg fun takes => other takes.2
  have heard (kind : IntentKind) := takeIntent_works sender kind key works
  refine ⟨foreign, fun intending => ?_, fun intending => ?_, fun notStart notStop group kind => ?_⟩
  · have stops : Enters .stopped false false none none s.setc.attempts s (enterStopped s) :=
      enterSet_enters s .stopped none false nofun
    rw [heard .start, heard .stop, intending]
    refine ⟨fun ahead => ?_, fun behind => ?_, rfl⟩
    · rw [if_pos ((outranks_iff held).mpr ahead)]
      exact stops
    · rw [if_neg (mt (outranks_iff held).mp behind)]
  · have onlines : Enters .online true true none none s.setc.attempts s (enterOnline s) :=
      enterSet_enters s .online none false (by simp [intending])
    rw [heard .start, heard .stop, intending]
    refine ⟨onlines, fun worse => ?_, fun better => ?_⟩
    · rw [if_pos ((worseRanked_iff held).mpr worse)]
      exact onlines
    · rw [if_neg (mt (worseRanked_iff held).mp better)]
  · by_cases own : group = s.cfg.groupA
    · rw [own, heard]
      split <;> simp_all
    · exact foreign group kind own

/-- Settles O21. -/
theorem startContest : Obligations.StartContest := by
  refine ⟨fun s notice idle => ?_, fun s notice w works auto stopped hw => ?_, fun s notice w works auto online => ?_,
    fun s notice works auto unloading => ?_, fun s sender key own works held => ?_⟩
  · exact groupCheck_idle notice idle
  · subst hw
    exact checkStopped_spec notice works auto stopped
  · intro load rest hw
    subst hw
    exact checkOnline_spec notice works auto online
  · rw [groupCheck_works notice works auto, unloading]
    refine ⟨fun high => ?_, fun low => ?_⟩
    · rw [if_pos (startCondition_iff.mpr high)]
      exact enterSyncing_syncs false s
    · rw [if_neg (mt startCondition_iff.mp low)]
  · exact takeIntent_spec sender key works held

end Sys2Proof.Machine
end

section
/-! Burning, the fuel figures and flow pulses (R67 to R74, R77, R81): O22, O23, O24. -/

namespace Sys2Proof.Machine

open Sys2Proof.Claims

variable {s t u : State}

/-! ### The figures (R72 to R74): O23 -/

theorem recomputeFuel_eq {c : FuelConfig} (copy : s.fau.copy = some c) : recomputeFuel s =
    refuelTest c.refuelAt (s.withFau { s.fau with
      minutes := minutesOf s.fau.tank s.fau.flow, factor := factorOf c.mLow c.mCrit (minutesOf s.fau.tank s.fau.flow) }) := by
  rw [recomputeFuel, copy]

/-- What the refuel test leaves: the flag, with its event where it changes. -/
theorem refuelTest_spec (n : Nat) (s : State) :
    let t := refuelTest n s
    (s.fau.refuelWanted = false → s.fau.minutes < n → t.fau.refuelWanted = true ∧
      Posts [(.refuel, .node s.eventId, s.fau.minutes, 0)] s t) ∧
    (s.fau.refuelWanted = true → min (n + 30) 65535 ≤ s.fau.minutes → t.fau.refuelWanted = false ∧
      Posts [(.refuel, .node s.eventId, s.fau.minutes, 1)] s t) ∧
    (s.fau.refuelWanted = false ∧ n ≤ s.fau.minutes ∨ s.fau.refuelWanted = true ∧ s.fau.minutes < min (n + 30) 65535 → t = s) ∧
    t.fau = { s.fau with refuelWanted := t.fau.refuelWanted } := by
  intro t
  have same : t = if s.fau.refuelWanted = false ∧ s.fau.minutes < n then
      postEvent .refuel (.node s.eventId) s.fau.minutes 0 (s.withFau { s.fau with refuelWanted := true })
    else if s.fau.refuelWanted = true ∧ min (n + 30) 65535 ≤ s.fau.minutes then
      postEvent .refuel (.node s.eventId) s.fau.minutes 1 (s.withFau { s.fau with refuelWanted := false }) else s := rfl
  have posted (b : Bool) (q : Nat) : Posts [(.refuel, .node s.eventId, s.fau.minutes, q)] s
      (postEvent .refuel (.node s.eventId) s.fau.minutes q (s.withFau { s.fau with refuelWanted := b })) :=
    (postEvent_wrote_on ..).posts
  rw [same]
  refine ⟨fun off low => ?_, fun on high => ?_, fun quiet => ?_, ?_⟩
  · rw [if_pos ⟨off, low⟩]
    exact ⟨by simp, posted true 0⟩
  · rw [if_neg (by simp [on]), if_pos ⟨on, high⟩]
    exact ⟨by simp, posted false 1⟩
  · rw [if_neg, if_neg]
    · rintro ⟨on, high⟩
      rcases quiet with ⟨off, -⟩ | ⟨-, low⟩
      · simp [on] at off
      · omega
    · rintro ⟨off, low⟩
      rcases quiet with ⟨-, high⟩ | ⟨on, -⟩
      · omega
      · simp [off] at on
  · split
    · simp
    · split <;> simp

/-- Settles O23. -/
theorem fuelFigures : Obligations.FuelFigures := by
  intro s c copy
  rw [recomputeFuel_eq copy]
  obtain ⟨sets, clears, stays, kept⟩ := refuelTest_spec c.refuelAt (s.withFau { s.fau with
      minutes := minutesOf s.fau.tank s.fau.flow, factor := factorOf c.mLow c.mCrit (minutesOf s.fau.tank s.fau.flow) })
  generalize figures : s.withFau { s.fau with
    minutes := minutesOf s.fau.tank s.fau.flow, factor := factorOf c.mLow c.mCrit (minutesOf s.fau.tank s.fau.flow) } = x
    at sets clears stays kept
  have frame : KeepsAllBut [.fau, .evf] s (refuelTest c.refuelAt x) := by
    subst figures
    exact keepsAllBut_of (by simp)
  have minutes : x.fau.minutes = minutesOf s.fau.tank s.fau.flow := by rw [← figures]; rfl
  have factor : x.fau.factor = factorOf c.mLow c.mCrit x.fau.minutes := by rw [minutes, ← figures]; rfl
  have wanted : x.fau.refuelWanted = s.fau.refuelWanted := by rw [← figures]; rfl
  have event : x.eventId = s.eventId := by rw [← figures]; rfl
  have evf : x.evf = s.evf := by rw [← figures]; rfl
  have clock : x.clock = s.clock := by rw [← figures]; rfl
  have from_s {l : List (EventKind × Subject × Nat × Nat)} (h : Posts l x (refuelTest c.refuelAt x)) :
      Posts l s (refuelTest c.refuelAt x) := by
    intro room
    rw [← evf] at room ⊢
    rw [← stamped_congr clock]
    exact h room
  have fau : x.fau = { s.fau with minutes := x.fau.minutes, factor := x.fau.factor } := by rw [← figures]; rfl
  generalize refuelTest c.refuelAt x = y at *
  intro t tank m
  have m_eq : m = x.fau.minutes := by simp only [m, t]; rw [kept]
  have factor_eq : t.fau.factor = factorOf c.mLow c.mCrit m := by
    rw [m_eq, ← factor]
    simp only [t]
    rw [kept]
  have minutesOf_eq : m = minutesOf tank s.fau.flow := m_eq.trans minutes
  rw [wanted, event] at sets clears
  rw [wanted] at stays
  rw [← m_eq] at sets clears stays
  refine ⟨fun empty => ?_, fun full still => ?_, fun full flows => ?_, fun high => ?_, fun low dry => ?_, fun above below => ?_,
    fun off low => ?_, fun on high => ?_, fun quiet => ?_, ?_, frame⟩
  · rw [minutesOf_eq, minutesOf, if_pos empty]
  · rw [minutesOf_eq, minutesOf, if_neg full.ne', if_pos still]
  · rw [minutesOf_eq, minutesOf, if_neg full.ne', if_neg flows.ne']
  · rw [factor_eq, factorOf, if_pos high]
  · rw [factor_eq, factorOf, if_neg (by omega), if_pos dry]
  · rw [factor_eq, factorOf, if_neg (by omega), if_neg (by omega)]
  · exact ⟨(sets off low).1, from_s (sets off low).2⟩
  · exact ⟨(clears on high).1, from_s (clears on high).2⟩
  · have same : t = x := stays quiet
    rw [same]
    exact ⟨wanted, evf⟩
  · have t_eq : t.fau = { x.fau with refuelWanted := t.fau.refuelWanted } := kept
    rw [fau] at t_eq
    have factor' : x.fau.factor = t.fau.factor := by rw [factor_eq, m_eq, factor]
    rw [t_eq]
    simp [m_eq, factor']

/-! ### Flow pulses (R77, R81, R146): O24 -/

/-- An open delivery after some pulses (R77). -/
def Delivery.after (d : Delivery) (k now sec n : Nat) : Delivery :=
  { d with
    metered := d.metered + (d.carry + n * 1000) / k
    carry := (d.carry + n * 1000) % k
    lastPulse := sec
    autoClose := now + 600 * second }

/-- The node after some pulses into an open delivery. -/
def afterPulses (k n : Nat) (d : Delivery) (s : State) : State :=
  { s with
    fpc := { s.fpc with pulses := (s.fpc.pulses + n) % 2 ^ 32 }
    fau := { s.fau with delivery := some (d.after k s.now s.siteSec n) } }

/-- One pulse and more behind it (R77). -/
theorem after_after (d : Delivery) (k now sec n : Nat) :
    (d.after k now sec 1).after k now sec n = d.after k now sec (n + 1) := by
  have split : d.carry + (n + 1) * 1000 = n * 1000 + (d.carry + 1000) := by omega
  have whole : (d.carry + 1 * 1000) / k + ((d.carry + 1 * 1000) % k + n * 1000) / k = (d.carry + (n + 1) * 1000) / k := by
    rcases Nat.eq_zero_or_pos k with rfl | positive
    · simp
    · rw [split, Nat.one_mul, Nat.add_comm, ← Nat.add_mul_div_left _ _ positive]
      congr 1
      have := Nat.div_add_mod (d.carry + 1000) k
      omega
  have left : ((d.carry + 1 * 1000) % k + n * 1000) % k = (d.carry + (n + 1) * 1000) % k := by
    rw [split, Nat.one_mul, Nat.mod_add_mod, Nat.add_comm]
  simp only [Delivery.after, left, Nat.add_assoc, whole]

theorem afterPulses_afterPulses (k n : Nat) (d : Delivery) (s : State) :
    afterPulses k n (d.after k s.now s.siteSec 1) (afterPulses k 1 d s) = afterPulses k (n + 1) d s := by
  have total : ((s.fpc.pulses + 1) % 2 ^ 32 + n) % 2 ^ 32 = (s.fpc.pulses + (n + 1)) % 2 ^ 32 := by omega
  have clock : (afterPulses k 1 d s).now = s.now ∧ (afterPulses k 1 d s).siteSec = s.siteSec := ⟨rfl, rfl⟩
  rw [afterPulses, clock.1, clock.2, after_after]
  simp only [afterPulses, total]

/-- One pulse metered into the open delivery (R77). -/
theorem exec_flowPulse_metered {c : FuelConfig} {d : Delivery} {low high : Nat} (copy : s.fau.copy = some c)
    (delivery : s.fau.delivery = some d) (long : 40 ≤ low ∧ 40 ≤ high)
    (fits : d.metered + (d.carry + 1 * 1000) / c.pulsesPerLitre < 2 ^ 32) :
    exec (.flowPulse low high) s = .next (afterPulses c.pulsesPerLitre 1 d s) := by
  have counted : exec (.flowPulse low high) s = .next (countPulse s) := congrArg Host.Outcome.next (if_pos long)
  have once : d.pulse c.pulsesPerLitre s.now s.siteSec = d.after c.pulsesPerLitre s.now s.siteSec 1 := by
    rw [Delivery.pulse, fit32_eq (by simpa using fits)]
    rfl
  rw [counted]
  have fuel (x : State) (copy : x.fau.copy = some c) (delivery : x.fau.delivery = some d) : fuelPulse x =
      x.withFau { x.fau with delivery := some (d.pulse c.pulsesPerLitre x.now x.siteSec) } := by
    rw [fuelPulse, copy, delivery]
  have pulsed : countPulse s = fuelPulse (s.withFpc { s.fpc with pulses := (s.fpc.pulses + 1) % 2 ^ 32 }) := by
    simp [countPulse, copy]
  rw [pulsed, fuel (s.withFpc { s.fpc with pulses := (s.fpc.pulses + 1) % 2 ^ 32 }) copy delivery]
  exact congrArg (fun x => Host.Outcome.next { s with
    fpc := { s.fpc with pulses := (s.fpc.pulses + 1) % 2 ^ 32 }, fau := { s.fau with delivery := some x } }) once

theorem metered_mono (d : Delivery) (k : Nat) {m n : Nat} (h : m ≤ n) : (d.carry + m * 1000) / k ≤ (d.carry + n * 1000) / k :=
  Nat.div_le_div_right (by omega)

theorem pulses_metered (pulses : List (Nat × Nat)) {s : State} {c : FuelConfig} {d : Delivery} (copy : s.fau.copy = some c)
    (delivery : s.fau.delivery = some d) (long : ∀ p ∈ pulses, 40 ≤ p.1 ∧ 40 ≤ p.2) (some : pulses ≠ [])
    (fits : d.metered + (d.carry + pulses.length * 1000) / c.pulsesPerLitre < 2 ^ 32) :
    RunsTo (pulses.map fun p => .flowPulse p.1 p.2) s (afterPulses c.pulsesPerLitre pulses.length d s) := by
  induction pulses generalizing s d with
  | nil => exact absurd rfl some
  | cons p pulses ih =>
    have first := metered_mono d c.pulsesPerLitre (m := 1) (n := (p :: pulses).length) (by simp)
    refine ⟨_, exec_flowPulse_metered copy delivery (long p List.mem_cons_self)
      (lt_of_le_of_lt (Nat.add_le_add_left first _) fits), ?_⟩
    cases pulses with
    | nil => rfl
    | cons q pulses =>
      have whole := congrArg Delivery.metered (after_after d c.pulsesPerLitre s.now s.siteSec (q :: pulses).length)
      have rest := ih (s := afterPulses c.pulsesPerLitre 1 d s) (d := d.after c.pulsesPerLitre s.now s.siteSec 1) copy rfl
        (fun p member => long p (List.mem_cons_of_mem _ member)) (List.cons_ne_nil q pulses)
        (lt_of_eq_of_lt whole fits)
      rw [afterPulses_afterPulses] at rest
      exact rest

/-- Settles O24. -/
theorem pulsesMetered : Obligations.PulsesMetered := by
  refine ⟨fun s c d pulses copy delivery _ long some _ _ fits => pulses_metered pulses copy delivery long some fits,
    fun s low high short => ?_, fun s c low high hl hh copy none => ?_, fun s low high hl hh none => ?_, fun s last burst gone => ?_⟩
  · exact congrArg Host.Outcome.next (if_neg (by omega))
  · refine ⟨_, congrArg Host.Outcome.next (if_pos ⟨hl, hh⟩), ?_⟩
    have stray : countPulse s = strayPulse c.pulsesPerLitre
        (s.withFpc { s.fpc with pulses := (s.fpc.pulses + 1) % 2 ^ 32 }) := by
      simp [countPulse, fuelPulse, copy, none]
    rw [stray]
    unfold strayPulse
    dsimp only
    refine ⟨?_, ?_, keepsAllBut_of ?_, fun going => ?_, fun first => ?_⟩
    · split <;> simp
    · split <;> simp [Fau.strayPulses, sat32, State.now]
    · split <;> simp
    · rw [if_neg (by simpa using Option.isSome_iff_ne_none.mp going)]
      rfl
    · rw [if_pos (by simpa using first)]
      exact (postEvent_wrote_on ..).posts
  · have held : countPulse s = s.withFpc { s.fpc with
        pulses := (s.fpc.pulses + 1) % 2 ^ 32, heldPulses := min (s.fpc.heldPulses + 1) (2 ^ 32 - 1) } := by
      simp only [countPulse, State.withFpc_fau, none]
      rfl
    exact (congrArg Host.Outcome.next (if_pos ⟨hl, hh⟩)).trans (congrArg _ held)
  · refine congrArg Host.Outcome.next (if_pos ?_)
    simpa [Fau.burstOver, reached, burst] using gone

/-! ### Burning (R67 to R71): O22 -/

/-- What the burned portions have cost, in thousandths of a millicredit (R70). -/
def Fau.spent (f : Fau) : Nat := f.burnedCost * 1000 + f.costResidue

/-- A portion is costed without losing a fraction, where the cost fits (R70). -/
theorem costPortion_spent {v price : Nat} {f : Fau} (fits : f.spent + v * price < 2 ^ 64 * 1000) :
    (costPortion v price f).spent = f.spent + v * price := by
  unfold Fau.spent at fits ⊢
  have whole : f.burnedCost + (f.costResidue + v * price) / 1000 < 2 ^ 64 := by omega
  simp only [costPortion, add64_eq whole]
  omega

/-- Taking volume touches the lots, the cost and the last exhausted price alone. -/
theorem takeVolume_frame (costed : Bool) (lots : List Lot) (b : Nat) (f : Fau) :
    let t := (takeVolume costed lots b f).1
    t = { f with lots := t.lots, burnedCost := t.burnedCost, costResidue := t.costResidue, lastPrice := t.lastPrice } := by
  induction lots generalizing b f with
  | nil => rfl
  | cons l ls ih =>
    unfold takeVolume
    dsimp only
    split
    · split <;> rfl
    · rw [ih]
      split <;> rfl

/-- What is gone before the lot that gives the rest (R69, R70). -/
theorem takeVolume_part (gone post : List Lot) (l : Lot) {b : Nat} {f : Fau} (reaches : (gone.map (·.remaining)).sum ≤ b)
    (holds : b < (gone.map (·.remaining)).sum + l.remaining) :
    let r := takeVolume true (gone ++ l :: post) b f
    r.2 = 0 ∧ r.1.lots = { l with remaining := l.remaining - (b - (gone.map (·.remaining)).sum) } :: post ∧
      r.1.lastPrice = (gone.map (·.price)).getLastD f.lastPrice ∧
      (f.spent + (costOf gone + (b - (gone.map (·.remaining)).sum) * l.price) < 2 ^ 64 * 1000 →
        r.1.spent = f.spent + (costOf gone + (b - (gone.map (·.remaining)).sum) * l.price)) := by
  induction gone generalizing b f with
  | nil =>
    have less : b < l.remaining := by simpa using holds
    have all : min b l.remaining = b := by omega
    intro r
    have one : r = ({ costPortion b l.price f with lots := { l with remaining := l.remaining - b } :: post }, 0) := by
      simp only [r, List.nil_append, takeVolume, if_pos less, all]
      rfl
    rw [one]
    refine ⟨rfl, rfl, rfl, fun fits => ?_⟩
    have total : costOf [] + (b - (([] : List Lot).map (·.remaining)).sum) * l.price = b * l.price := by simp [costOf]
    rw [total] at fits ⊢
    exact costPortion_spent fits
  | cons x gone ih =>
    simp only [List.map_cons, List.sum_cons] at reaches holds ⊢
    have all : min b x.remaining = x.remaining := by omega
    have step : takeVolume true (x :: gone ++ l :: post) b f = takeVolume true (gone ++ l :: post) (b - x.remaining)
        { costPortion x.remaining x.price f with lastPrice := x.price } := by
      rw [List.cons_append, takeVolume]
      dsimp only
      rw [if_neg (by omega), all]
      rfl
    rw [step]
    have left : b - (x.remaining + (gone.map (·.remaining)).sum) = b - x.remaining - (gone.map (·.remaining)).sum := by omega
    obtain ⟨none, lots, price, cost⟩ := ih (b := b - x.remaining)
      (f := { costPortion x.remaining x.price f with lastPrice := x.price }) (by omega) (by omega)
    rw [left, List.getLastD_cons]
    refine ⟨none, lots, price, fun fits => ?_⟩
    have more : costOf (x :: gone) = x.remaining * x.price + costOf gone := rfl
    rw [more] at fits ⊢
    have first := costPortion_spent (v := x.remaining) (price := x.price) (f := f) (by omega)
    have spent : Fau.spent { costPortion x.remaining x.price f with lastPrice := x.price } =
        f.spent + x.remaining * x.price := first
    rw [spent] at cost
    rw [cost (by omega)]
    omega

/-- The lots all gone (R69 to R71). -/
theorem takeVolume_all (lots : List Lot) {b : Nat} {f : Fau} (empties : (lots.map (·.remaining)).sum ≤ b) :
    let r := takeVolume true lots b f
    r.2 = b - (lots.map (·.remaining)).sum ∧ r.1.lots = [] ∧ r.1.lastPrice = (lots.map (·.price)).getLastD f.lastPrice ∧
      (f.spent + costOf lots < 2 ^ 64 * 1000 → r.1.spent = f.spent + costOf lots) := by
  induction lots generalizing b f with
  | nil => exact ⟨rfl, rfl, rfl, fun _ => (Nat.add_zero f.spent).symm⟩
  | cons x lots ih =>
    simp only [List.map_cons, List.sum_cons] at empties ⊢
    have all : min b x.remaining = x.remaining := by omega
    have step : takeVolume true (x :: lots) b f = takeVolume true lots (b - x.remaining)
        { costPortion x.remaining x.price f with lastPrice := x.price } := by
      rw [takeVolume]
      dsimp only
      rw [if_neg (by omega), all]
      rfl
    rw [step]
    obtain ⟨left, none, price, cost⟩ := ih (b := b - x.remaining)
      (f := { costPortion x.remaining x.price f with lastPrice := x.price }) (by omega)
    rw [List.getLastD_cons]
    refine ⟨left.trans (by omega), none, price, fun fits => ?_⟩
    have more : costOf (x :: lots) = x.remaining * x.price + costOf lots := rfl
    rw [more] at fits ⊢
    have first := costPortion_spent (v := x.remaining) (price := x.price) (f := f) (by omega)
    have spent : Fau.spent { costPortion x.remaining x.price f with lastPrice := x.price } =
        f.spent + x.remaining * x.price := first
    rw [spent] at cost
    rw [cost (by omega)]
    omega

/-- What the lots do not hold is unlotted: counted, costed at the last exhausted price, and told once (R71). -/
theorem burnUnlotted_spec (v : Nat) (s : State) :
    let t := burnUnlotted v s
    t.fau = { s.fau with
      unlotted := t.fau.unlotted, burnedCost := t.fau.burnedCost, costResidue := t.fau.costResidue
      dryReported := t.fau.dryReported } ∧
    (v = 0 → t = s) ∧
    (0 < v → t.fau.unlotted = min (s.fau.unlotted + v) (2 ^ 32 - 1) ∧ t.fau.dryReported = true ∧
      (s.fau.dryReported = false → Wrote [(.dryModel, .node s.eventId, s.fau.lastPrice, 0)] s t)) ∧
    (s.fau.spent + v * s.fau.lastPrice < 2 ^ 64 * 1000 → t.fau.spent = s.fau.spent + v * s.fau.lastPrice) := by
  intro t
  by_cases none : v = 0
  · have same : t = s := if_pos none
    rw [same]
    exact ⟨rfl, fun _ => rfl, fun some => absurd none some.ne', fun _ => by simp [none]⟩
  · have burned : t = if s.fau.dryReported then
        s.withFau (costPortion v s.fau.lastPrice { s.fau with unlotted := sat32 (s.fau.unlotted + v) })
      else postEvent .dryModel (.node s.eventId) s.fau.lastPrice 0 (s.withFau
        { costPortion v s.fau.lastPrice { s.fau with unlotted := sat32 (s.fau.unlotted + v) } with dryReported := true }) :=
      if_neg none
    have cost (fits : s.fau.spent + v * s.fau.lastPrice < 2 ^ 64 * 1000) :=
      costPortion_spent (f := { s.fau with unlotted := sat32 (s.fau.unlotted + v) }) fits
    rw [burned]
    split
    · rename_i told
      exact ⟨rfl, fun zero => absurd zero none, fun _ => ⟨rfl, told, fun untold => by simp [told] at untold⟩, cost⟩
    · generalize told : s.withFau { costPortion v s.fau.lastPrice { s.fau with unlotted := sat32 (s.fau.unlotted + v) } with
        dryReported := true } = x
      have fau : (postEvent .dryModel (.node s.eventId) s.fau.lastPrice 0 x).fau = x.fau := by simp
      have wrote : Wrote [(.dryModel, .node s.eventId, s.fau.lastPrice, 0)] s
          (postEvent .dryModel (.node s.eventId) s.fau.lastPrice 0 x) :=
        postEvent_wrote_on (ring := by rw [← told]; rfl) (lost := by rw [← told]; rfl) (clock := by rw [← told]; rfl) ..
      rw [fau, ← told]
      exact ⟨rfl, fun zero => absurd zero none, fun _ => ⟨rfl, rfl, fun _ => told ▸ wrote⟩, cost⟩

/-- The state in which a sample's burn starts: the flow, the overload mark and the level noted (R67). -/
def sampled (c : FuelConfig) (s : State) : State :=
  s.withFau { s.fau with
    overload := decide (c.rating < s.fpc.sample.p)
    flow := if s.fpc.running.level then flowAt s.fpc.sample.p c.rating c.curve else nth 0 c.curve 0 * 250
    level := if s.fpc.sample.answered then some s.fpc.sample.tank else s.fau.level
    levelFresh := s.fau.levelFresh || s.fpc.sample.answered }

theorem fuelSample_eq {c : FuelConfig} (copy : s.fau.copy = some c) : fuelSample s = recomputeFuel
    (if s.fpc.running.level then burn (flowAt s.fpc.sample.p c.rating c.curve) (sampled c s) else sampled c s) := by
  rw [fuelSample, copy]
  rfl

theorem recomputeFuel_frame_fau (s : State) : (recomputeFuel s).fau = { s.fau with
    minutes := (recomputeFuel s).fau.minutes, factor := (recomputeFuel s).fau.factor
    refuelWanted := (recomputeFuel s).fau.refuelWanted } := by
  cases copy : s.fau.copy with
  | none =>
    have same : recomputeFuel s = s := by rw [recomputeFuel, copy]
    rw [same]
  | some c =>
    rw [recomputeFuel_eq copy]
    obtain ⟨-, -, -, kept⟩ := refuelTest_spec c.refuelAt (s.withFau { s.fau with
      minutes := minutesOf s.fau.tank s.fau.flow, factor := factorOf c.mLow c.mCrit (minutesOf s.fau.tank s.fau.flow) })
    rw [kept]
    rfl

/-- The burn of a whole number of millilitres, before what the lots do not hold (R68). -/
def burnStart (n : Nat) (f : Fau) : Fau :=
  { f with burnResidue := (f.burnResidue + n) % 9000, burned := add64 f.burned ((f.burnResidue + n) / 9000) }

theorem burn_eq (n : Nat) (s : State) :
    let r := takeVolume true s.fau.lots ((s.fau.burnResidue + n) / 9000) (burnStart n s.fau)
    burn n s = burnUnlotted r.2 (s.withFau r.1) := rfl

theorem costOf_append (gone : List Lot) (l : Lot) (post : List Lot) :
    costOf (gone ++ l :: post) = costOf gone + (l.remaining * l.price + costOf post) := by
  simp [costOf]

theorem getLastD_le {l : List Nat} {d n : Nat} (hd : d ≤ n) (h : ∀ x ∈ l, x ≤ n) : l.getLastD d ≤ n := by
  cases l with
  | nil => exact hd
  | cons x l =>
    rw [List.getLastD_cons, List.getLastD_eq_getLast?]
    cases last : l.getLast? with
    | none => exact h x List.mem_cons_self
    | some y => exact h y (List.mem_cons_of_mem x (List.mem_of_getLast? last))

theorem burn_overload (n : Nat) (s : State) : (burn n s).fau.overload = s.fau.overload := by
  rw [burn_eq, (burnUnlotted_spec _ _).1]
  simp only [State.withFau_fau]
  rw [takeVolume_frame]
  rfl

/-- The burn of a sample where the figures fit (R68 to R71). -/
theorem burn_spec (n : Nat) (s : State) :
    let f := s.fau
    let b := (f.burnResidue + n) / 9000
    let t := burn n s
    f.costResidue < 1000 → f.burned + b < 2 ^ 64 →
    f.burnedCost + (f.costResidue + costOf f.lots + b * 65535) / 1000 < 2 ^ 64 → f.lastPrice ≤ 65535 →
    (∀ l ∈ f.lots, l.price ≤ 65535) →
    t.fau.flow = f.flow ∧ t.fau.burnResidue = (f.burnResidue + n) % 9000 ∧ t.fau.burned = f.burned + b ∧
    (∀ (gone post : List Lot) (l : Lot), f.lots = gone ++ l :: post → (gone.map (·.remaining)).sum ≤ b →
      b < (gone.map (·.remaining)).sum + l.remaining →
      t.fau.lots = { l with remaining := l.remaining - (b - (gone.map (·.remaining)).sum) } :: post ∧
      t.fau.lastPrice = (gone.map (·.price)).getLastD f.lastPrice ∧ t.fau.unlotted = f.unlotted ∧
      t.fau.dryReported = f.dryReported ∧
      t.fau.spent = f.spent + costOf gone + (b - (gone.map (·.remaining)).sum) * l.price) ∧
    ((f.lots.map (·.remaining)).sum ≤ b →
      t.fau.lots = [] ∧ t.fau.lastPrice = (f.lots.map (·.price)).getLastD f.lastPrice ∧
      (b = (f.lots.map (·.remaining)).sum → t.fau.unlotted = f.unlotted ∧ t.fau.dryReported = f.dryReported) ∧
      ((f.lots.map (·.remaining)).sum < b →
        t.fau.unlotted = min (f.unlotted + (b - (f.lots.map (·.remaining)).sum)) (2 ^ 32 - 1) ∧
        t.fau.dryReported = true ∧ (f.dryReported = false →
          Wrote [(.dryModel, .node s.eventId, t.fau.lastPrice, 0)] s t)) ∧
      t.fau.spent = f.spent + costOf f.lots + (b - (f.lots.map (·.remaining)).sum) * t.fau.lastPrice) := by
  intro f b t small burnFits costFits lastPrice prices
  have kept := takeVolume_frame true f.lots b (burnStart n f)
  have part (gone post : List Lot) (l : Lot) (split : f.lots = gone ++ l :: post) :
      (gone.map (·.remaining)).sum ≤ b → b < (gone.map (·.remaining)).sum + l.remaining →
      let r := takeVolume true f.lots b (burnStart n f)
      r.2 = 0 ∧ r.1.lots = { l with remaining := l.remaining - (b - (gone.map (·.remaining)).sum) } :: post ∧
        r.1.lastPrice = (gone.map (·.price)).getLastD f.lastPrice ∧
        (f.spent + (costOf gone + (b - (gone.map (·.remaining)).sum) * l.price) < 2 ^ 64 * 1000 →
          r.1.spent = f.spent + (costOf gone + (b - (gone.map (·.remaining)).sum) * l.price)) := by
    rw [split]
    exact fun reaches holds => takeVolume_part gone post l (f := burnStart n f) reaches holds
  have all := takeVolume_all f.lots (b := b) (f := burnStart n f)
  have burned : t = burnUnlotted (takeVolume true f.lots b (burnStart n f)).2
      (s.withFau (takeVolume true f.lots b (burnStart n f)).1) := rfl
  have total : f.spent + (costOf f.lots + b * 65535) < 2 ^ 64 * 1000 := by
    unfold Fau.spent
    omega
  generalize takeVolume true f.lots b (burnStart n f) = r at kept part all burned
  obtain ⟨frame, none, some, cost⟩ := burnUnlotted_spec r.2 (s.withFau r.1)
  rw [← burned] at frame none some cost
  have start : r.1.unlotted = f.unlotted ∧ r.1.dryReported = f.dryReported := by
    rw [kept]
    exact ⟨rfl, rfl⟩
  have lots : t.fau.lots = r.1.lots := by rw [frame]; rfl
  have price : t.fau.lastPrice = r.1.lastPrice := by rw [frame]; rfl
  refine ⟨by rw [frame]; simp only [State.withFau_fau]; rw [kept]; rfl, by rw [frame]; simp only [State.withFau_fau]; rw [kept]; rfl,
    ?_, fun gone post l split reaches holds => ?_, fun empties => ?_⟩
  · rw [frame]
    simp only [State.withFau_fau]
    rw [kept]
    exact add64_eq burnFits
  · obtain ⟨left, lots', price', cost'⟩ := part gone post l split reaches holds
    have same := none left
    have most : costOf gone + (b - (gone.map (·.remaining)).sum) * l.price ≤ costOf f.lots + b * 65535 := by
      have below : (b - (gone.map (·.remaining)).sum) * l.price ≤ b * 65535 :=
        Nat.mul_le_mul (Nat.sub_le _ _) (prices l (by simp [split]))
      rw [split, costOf_append]
      omega
    rw [lots, price, same]
    refine ⟨lots', price', start.1, start.2, ?_⟩
    rw [Nat.add_assoc]
    exact cost' (by omega)
  · obtain ⟨left, lots', price', cost'⟩ := all empties
    have bound : r.1.lastPrice ≤ 65535 := by
      rw [price']
      refine getLastD_le lastPrice fun x member => ?_
      obtain ⟨l, lot, rfl⟩ := List.mem_map.mp member
      exact prices l lot
    have spent : r.1.spent = f.spent + costOf f.lots := cost' (by
      have : (burnStart n f).spent = f.spent := rfl
      omega)
    have rest : (b - (f.lots.map (·.remaining)).sum) * r.1.lastPrice ≤ b * 65535 := Nat.mul_le_mul (Nat.sub_le _ _) bound
    rw [lots, price]
    refine ⟨lots', price', fun exactly => ?_, fun more => ?_, ?_⟩
    · rw [none (by omega)]
      exact start
    · obtain ⟨unlotted, told, wrote⟩ := some (by omega)
      refine ⟨?_, told, fun untold => ?_⟩
      · rw [unlotted, left]
        simp only [State.withFau_fau, start.1]
      · exact (wrote (start.2.trans untold)).of_start rfl rfl rfl
    · rw [← left]
      have whole := cost (by
        simp only [State.withFau_fau]
        rw [spent, left]
        omega)
      simp only [State.withFau_fau, spent] at whole
      exact whole

/-- Settles O22. -/
theorem sampleBurns : Obligations.SampleBurns := by
  intro s c copy f t total b cost
  have kept := recomputeFuel_frame_fau
    (if s.fpc.running.level then burn (flowAt s.fpc.sample.p c.rating c.curve) (sampled c s) else sampled c s)
  have sample := fuelSample_eq copy
  rw [← sample] at kept
  have burned := burn_spec (flowAt s.fpc.sample.p c.rating c.curve) (sampled c s)
  refine ⟨?_, fun still => ?_, fun running small burnFits costFits lastPrice prices => ?_⟩
  · simp only [t]
    rw [kept]
    split
    · exact burn_overload ..
    · rfl
  · rw [if_neg (by simp [still])] at kept
    simp only [t]
    rw [kept]
    exact ⟨rfl, rfl, rfl, rfl, rfl, rfl, rfl, by simp [sampled, still, nth]⟩
  · rw [if_pos running] at kept
    obtain ⟨flow, residue, total', part, all⟩ := burned small burnFits costFits lastPrice prices
    have told : Tells (burn (flowAt s.fpc.sample.p c.rating c.curve) (sampled c s)) (fuelSample s) := by
      rw [sample, if_pos running]
      exact recomputeFuel_tells (Tells.refl _)
    generalize burn (flowAt s.fpc.sample.p c.rating c.curve) (sampled c s) = x at kept flow residue total' part all told
    have spent : t.burnedCost * 1000 + t.costResidue = x.fau.spent := by
      simp only [t]
      rw [kept]
      rfl
    have price : t.lastPrice = x.fau.lastPrice := by
      simp only [t]
      rw [kept]
    have lots : t.lots = x.fau.lots := by
      simp only [t]
      rw [kept]
    have unlotted : t.unlotted = x.fau.unlotted ∧ t.dryReported = x.fau.dryReported := by
      simp only [t]
      rw [kept]
      exact ⟨rfl, rfl⟩
    rw [spent, price, lots, unlotted.1, unlotted.2]
    refine ⟨?_, ?_, ?_, part, fun empties => ?_⟩
    · simp only [t]
      rw [kept]
      exact flow.trans (if_pos running)
    · simp only [t]
      rw [kept]
      exact residue
    · simp only [t]
      rw [kept]
      exact total'
    · obtain ⟨lots', price', exactly, more, cost'⟩ := all empties
      refine ⟨lots', price', exactly, fun dry => ?_, cost'⟩
      obtain ⟨volume, reported, wrote⟩ := more dry
      exact ⟨volume, reported, fun untold => ((wrote untold).of_start rfl rfl rfl).first told⟩

end Sys2Proof.Machine
end

section
/-! Deliveries, the level check and resynchronisation (R76 to R83): O25, O26. -/

namespace Sys2Proof.Machine

open Sys2Proof.Claims

variable {s t u : State}

/-! ### The fuel commands' gate -/

theorem exec_deliveryOpen {c : FuelConfig} (fuelled : Fuelled c s) (tag : Byte) (ticket : Word) (price litres : Half) :
    exec (.deliveryOpen tag ticket price litres) s = .next (openDelivery tag ticket price litres s) :=
  congrArg Host.Outcome.next (fuelCommand_taken fuelled.1 fuelled.2)

theorem fuelCommand_empty {tag : Byte} {act : FuelConfig → State → State} (copy : s.fau.copy = none) :
    fuelCommand tag act s = s.answered tag .state [] := by
  refine fuelCommand_cases (P := fun t => t = s.answered tag .state []) rfl fun c held => ?_
  rw [copy] at held
  exact nomatch held

/-- Without a working copy the fuel commands are refused (R66). -/
theorem exec_fuelCommand_empty {c : Instr} {tag : Byte} (row : hostGate c = some (tag, some .genset, [.config, .run, .mute]))
    (copy : s.fau.copy = none) : exec c s = .next (s.answered tag .state []) := by
  cases c <;> cases row <;> exact congrArg Host.Outcome.next (fuelCommand_empty copy)

theorem openDelivery_spec (tag : Byte) (ticket : Word) (price litres : Half) (noDelivery : s.fau.delivery = none) :
    (ticket.toNat = 0 ∨ 0x80000000 ≤ ticket.toNat →
      openDelivery tag ticket price litres s = s.answered tag .badField [0]) ∧
    (0 < ticket.toNat → ticket.toNat < 0x80000000 →
      (litres = 0 → openDelivery tag ticket price litres s = s.answered tag .badField [2]) ∧
      (litres ≠ 0 → (∃ l ∈ s.fau.lots, l.ticket = ticket.toNat) →
        openDelivery tag ticket price litres s = s.answered tag .inUse []) ∧
      (litres ≠ 0 → (∀ l ∈ s.fau.lots, l.ticket ≠ ticket.toNat) → openDelivery tag ticket price litres s =
        { s with fau := { s.fau with
          delivery := some ⟨ticket.toNat, price.toNat, litres.toNat, 0, 0, s.siteSec, s.siteSec, s.now + 600 * second⟩
          strayLast := none } }.answered tag .ok [])) := by
  have positive (some : litres ≠ 0) : litres.toNat ≠ 0 := fun zero => some (BitVec.eq_of_toNat_eq zero)
  unfold openDelivery
  rw [if_neg (by simp [noDelivery])]
  refine ⟨fun outside => if_pos outside, fun low high => ⟨fun zero => ?_, fun some held => ?_, fun some unused => ?_⟩⟩
  all_goals rw [if_neg (by omega)]
  · rw [if_pos (by simp [zero])]
    rfl
  · rw [if_neg (positive some), if_pos (by simpa using held)]
    rfl
  · rw [if_neg (positive some), if_neg (by simpa using unused)]
    rfl

/-! ### Lots that join (R64, R79) -/

/-- What a lot that joins leaves of the unit. -/
theorem joinLot_frame_fau (l : Lot) (s : State) : (joinLot l s).fau = { s.fau with
    lots := (joinLot l s).fau.lots, dryReported := (joinLot l s).fau.dryReported, stray := (joinLot l s).fau.stray } := by
  unfold joinLot
  dsimp only
  split
  · rfl
  · split
    · rfl
    · simp

theorem joinLot_room {l : Lot} (room : s.fau.lots.length < 8) :
    joinLot l s = s.withFau { s.fau with lots := s.fau.lots ++ [l], dryReported := false } := if_pos room

/-- The newest of eight lots takes the lot in, as far as the 32-bit range goes (R79). -/
theorem joinLot_full {l n : Lot} {others : List Lot} (full : s.fau.lots.length = 8) (lots : s.fau.lots = others ++ [n]) :
    let m := n.merge l (min l.remaining (2 ^ 32 - 1 - n.remaining))
    (joinLot l s).fau.lots = others ++ [m] ∧
      Wrote [(.lotMerged, .ticket n.ticket, l.ticket, m.price)] s (joinLot l s) := by
  intro m
  have last : s.fau.lots.getLast? = some n := by simp [lots]
  have merged : joinLot l s = postEvent .lotMerged (.ticket n.ticket) l.ticket m.price (s.withFau { s.fau with
      lots := s.fau.lots.dropLast ++ [m]
      stray := sat32 (s.fau.stray + (l.remaining - min l.remaining (2 ^ 32 - 1 - n.remaining))) }) := by
    unfold joinLot
    dsimp only
    rw [if_neg (by omega), last]
  rw [merged]
  exact ⟨by simp [lots], postEvent_wrote_on ..⟩

theorem joinLot_joined (l : Lot) (s : State) : Joined l s.fau.lots (joinLot l s).fau.lots := by
  refine ⟨fun room => by rw [joinLot_room room]; rfl, fun others n full lots => ?_⟩
  refine ⟨_, _, rfl, fun some => ?_, (joinLot_full full lots).1⟩
  obtain ⟨low, high⟩ := roundDiv_spec (n.remaining * n.price + min l.remaining (2 ^ 32 - 1 - n.remaining) * l.price)
    (n.remaining + min l.remaining (2 ^ 32 - 1 - n.remaining)) some
  exact ⟨low, high⟩

/-! ### A delivery closed (R78): O25 -/

/-- The state in which DELIVERY_DONE is posted: the delivery gone, and its lot joined unless it is empty. -/
def delivered (d : Delivery) (disputed : Bool) (s : State) : State :=
  if d.metered = 0 then s.withFau { s.fau with delivery := none }
  else joinLot ⟨d.ticket, 0, .delivery, d.metered, d.metered, d.price, s.siteSec, disputed⟩
    (s.withFau { s.fau with delivery := none })

/-- The delivery's volume is off the declared one by more than the tolerance (R78). -/
theorem disputed_eq (d : Delivery) (tolerance : Nat) : d.disputed tolerance =
    decide (tolerance * (d.litres * 1000) < 1000 * ((d.metered : Int) - (d.litres * 1000 : Nat)).natAbs) := by
  have off : (d.metered - d.litres * 1000) + (d.litres * 1000 - d.metered) =
      ((d.metered : Int) - (d.litres * 1000 : Nat)).natAbs := by omega
  simp only [Delivery.disputed, off]

theorem deliveryFlags_eq (auto disputed empty merged overfill : Bool) :
    deliveryFlags auto disputed empty merged overfill = doneFlags auto disputed empty merged overfill := by
  cases auto <;> cases disputed <;> cases empty <;> cases merged <;> cases overfill <;> rfl

theorem closeDelivery_eq (auto : Bool) (d : Delivery) (c : FuelConfig) (s : State) :
    let disputed := decide (0 < d.metered) && decide (c.deliveryTol * (d.litres * 1000)
      < 1000 * ((d.metered : Int) - (d.litres * 1000 : Nat)).natAbs)
    let merged := decide (0 < d.metered) && decide (8 ≤ s.fau.lots.length)
    let x := delivered d disputed s
    let flags := doneFlags auto disputed (decide (d.metered = 0)) merged (decide (c.capacity < x.fau.tank))
    closeDelivery auto d c s = (flags, derateChange (recomputeFuel (postEvent .deliveryDone (.ticket d.ticket) d.metered flags x))) := by
  intro disputed merged x flags
  have some : (!decide (d.metered = 0)) = decide (0 < d.metered) := by
    by_cases zero : d.metered = 0 <;> simp [zero, Nat.pos_of_ne_zero]
  simp only [closeDelivery, disputed_eq, deliveryFlags_eq, decide_eq_true_eq, some]
  rfl

theorem delivered_clock (d : Delivery) (disputed : Bool) (s : State) : (delivered d disputed s).clock = s.clock := by
  unfold delivered
  split <;> simp

theorem delivered_delivery (d : Delivery) (disputed : Bool) (s : State) : (delivered d disputed s).fau.delivery = none := by
  unfold delivered
  split
  · rfl
  · rw [joinLot_frame_fau]
    rfl

/-- No event stands before DELIVERY_DONE where no lot is merged (R78). -/
theorem delivered_unmerged {d : Delivery} {disputed : Bool} (few : 0 < d.metered → s.fau.lots.length < 8) :
    (delivered d disputed s).evf = s.evf := by
  unfold delivered
  split
  · rfl
  · rename_i metered
    rw [joinLot_room (s := s.withFau { s.fau with delivery := none }) (few (Nat.pos_of_ne_zero metered))]
    rfl

/-- A delivery closed (R78, R79): the flags, the lot and the events, by command or by its timer. -/
theorem closeDelivery_spec (auto : Bool) (d : Delivery) (c : FuelConfig) (s : State) :
    let disputed := decide (0 < d.metered) && decide (c.deliveryTol * (d.litres * 1000)
      < 1000 * ((d.metered : Int) - (d.litres * 1000 : Nat)).natAbs)
    let merged := decide (0 < d.metered) && decide (8 ≤ s.fau.lots.length)
    let t := (closeDelivery auto d c s).2
    let flags := (closeDelivery auto d c s).1
    t.fau.delivery = none ∧
    (d.metered = 0 → t.fau.lots = s.fau.lots) ∧
    (0 < d.metered → Joined ⟨d.ticket, 0, .delivery, d.metered, d.metered, d.price, s.siteSec, disputed⟩
      s.fau.lots t.fau.lots) ∧
    flags = doneFlags auto disputed (decide (d.metered = 0)) merged
      (decide (c.capacity < (t.fau.lots.map (·.remaining)).sum)) ∧
    (merged = false → PostsFirst [(.deliveryDone, .ticket d.ticket, d.metered, flags)] s t) ∧
    (∀ (others : List Lot) (n m : Lot), merged = true → s.fau.lots = others ++ [n] →
      t.fau.lots = others ++ [m] → s.fau.lots.length = 8 →
      PostsFirst [(.lotMerged, .ticket n.ticket, d.ticket, m.price),
        (.deliveryDone, .ticket d.ticket, d.metered, flags)] s t) := by
  intro disputed merged t flags
  obtain ⟨flags_eq, t_eq⟩ := Prod.mk.inj (closeDelivery_eq auto d c s)
  change flags = _ at flags_eq
  change t = _ at t_eq
  have told : Tells (postEvent .deliveryDone (.ticket d.ticket) d.metered flags (delivered d disputed s)) t := by
    rw [t_eq, ← flags_eq]
    exact derateChange_tells (recomputeFuel_tells (.refl _))
  have kept : t.fau.delivery = (delivered d disputed s).fau.delivery ∧ t.fau.lots = (delivered d disputed s).fau.lots := by
    rw [t_eq, ← flags_eq]
    simp only [derateChange_frame]
    rw [recomputeFuel_frame_fau]
    simp [disputed]
  have tank : (delivered d disputed s).fau.tank = (t.fau.lots.map (·.remaining)).sum := by
    rw [kept.2]
    rfl
  have joined (metered : 0 < d.metered) : delivered d disputed s =
      joinLot ⟨d.ticket, 0, .delivery, d.metered, d.metered, d.price, s.siteSec, disputed⟩
        (s.withFau { s.fau with delivery := none }) := if_neg metered.ne'
  refine ⟨kept.1.trans (delivered_delivery ..), fun empty => ?_, fun metered => ?_, ?_, fun unmerged => ?_,
    fun others n m merges lots lots' full => ?_⟩
  · rw [kept.2, delivered, if_pos empty]
    rfl
  · rw [kept.2, joined metered]
    exact joinLot_joined _ (s.withFau { s.fau with delivery := none })
  · rw [flags_eq, ← tank]
  · have few (metered : 0 < d.metered) : s.fau.lots.length < 8 := by simpa [merged, metered] using unmerged
    exact (postEvent_wrote_on _ _ _ _ _ (by rw [delivered_unmerged few]) (by rw [delivered_unmerged few])
      (delivered_clock ..)).first told
  · have metered : 0 < d.metered := by
      simp only [merged, Bool.and_eq_true, decide_eq_true_eq] at merges
      exact merges.1
    obtain ⟨newest, wrote⟩ := joinLot_full (l := ⟨d.ticket, 0, .delivery, d.metered, d.metered, d.price, s.siteSec, disputed⟩)
      (s := s.withFau { s.fau with delivery := none }) full lots
    rw [← joined metered] at newest wrote
    rw [kept.2, newest] at lots'
    obtain rfl := List.head_eq_of_cons_eq (List.append_cancel_left lots')
    have first := wrote.of_start (u := s) rfl rfl rfl
    exact (first.trans (postEvent_wrote ..) (delivered_clock ..)).first told

/-- Settles O25. -/
theorem deliveries : Obligations.Deliveries := by
  refine ⟨fun s c tag ticket price litres fuelled => ⟨fun busy => ?_, fun noDelivery => ?_⟩,
    fun s c tag fuelled => ⟨fun noDelivery => ?_, fun d delivery => ?_⟩,
    fun s c tag row copy => exec_fuelCommand_empty row copy,
    fun s c d tag fuelled => ⟨fun noDelivery => ?_, fun delivery early => ?_, fun auto delivery late => ?_⟩⟩
  · rw [exec_deliveryOpen fuelled]
    exact congrArg Host.Outcome.next (if_pos busy)
  · rw [exec_deliveryOpen fuelled]
    simp only [Host.Outcome.next.injEq]
    exact openDelivery_spec tag ticket price litres noDelivery
  · refine (congrArg Host.Outcome.next (fuelCommand_taken fuelled.1 fuelled.2)).trans ?_
    rw [noDelivery]
    rfl
  · refine (congrArg Host.Outcome.next (fuelCommand_taken fuelled.1 fuelled.2)).trans ?_
    rw [delivery]
    rfl
  · refine (congrArg Host.Outcome.next (fuelCommand_taken fuelled.1 fuelled.2)).trans ?_
    rw [noDelivery]
    rfl
  · change execDeliveryAutoClose s = _
    unfold execDeliveryAutoClose
    rw [fuelled.2, delivery]
    exact congrArg Host.Outcome.next (if_neg (by omega))
  · refine ⟨(closeDelivery auto d c s).2, (closeDelivery auto d c s).1, ?_, closeDelivery_spec auto d c s⟩
    cases auto with
    | true =>
      change execDeliveryAutoClose s = _
      unfold execDeliveryAutoClose
      rw [fuelled.2, delivery]
      exact congrArg Host.Outcome.next (if_pos (late rfl))
    | false =>
      refine (congrArg Host.Outcome.next (fuelCommand_taken fuelled.1 fuelled.2)).trans ?_
      rw [delivery]
      rfl

/-! ### The level check (R82, R141) -/

theorem postDiverge_first (sets : Bool) (diff : Int) (x : State) (ring : x.evf.ring = s.evf.ring := by rfl)
    (lost : x.evf.lost = s.evf.lost := by rfl) (clock : x.clock = s.clock := by rfl) (id : x.eventId = s.eventId := by rfl) :
    PostsFirst [(.diverge, .node s.eventId, if sets then signed32 diff else 0, if sets then 0 else 1)] s
      (derateChange (postDiverge sets diff x)) := by
  rw [← id]
  exact (postEvent_wrote_on _ _ _ _ x ring lost clock).first (derateChange_tells (.refl _))

/-- The level check with a reading in time (R82). -/
theorem compareLevel_spec (level : Nat) (c : FuelConfig) (s : State) :
    let model := (s.fau.lots.map (·.remaining)).sum + (match s.fau.delivery with
      | some d => d.metered
      | none => 0)
    let out := decide (c.levelTol < ((level : Int) - (model : Nat)).natAbs)
    let nOut := if out then min (s.fau.outCount + 1) 255 else 0
    let nIn := if out then 0 else min (s.fau.inCount + 1) 255
    let t := compareLevel level c s
    t.fau = { s.fau with
      outCount := nOut, inCount := nIn
      diverge := if nOut = 3 then true else if nIn = 3 then false else s.fau.diverge } ∧
    (nOut = 3 → s.fau.diverge = false → PostsFirst
      [(.diverge, .node s.eventId, signed32 ((level : Int) - (model : Nat)), 0)] s t) ∧
    (nIn = 3 → s.fau.diverge = true → PostsFirst [(.diverge, .node s.eventId, 0, 1)] s t) ∧
    (nOut ≠ 3 ∨ s.fau.diverge = true → nIn ≠ 3 ∨ s.fau.diverge = false → t.evf = s.evf ∧ t.plu = s.plu) := by
  intro model out nOut nIn t
  have diff : levelDifference s.fau level = (level : Int) - (model : Nat) := rfl
  simp only [t, compareLevel, diff]
  by_cases off : c.levelTol < ((level : Int) - (model : Nat)).natAbs
  · have outs : out = true := decide_eq_true off
    have out_eq : nOut = min (s.fau.outCount + 1) 255 := if_pos outs
    have in_eq : nIn = 0 := if_pos outs
    rw [if_pos off, ← out_eq, in_eq]
    by_cases sets : nOut = 3 ∧ s.fau.diverge = false
    · rw [if_pos (by exact sets)]
      refine ⟨by simp [postDiverge, sets.1], fun _ _ => ?_, fun never => absurd never (by decide), fun not => ?_⟩
      · exact postDiverge_first true _ _
      · simp [sets.1, sets.2] at not
    · rw [if_neg (by exact sets)]
      refine ⟨?_, fun third clear => absurd ⟨third, clear⟩ sets, fun never => absurd never (by decide), fun _ _ => ⟨rfl, rfl⟩⟩
      have stays : (if nOut = 3 then true else if (0 : Nat) = 3 then false else s.fau.diverge) = s.fau.diverge := by
        split
        · rename_i third
          cases is : s.fau.diverge with
          | false => exact absurd ⟨third, is⟩ sets
          | true => rfl
        · rfl
      rw [stays]
      rfl
  · have outs : ¬out = true := by simpa [out] using off
    have out_eq : nOut = 0 := if_neg outs
    have in_eq : nIn = min (s.fau.inCount + 1) 255 := if_neg outs
    rw [if_neg off, ← in_eq, out_eq]
    by_cases clears : nIn = 3 ∧ s.fau.diverge = true
    · rw [if_pos (by exact clears)]
      refine ⟨by simp [postDiverge, clears.1], fun never => absurd never (by decide), fun _ _ => ?_, fun _ not => ?_⟩
      · exact postDiverge_first false _ _
      · simp [clears.1, clears.2] at not
    · rw [if_neg (by exact clears)]
      refine ⟨?_, fun never => absurd never (by decide), fun third is => absurd ⟨third, is⟩ clears, fun _ _ => ⟨rfl, rfl⟩⟩
      have stays : (if (0 : Nat) = 3 then true else if nIn = 3 then false else s.fau.diverge) = s.fau.diverge := by
        rw [if_neg (by decide)]
        split
        · rename_i third
          cases is : s.fau.diverge with
          | false => rfl
          | true => exact absurd ⟨third, is⟩ clears
        · rfl
      rw [stays]
      rfl

theorem levelCheck_eq {c : FuelConfig} {due level : Nat} (copy : s.fau.copy = some c) (next : s.fau.nextCheck = some due)
    (late : due ≤ s.now) (reading : s.fau.level = some level) : levelCheck s =
    let x := s.withFau { s.fau with nextCheck := some (due + 60 * second), levelFresh := false }
    if s.fau.levelFresh && !s.fpc.lost then compareLevel level c x else x := by
  unfold levelCheck
  rw [copy, next, reading]
  exact if_neg (by omega)

/-! ### Resynchronisation (R83) -/

/-- Volume taken without cost touches the lots and the last exhausted price alone (R83). -/
theorem takeVolume_uncosted (lots : List Lot) (b : Nat) (f : Fau) :
    let t := (takeVolume false lots b f).1
    t = { f with lots := t.lots, lastPrice := t.lastPrice } := by
  induction lots generalizing b f with
  | nil => rfl
  | cons l ls ih =>
    unfold takeVolume
    dsimp only
    split
    · rfl
    · rw [ih]
      rfl

/-- What the lots hold after a volume is taken (R69). -/
theorem takeVolume_sum (costed : Bool) (lots : List Lot) (b : Nat) (f : Fau) :
    ((takeVolume costed lots b f).1.lots.map (·.remaining)).sum = (lots.map (·.remaining)).sum - b := by
  induction lots generalizing b f with
  | nil => simp [takeVolume]
  | cons l ls ih =>
    unfold takeVolume
    dsimp only
    split
    · simp only [List.map_cons, List.sum_cons]
      omega
    · rw [ih]
      simp only [List.map_cons, List.sum_cons]
      omega

theorem newestPrice_eq (lots : List Lot) (opening : Nat) : (match lots.getLast? with
    | some l => l.price
    | none => opening) = (lots.map (·.price)).getLastD opening := by
  rw [List.getLastD_eq_getLast?, List.getLast?_map]
  cases lots.getLast? <;> rfl

/-- What a resynchronisation does to the lots, and what it leaves (R83). -/
theorem applyResync_spec (level : Nat) (c : FuelConfig) (s : State) :
    let tank := (s.fau.lots.map (·.remaining)).sum
    let serial := if s.fau.adjustSerial = 0x7FFFFFFF then 1 else s.fau.adjustSerial + 1
    let t := applyResync ((level : Int) - (tank : Nat)) c s
    (t.fau.burnResidue = s.fau.burnResidue ∧ t.fau.costResidue = s.fau.costResidue ∧
      t.fau.burnedCost = s.fau.burnedCost ∧ t.fau.unlotted = s.fau.unlotted) ∧
    (level < tank → (t.fau.lots.map (·.remaining)).sum = level ∧
      t.fau.shrinkage = min (s.fau.shrinkage + (tank - level)) (2 ^ 32 - 1)) ∧
    (level = tank → t.fau.lots = s.fau.lots ∧ t.fau.shrinkage = s.fau.shrinkage) ∧
    (tank < level → t.fau.adjustSerial = serial ∧
      Joined ⟨0x80000000 + serial, 0, .adjust, level - tank, level - tank,
          (s.fau.lots.map (·.price)).getLastD c.openingPrice, s.siteSec, false⟩ s.fau.lots t.fau.lots ∧
      (s.fau.lots.length < 8 → (t.fau.lots.map (·.remaining)).sum = level)) := by
  intro tank serial t
  rcases lt_trichotomy level tank with below | same | above
  · have taken : t = s.withFau { (takeVolume false s.fau.lots (tank - level) s.fau).1 with
        shrinkage := sat32 ((takeVolume false s.fau.lots (tank - level) s.fau).1.shrinkage + (tank - level)) } := by
      have volume : ((level : Int) - (tank : Nat)).natAbs = tank - level := by omega
      simp only [t]
      unfold applyResync
      rw [if_pos (by omega), volume]
    have kept := takeVolume_uncosted s.fau.lots (tank - level) s.fau
    have sum := takeVolume_sum false s.fau.lots (tank - level) s.fau
    generalize (takeVolume false s.fau.lots (tank - level) s.fau).1 = f at taken kept sum
    rw [taken, State.withFau_fau]
    refine ⟨by rw [kept]; exact ⟨rfl, rfl, rfl, rfl⟩, fun _ => ⟨?_, by rw [kept]; rfl⟩, fun h => by omega, fun h => by omega⟩
    have all : (f.lots.map (·.remaining)).sum = tank - (tank - level) := sum
    exact all.trans (by omega)
  · have stays : t = s := by
      simp only [t]
      unfold applyResync
      rw [if_neg (by omega), if_neg (by omega)]
    rw [stays]
    exact ⟨⟨rfl, rfl, rfl, rfl⟩, fun h => by omega, fun _ => ⟨rfl, rfl⟩, fun h => by omega⟩
  · have volume : ((level : Int) - (tank : Nat)).toNat = level - tank := by omega
    have joins : t = joinLot ⟨0x80000000 + serial, 0, .adjust, level - tank, level - tank,
        (s.fau.lots.map (·.price)).getLastD c.openingPrice, s.siteSec, false⟩ (s.withFau { s.fau with adjustSerial := serial }) := by
      simp only [t]
      unfold applyResync
      rw [if_neg (by omega), if_pos (by omega), volume, ← newestPrice_eq]
      rfl
    have kept := joinLot_frame_fau ⟨0x80000000 + serial, 0, .adjust, level - tank, level - tank,
        (s.fau.lots.map (·.price)).getLastD c.openingPrice, s.siteSec, false⟩ (s.withFau { s.fau with adjustSerial := serial })
    have joined := joinLot_joined ⟨0x80000000 + serial, 0, .adjust, level - tank, level - tank,
        (s.fau.lots.map (·.price)).getLastD c.openingPrice, s.siteSec, false⟩ (s.withFau { s.fau with adjustSerial := serial })
    rw [← joins] at kept joined
    refine ⟨by rw [kept]; exact ⟨rfl, rfl, rfl, rfl⟩, fun h => by omega, fun h => by omega,
      fun _ => ⟨by rw [kept]; rfl, joined, fun room => ?_⟩⟩
    rw [joined.1 room]
    simp only [State.withFau_fau, List.map_append, List.sum_append, List.map_cons, List.map_nil, List.sum_cons, List.sum_nil]
    omega

/-- What is left to do once the lots are right: DIVERGE cleared, and the figures (R83). -/
theorem resync_spec (level : Nat) (c : FuelConfig) (s : State) :
    let x := applyResync ((level : Int) - (s.fau.tank : Nat)) c s
    (resync level c s).1 = (level : Int) - (s.fau.tank : Nat) ∧
    (resync level c s).2.fau = { x.fau with
      diverge := false, outCount := 0, inCount := 0, minutes := (resync level c s).2.fau.minutes
      factor := (resync level c s).2.fau.factor, refuelWanted := (resync level c s).2.fau.refuelWanted } := by
  intro x
  refine ⟨rfl, ?_⟩
  simp only [resync, derateChange_frame]
  rw [recomputeFuel_frame_fau]
  split <;> simp [postDiverge, x]

theorem exec_resyncTank {c : FuelConfig} (fuelled : Fuelled c s) (tag : Byte) : exec (.resyncTank tag) s = .next
    (if s.fau.delivery.isSome then s.answered tag .busy []
    else match s.fau.level with
      | none => s.answered tag .state []
      | some l => if s.fpc.lost then s.answered tag .state []
        else (resync l c s).2.answered tag .ok (be32 (signed32 (resync l c s).1))) :=
  congrArg Host.Outcome.next (fuelCommand_taken fuelled.1 fuelled.2)

/-- Settles O26. -/
theorem levelCheckAndResync : Obligations.LevelCheckAndResync := by
  refine ⟨fun s c due level copy next late reading => ⟨levelCheck s, rfl, ?_, ?_⟩, fun s c tag fuelled => ⟨?_, ?_, ?_⟩⟩
  · intro skipped
    rw [levelCheck_eq copy next late reading]
    refine if_neg fun both => ?_
    rw [Bool.and_eq_true] at both
    rcases skipped with old | lost
    · exact Bool.false_ne_true (old.symm.trans both.1)
    · simp [lost] at both
  · intro fresh answers
    rw [levelCheck_eq copy next late reading]
    dsimp only
    rw [if_pos (by simp [fresh, answers])]
    exact compareLevel_spec level c (s.withFau { s.fau with nextCheck := some (due + 60 * second), levelFresh := false })
  · intro busy
    rw [exec_resyncTank fuelled, if_pos busy]
  · intro noDelivery blind
    rw [exec_resyncTank fuelled, noDelivery]
    rcases blind with unread | lost
    · rw [unread]
      rfl
    · cases s.fau.level with
      | none => rfl
      | some l => exact congrArg Host.Outcome.next (if_pos lost)
  · intro level noDelivery reading answers tank serial
    obtain ⟨diff, kept⟩ := resync_spec level c s
    obtain ⟨figures, below, same, above⟩ := applyResync_spec level c s
    refine ⟨(resync level c s).2, ?_, ?_⟩
    · rw [exec_resyncTank fuelled, noDelivery, reading]
      exact congrArg Host.Outcome.next (if_neg fun lost => Bool.false_ne_true (answers.symm.trans lost))
    · rw [kept]
      exact ⟨rfl, rfl, rfl, figures.1, figures.2.1, figures.2.2.1, figures.2.2.2, below, same, above⟩

end Sys2Proof.Machine
end

section
/-! The site link: the bus and the receiver, transmission, and offers (chapter 1): O11, O12, O13. -/

namespace Sys2Proof.Machine

open Sys2Proof.Claims

variable {s t u : State}

/-! ### The bus and the receiver (R1, R4, R17): O13 -/

/-- A report, seen from a state that differs in other parts. -/
theorem reportFault_reports_on (k : FaultKind) (c : List Byte) {x : State} (evf : x.evf = s.evf) (clock : x.clock = s.clock)
    (hpt : x.hpt = s.hpt) : Reports k [] s (reportFault k c x) :=
  (Wrote.of_eq evf).reports k _ clock hpt (by rw [evf]) (by rw [evf]) (by rw [evf])

/-- The link once the bus becomes IDLE (R1, R17). -/
theorem idleTimeout_spec (taken : List Byte) (s : State) (since : Nat) (busy : s.slc.bus = .busy since) :
    let t := idleTimeout taken s
    t.slc = { s.slc with bus := .idle s.now, link := .normal, rx := .waiting } ∧ KeepsAllBut [.slc, .evf] s t ∧
    (s.slc.rx = .waiting → t.evf = s.evf) ∧
    (∀ own, s.slc.rx = .candidate own → taken.head? ≠ some syncByte → t.evf = s.evf) ∧
    (∀ own, s.slc.rx = .candidate own → taken.head? = some syncByte → Reports .frameLen [] s t) ∧
    (∀ own src kind len, s.slc.rx = .frame own src kind len → Reports .frameLen [] s t) := by
  simp only [idleTimeout, busy]
  cases rx : s.slc.rx with
  | waiting => exact ⟨rfl, keepsAllBut_of (by simp), fun _ => rfl, nofun, nofun, nofun⟩
  | candidate own =>
    cases taken with
    | nil => exact ⟨rfl, keepsAllBut_of (by simp), nofun, fun _ _ _ => rfl, nofun, nofun⟩
    | cons b header =>
      by_cases sync : b = syncByte
      · rw [sync]
        simp only [if_true]
        exact ⟨by simp [abandonFrame, Slc.becomeIdle], keepsAllBut_of (by simp [abandonFrame]), nofun,
          fun _ _ other => absurd rfl other, fun _ _ _ => reportFault_reports_on _ _ rfl rfl rfl, nofun⟩
      · simp only [if_neg sync]
        exact ⟨rfl, keepsAllBut_of (by simp), nofun, fun _ _ _ => rfl, fun _ _ is => absurd (Option.some.inj is) sync, nofun⟩
  | frame own src kind len =>
    exact ⟨by simp [abandonFrame, Slc.becomeIdle], keepsAllBut_of (by simp [abandonFrame]), nofun, nofun, nofun,
      fun _ _ _ _ _ => reportFault_reports_on _ _ rfl rfl rfl⟩

theorem takeHeader_spec {own : Bool} (sync src kind len : Byte) (rx : s.slc.rx = .candidate own) :
    (sync ≠ syncByte → takeHeader sync src kind len s = { s with slc := { s.slc with rx := .waiting } }) ∧
    (sync = syncByte → len.toNat ≤ 32 →
      takeHeader sync src kind len s = { s with slc := { s.slc with rx := .frame own src kind len } }) ∧
    (sync = syncByte → 32 < len.toNat → takeHeader sync src kind len s =
      abandonFrame [src, kind, len] [] (s.withSlc { s.slc with rx := .waiting })) := by
  unfold takeHeader
  rw [rx]
  refine ⟨fun other => if_pos other, fun is short => ?_, fun is long => ?_⟩
  · exact (if_neg (not_not.mpr is)).trans (if_neg (by omega))
  · exact (if_neg (not_not.mpr is)).trans (if_pos long)

theorem becomeStuck_eq {since : Nat} (busy : s.slc.bus = .busy since) (normal : s.slc.link = .normal)
    (late : since + 20 * millisecond ≤ s.now) :
    becomeStuck s = reportFault .linkStuck [byte s.eventId] (s.withSlc { s.slc with link := .stuck }) :=
  if_pos (by simp [Slc.stuckDue, busy, normal, late])

/-- Settles O13. -/
theorem busAndReceiver : Obligations.BusAndReceiver := by
  refine ⟨fun s since idle => ?_, fun s since taken busy => ⟨idleTimeout taken s, rfl, idleTimeout_spec taken s since busy⟩,
    fun s own sync src kind len rx => ?_, fun s since busy normal late => ?_, fun s stuck => ?_⟩
  · simp only [exec, execBusBusy, becomeBusy, idle]
    rfl
  · obtain ⟨other, short, long⟩ := takeHeader_spec sync src kind len rx
    refine ⟨fun h => congrArg Host.Outcome.next (other h), fun h k => congrArg Host.Outcome.next (short h k), fun h k => ?_⟩
    refine ⟨_, congrArg Host.Outcome.next (long h k), by simp [abandonFrame], keepsAllBut_of (by simp [abandonFrame]),
      reportFault_reports_on _ _ rfl rfl rfl⟩
  · refine ⟨_, congrArg Host.Outcome.next (becomeStuck_eq busy normal late), keepsAllBut_of (by simp), by simp, ?_⟩
    exact reportFault_reports_on _ _ rfl rfl rfl
  · have nothing : toStart s = none := if_neg (by simp [stuck])
    simp only [exec, execFrameStart, startFrame, nothing]

/-! ### Transmission (R12 to R15): O11 -/

/-- The first entry of a queue in service order whose backoff end has passed is its class's ready entry (R12). -/
theorem readyOf_head {e : TxEntry} {rest : List TxEntry} (queue : s.slc.queue = e :: rest) (waits : e.sending = false)
    (passed : ∀ b, e.backoffEnd = some b → b ≤ s.clock.site) : readyOf e.cls s = some e := by
  have ends : e.backoffPassed s.clock.site = true := by
    unfold TxEntry.backoffPassed
    cases back : e.backoffEnd with
    | none => rfl
    | some b => exact decide_eq_true (passed b back)
  simp [readyOf, queue, waits, ends]

/-- No entry of a higher class stands in such a queue. -/
theorem readyOf_higher {cls : TxClass} {e : TxEntry} {rest : List TxEntry} (queue : s.slc.queue = e :: rest)
    (order : ∀ x ∈ rest, e.cls.code ≤ x.cls.code) (higher : cls.code < e.cls.code) : readyOf cls s = none := by
  have absent : s.slc.queue.find? (fun x => decide (x.cls = cls)) = none := by
    rw [queue, List.find?_eq_none]
    intro x member
    rw [decide_eq_true_eq]
    rintro rfl
    rcases List.mem_cons.mp member with rfl | member
    · omega
    · have := order x member
      omega
  rw [readyOf, absent]

theorem toStart_head {e : TxEntry} {rest : List TxEntry} {since : Nat} (run : s.hpt.nodeState = .run)
    (normal : s.slc.link = .normal) (silent : s.slc.tx = none) (idle : s.slc.bus = .idle since)
    (queue : s.slc.queue = e :: rest) (waits : e.sending = false) (order : ∀ x ∈ rest, e.cls.code ≤ x.cls.code)
    (passed : ∀ b, e.backoffEnd = some b → b ≤ s.clock.site) (gap : since + s.slc.gap e.cls ≤ s.now) :
    toStart s = some e := by
  have starts : startable e.cls s = some e := by
    unfold startable
    rw [idle, readyOf_head queue waits passed]
    exact if_pos (by omega)
  have never {cls : TxClass} (higher : cls.code < e.cls.code) : startable cls s = none := by
    unfold startable
    rw [idle, readyOf_higher queue order higher]
  unfold toStart
  rw [if_pos ⟨run, normal, silent⟩]
  cases cls : e.cls with
  | urgent => rw [cls] at starts; rw [starts]
  | normal => rw [cls] at starts never; rw [never (cls := .urgent) (by decide), starts]
  | bulk =>
    rw [cls] at starts never
    rw [never (cls := .urgent) (by decide), never (cls := .normal) (by decide)]
    exact starts

theorem gap_eq (c : Slc) (cls : TxClass) : c.gap cls = (match cls with
    | .urgent => 3 + if c.penalty.urgent then 4 else 0
    | .normal => 6 + if c.penalty.normal then 4 else 0
    | .bulk => 9 + if c.penalty.bulk then 4 else 0) * gapUnit := by cases cls <;> rfl

/-- The link once a frame has collided, but for its queue (R14). -/
def Slc.silenced (c : Slc) : Slc := { c with tx := none, rx := c.rx.notOwn }

/-- The successor that a collision of an entry leaves: that of another entry (R9). -/
def TxEntry.leaves (e : TxEntry) (c : Slc) : Option Bulletin := if e.bulletin.isStatus then none else c.successor

/-- A collision below the eighth (R14). -/
theorem collide_below {f : TxFrame} {e : TxEntry} {pre post : List TxEntry} (tx : s.slc.tx = some f) (owned : f.orphan = false)
    (queue : s.slc.queue = pre ++ e :: post) (sending : e.sending = true) (before : ∀ x ∈ pre, x.sending = false)
    (few : e.attempts < 7) : collide s = s.withSlc { s.slc.silenced with
      queue := pre ++ e.collided s :: post, successor := e.leaves s.slc, backoffGen := backoffStep s.slc.backoffGen } := by
  have found : s.slc.queue.find? (·.sending) = some e := queue ▸ find?_append_cons before sending
  have spliced : spliceFirst (·.sending) (fun _ => [e.collided s]) s.slc.queue = pre ++ e.collided s :: post :=
    queue ▸ spliceFirst_append_cons _ before sending
  rw [← spliced]
  simp only [collide, tx, owned, found, Bool.false_eq_true, if_false, if_pos (by omega : e.attempts + 1 < 8)]
  rfl

/-- The eighth collision (R14). -/
theorem collide_eighth {f : TxFrame} {e : TxEntry} {pre post : List TxEntry} (tx : s.slc.tx = some f) (owned : f.orphan = false)
    (queue : s.slc.queue = pre ++ e :: post) (sending : e.sending = true) (before : ∀ x ∈ pre, x.sending = false)
    (many : 7 ≤ e.attempts) :
    let slot := match (if e.bulletin.isStatus then s.slc.successor else none) with
      | some b => [freshEntry b e.cls]
      | none => []
    collide s = reportFault .collisionLimit (dropCapture e.bulletin s) (postDrop e.bulletin e.cls .collisionLimit
      (s.withSlc { s.slc.silenced with queue := pre ++ (slot ++ post), successor := e.leaves s.slc })) := by
  intro slot
  have found : s.slc.queue.find? (·.sending) = some e := queue ▸ find?_append_cons before sending
  have spliced : spliceFirst (·.sending) (fun _ => slot) s.slc.queue = pre ++ (slot ++ post) :=
    queue ▸ spliceFirst_append_cons _ before sending
  rw [← spliced]
  simp only [collide, tx, owned, found, Bool.false_eq_true, if_false, if_neg (by omega : ¬e.attempts + 1 < 8)]
  rfl

/-- A drop of a bulletin is told, and then the fault is reported (R11, R14). -/
theorem postDrop_reports (k : FaultKind) (c : List Byte) (b : Bulletin) (cls : TxClass) (why : DropReason) {x : State}
    (evf : x.evf = s.evf := by rfl) (clock : x.clock = s.clock := by rfl) (hpt : x.hpt = s.hpt := by rfl)
    (cfg : x.sourceId = s.sourceId := by rfl) : Reports k [(.txDrop, b.dropSubject s, pair16 b.kindCode cls.code, why.code)] s
      (reportFault k c (postDrop b cls why x)) := by
  have subject : b.dropSubject x = b.dropSubject s := by
    cases b <;> simp only [Bulletin.dropSubject, State.eventId, hpt, cfg]
  unfold postDrop
  rw [subject]
  refine (postEvent_wrote_on _ _ _ _ x (by rw [evf]) (by rw [evf]) clock).reports k c ?_ ?_ ?_ ?_ ?_ <;>
    simp [clock, hpt, evf]

theorem frameSent_spec {f : TxFrame} {e : TxEntry} {pre post : List TxEntry} (tx : s.slc.tx = some f) (owned : f.orphan = false)
    (late : f.startedAt + f.bytes.length * gapUnit ≤ s.now) (queue : s.slc.queue = pre ++ e :: post) (sending : e.sending = true)
    (before : ∀ x ∈ pre, x.sending = false) (status : s.slc.successor.isSome → e.bulletin.isStatus = true) :
    frameSent s = s.withSlc { s.slc with
      tx := none, penalty := s.slc.penalty.set f.cls, successor := none
      queue := pre ++ (match s.slc.successor with
        | some b => [⟨b, e.cls, 0, none, false⟩]
        | none => []) ++ post } := by
  have found : s.slc.queue.find? (·.sending) = some e := queue ▸ find?_append_cons before sending
  have spliced (g : TxEntry → List TxEntry) : spliceFirst (·.sending) g s.slc.queue = pre ++ (g e ++ post) :=
    queue ▸ spliceFirst_append_cons _ before sending
  have ended : ¬s.now < f.endAt := Nat.not_lt.mpr late
  unfold frameSent
  rw [tx]
  dsimp only
  rw [if_neg ended, if_neg (by simp [owned]), found]
  cases successor : s.slc.successor with
  | none =>
    dsimp only [Option.map_some]
    rw [List.append_assoc, spliced]
    cases e.bulletin.isStatus <;> rfl
  | some b =>
    rw [Option.map_some, status (by rw [successor]; rfl), List.append_assoc]
    dsimp only
    rw [spliced]
    rfl

/-- Settles O11. -/
theorem transmission : Obligations.Transmission := by
  refine ⟨fun s e rest since run normal silent idle queue waits order passed gap => ?_,
    fun s f pre post e tx owned queue sending before other => ?_,
    fun s f pre post e tx owned late queue sending before status => ?_, fun s => ⟨endBackoffs s, rfl, keepsAllBut_of (by
      simp [endBackoffs]), by simp [endBackoffs], fun i e entry => ?_⟩⟩
  · have starts := toStart_head run normal silent idle queue waits order passed (by rw [gap_eq]; exact gap)
    change Host.Outcome.next (startFrame s) = _
    rw [startFrame, starts, queue]
    simp only [spliceFirst, decide_true, if_true]
    rfl
  · rcases Nat.lt_or_ge e.attempts 7 with few | many
    · refine ⟨_, congrArg Host.Outcome.next (collide_below tx owned queue sending before few), keepsAllBut_of (by simp), rfl,
        fun _ => ⟨rfl, ?_⟩, fun many => by omega⟩
      simp [TxEntry.collided, other, backoffDraw, backoffSlot]
    · refine ⟨_, congrArg Host.Outcome.next (collide_eighth tx owned queue sending before many), keepsAllBut_of (by
        simp [postDrop]), by simp [postDrop, Slc.silenced], fun few => by omega, fun _ => ⟨by simp [postDrop, other], by
        simp [postDrop, Slc.silenced], ?_⟩⟩
      exact postDrop_reports ..
  · refine ⟨_, congrArg Host.Outcome.next (frameSent_spec tx owned late queue sending before status), keepsAllBut_of (by simp),
      rfl, rfl, rfl, rfl⟩
  · have mapped : (endBackoffs s).slc.queue[i]? = some (endBackoff s.clock.site e) := by
      simp [endBackoffs, entry]
    rw [mapped]
    unfold endBackoff TxEntry.backoffPassed
    cases back : e.backoffEnd with
    | none => simp [← back]
    | some b => simp

/-! ### Offers (R8 to R11): O12 -/

theorem takeLast_append_cons {p : TxEntry → Bool} {pre post : List TxEntry} {e : TxEntry} (named : p e = true)
    (later : ∀ x ∈ post, p x = false) : takeLast p (pre ++ e :: post) = some (pre ++ post, e) := by
  have reversed : (pre ++ e :: post).reverse = post.reverse ++ e :: pre.reverse := by simp
  have later' : ∀ x ∈ post.reverse, p x = false := fun x member => later x (List.mem_reverse.mp member)
  simp only [takeLast, reversed, find?_append_cons later' named, spliceFirst_append_cons _ later' named]
  simp

theorem takeLast_none {p : TxEntry → Bool} {q : List TxEntry} (absent : ∀ x ∈ q, p x = false) : takeLast p q = none := by
  have found : q.reverse.find? p = none := List.find?_eq_none.mpr fun x member => by simp [absent x (List.mem_reverse.mp member)]
  simp only [takeLast, found]

/-- The entry that an URGENT offer evicts (R10): the newest BULK that can go, else the newest NORMAL. -/
theorem evict_append_cons {pre post : List TxEntry} {e : TxEntry} (lower : e.cls ≠ .urgent) (waits : e.sending = false)
    (newest : ∀ x ∈ post, x.cls = e.cls → x.sending = true)
    (noBulk : e.cls = .normal → ∀ x ∈ pre ++ post, x.cls = .bulk → x.sending = true) :
    evict (pre ++ e :: post) = some (pre ++ post, e) := by
  have later {cls : TxClass} (is : e.cls = cls) : ∀ x ∈ post, (decide (x.cls = cls) && !x.sending) = false := by
    intro x member
    by_cases same : x.cls = cls
    · simp [newest x member (same.trans is.symm)]
    · simp [same]
  unfold evict
  cases cls : e.cls with
  | urgent => exact absurd cls lower
  | bulk => rw [takeLast_append_cons (by simp [cls, waits]) (later cls)]
  | normal =>
    have noneGoes : ∀ x ∈ pre ++ e :: post, (decide (x.cls = .bulk) && !x.sending) = false := by
      intro x member
      by_cases bulk : x.cls = .bulk
      · have other : x ∈ pre ++ post := by
          rcases List.mem_append.mp member with member | member
          · exact List.mem_append_left _ member
          · rcases List.mem_cons.mp member with rfl | member
            · rw [cls] at bulk
              exact nomatch bulk
            · exact List.mem_append_right _ member
        simp [noBulk cls x other bulk]
      · simp [bulk]
    rw [takeLast_none noneGoes]
    exact takeLast_append_cons (by simp [cls, waits]) (later cls)

theorem evict_none {q : List TxEntry} (stuck : ∀ x ∈ q, x.cls = .urgent ∨ x.sending = true) : evict q = none := by
  have absent (cls : TxClass) (lower : cls ≠ .urgent) : ∀ x ∈ q, (decide (x.cls = cls) && !x.sending) = false := by
    intro x member
    rcases stuck x member with urgent | sending
    · simp [urgent, lower.symm]
    · simp [sending]
  rw [evict, takeLast_none (absent .bulk (by decide)), takeLast_none (absent .normal (by decide))]

/-- An offer in RUN that replaces no waiting STATUS (R8 to R11). -/
theorem offer_new {b : Bulletin} {cls : TxClass} (run : s.hpt.nodeState = .run) (new : NoneWaits b s) :
    offer b cls s = offerNew b cls s := by
  unfold offer
  rw [if_pos run]
  cases status : b.isStatus with
  | false => rfl
  | true =>
    obtain ⟨queue, hold⟩ := new status
    have found : s.slc.queue.find? (·.bulletin.isStatus) = none :=
      List.find?_eq_none.mpr fun e member => by simp [queue e member]
    have held : s.slc.hold.any (·.bulletin.isStatus) = false := by
      rw [List.any_eq_false]
      exact fun h member => by simp [hold h member]
    simp only [if_true, replaceStatus, found, held, Bool.false_eq_true, if_false]

/-- The first STATUS in the queue is the one replaced (R9). -/
theorem offer_replaces_queued {b : Bulletin} {cls : TxClass} {pre post : List TxEntry} {e : TxEntry}
    (run : s.hpt.nodeState = .run) (status : b.isStatus = true) (queue : s.slc.queue = pre ++ e :: post)
    (waiting : e.bulletin.isStatus = true) (before : ∀ x ∈ pre, x.bulletin.isStatus = false) :
    offer b cls s = if e.sending then s.withSlc { s.slc with successor := some b }
      else s.withSlc { s.slc with queue := pre ++ { e with bulletin := b } :: post } := by
  have found : s.slc.queue.find? (·.bulletin.isStatus) = some e := queue ▸ find?_append_cons before waiting
  have spliced : spliceFirst (·.bulletin.isStatus) (fun x => [{ x with bulletin := b }]) s.slc.queue =
      pre ++ { e with bulletin := b } :: post := queue ▸ spliceFirst_append_cons _ before waiting
  have replaced : replaceStatus b s.slc = some (if e.sending then { s.slc with successor := some b }
      else { s.slc with queue := pre ++ { e with bulletin := b } :: post }) := by
    rw [replaceStatus, found]
    dsimp only
    rw [spliced]
    split <;> rfl
  rw [offer, if_pos run, if_pos status, replaced]
  dsimp only
  split <;> rfl

/-- The hold's STATUS is replaced where it stands (R9). -/
theorem offer_replaces_held {b : Bulletin} {cls : TxClass} {pre post : List HeldBulletin} {h : HeldBulletin}
    (run : s.hpt.nodeState = .run) (status : b.isStatus = true) (hold : s.slc.hold = pre ++ h :: post)
    (waiting : h.bulletin.isStatus = true) (others : ∀ x ∈ pre ++ post, x.bulletin.isStatus = false)
    (queue : ∀ e ∈ s.slc.queue, e.bulletin.isStatus = false) :
    offer b cls s = s.withSlc { s.slc with hold := pre ++ { h with bulletin := b } :: post } := by
  have found : s.slc.queue.find? (·.bulletin.isStatus) = none :=
    List.find?_eq_none.mpr fun e member => by simp [queue e member]
  have held : s.slc.hold.any (·.bulletin.isStatus) = true := by simp [hold, waiting]
  have stays (l : List HeldBulletin) (kept : ∀ x ∈ l, x.bulletin.isStatus = false) :
      (l.map fun h => if h.bulletin.isStatus then { h with bulletin := b } else h) = l :=
    (List.map_congr_left fun x member => if_neg (by simp [kept x member])).trans (List.map_id l)
  have mapped : (s.slc.hold.map fun h => if h.bulletin.isStatus then { h with bulletin := b } else h) =
      pre ++ { h with bulletin := b } :: post := by
    rw [hold, List.map_append, List.map_cons, if_pos waiting, stays pre fun x member => others x (List.mem_append_left _ member),
      stays post fun x member => others x (List.mem_append_right _ member)]
  rw [offer, if_pos run, if_pos status, replaceStatus, found]
  dsimp only
  rw [if_pos held, mapped]

/-- A bulletin that nothing has room for: told, and reported (R10, R11). -/
theorem dropFull_spec (b : Bulletin) (cls : TxClass) (s : State) : KeepsAllBut [.evf] s (dropFull b cls s) ∧
    Reports .queueDrop [(.txDrop, b.dropSubject s, pair16 b.kindCode cls.code, 1)] s (dropFull b cls s) :=
  ⟨keepsAllBut_of (by simp), postDrop_reports ..⟩

theorem offerNew_joins {b : Bulletin} {cls : TxClass} {as bs : List TxEntry} (queue : s.slc.queue = as ++ bs)
    (room : s.slc.queue.length < 16) (before : ∀ x ∈ as, x.cls.code ≤ cls.code) (behind : ∀ x ∈ bs, cls.code < x.cls.code) :
    offerNew b cls s = s.withSlc { s.slc with queue := as ++ ⟨b, cls, 0, none, false⟩ :: bs } := by
  rw [offerNew, if_pos room, queue, joinQueue_tail (freshEntry b cls) as bs before behind]
  rfl

theorem offerNew_evicts {b : Bulletin} {as bs post : List TxEntry} {e : TxEntry} (full : 16 ≤ s.slc.queue.length) (urgent : ∀ x ∈ as, x.cls = .urgent) (lower : ∀ x ∈ bs ++ post, x.cls ≠ .urgent)
    (evicted : evict s.slc.queue = some (as ++ bs ++ post, e)) :
    offerNew b .urgent s = (postDrop e.bulletin e.cls .evicted s).withSlc { s.slc with
      queue := as ++ ⟨b, .urgent, 0, none, false⟩ :: (bs ++ post) } := by
  have behind : ∀ x ∈ bs ++ post, TxClass.urgent.code < x.cls.code := by
    intro x member
    have := lower x member
    cases cls : x.cls with
    | urgent => exact absurd cls this
    | normal | bulk => decide
  have joins := joinQueue_tail (freshEntry b .urgent) as (bs ++ post) (fun x member => by rw [urgent x member]; rfl) behind
  unfold offerNew
  dsimp only
  rw [if_neg (by omega), if_pos rfl, evicted]
  dsimp only
  rw [List.append_assoc as, joins]
  rfl

/-- A collision of a STATUS whose successor is kept (R9, R14). -/
theorem collide_succeeds {f : TxFrame} {pre post : List TxEntry} {e : TxEntry} {b : Bulletin} (tx : s.slc.tx = some f)
    (owned : f.orphan = false) (queue : s.slc.queue = pre ++ e :: post) (sending : e.sending = true)
    (before : ∀ x ∈ pre, x.sending = false) (status : e.bulletin.isStatus = true) (successor : s.slc.successor = some b) :
    let t := collide s
    KeepsAllBut [.slc, .evf] s t ∧ t.slc.tx = none ∧ t.slc.successor = none ∧
      (e.attempts < 7 → ∃ x, t.slc.queue = pre ++ x :: post ∧ x = { e with
        bulletin := b, attempts := e.attempts + 1, sending := false, backoffEnd := x.backoffEnd } ∧
        x.backoffEnd.isSome = true) ∧
      (7 ≤ e.attempts → t.slc.queue = pre ++ ⟨b, e.cls, 0, none, false⟩ :: post ∧
        Reports .collisionLimit
          [(.txDrop, e.bulletin.dropSubject s, pair16 e.bulletin.kindCode e.cls.code, 2)] s t) := by
  intro t
  rcases Nat.lt_or_ge e.attempts 7 with few | many
  · have collided : t = _ := collide_below tx owned queue sending before few
    rw [collided]
    refine ⟨keepsAllBut_of (by simp), rfl, if_pos status, fun _ => ⟨e.collided s, rfl, ?_, rfl⟩, fun many => by omega⟩
    simp [TxEntry.collided, status, successor]
  · have collided : t = _ := collide_eighth tx owned queue sending before many
    rw [collided]
    refine ⟨keepsAllBut_of (by simp [postDrop]), by simp [postDrop, Slc.silenced], by simp [postDrop, TxEntry.leaves, status],
      fun few => by omega, fun _ => ⟨by simp [postDrop, status, successor, freshEntry], ?_⟩⟩
    exact postDrop_reports ..

/-- Settles O12. -/
theorem offersAndRetry : Obligations.OffersAndRetry := by
  refine ⟨fun s b cls outside => offer_silent s b cls outside,
    fun s b cls run status => ⟨fun pre post e queue waiting before => ?_, fun pre post h hold waiting others queue =>
      offer_replaces_held run status hold waiting others queue⟩,
    fun s b cls run new => ?_, fun s h rest hold late => ?_,
    fun s f pre post e b tx owned queue sending before status successor =>
      ⟨_, rfl, collide_succeeds tx owned queue sending before status successor⟩⟩
  · rw [offer_replaces_queued run status queue waiting before]
    exact ⟨fun waits => if_neg (by simp [waits]), fun sends => if_pos sends⟩
  · rw [offer_new run new]
    refine ⟨fun as bs queue room before behind => offerNew_joins queue room before behind,
      fun as bs post e urgent queue full first lower notUrgent waits behind noBulk => ?_,
      fun lower full room => ?_, fun full nowhere => ?_⟩
    · subst urgent
      have evicted : evict s.slc.queue = some (as ++ bs ++ post, e) := by
        rw [queue]
        refine evict_append_cons notUrgent waits (fun x member => (behind x member).2) fun normal x member bulk => ?_
        rw [List.append_assoc, List.mem_append] at member
        rcases member with member | member
        · rw [first x member] at bulk
          exact nomatch bulk
        · exact noBulk normal x member bulk
      rw [offerNew_evicts full first (fun x member => ?_) evicted]
      · exact ⟨rfl, keepsAllBut_of (by simp), ((postEvent_wrote_on ..).of_end rfl rfl).posts⟩
      · rcases List.mem_append.mp member with member | member
        · exact lower x member
        · exact (behind x member).1
    · unfold offerNew
      dsimp only
      rw [if_neg (by omega), if_neg lower, if_pos room]
      rfl
    · have dropped : offerNew b cls s = dropFull b cls s := by
        unfold offerNew
        dsimp only
        rw [if_neg (by omega)]
        rcases nowhere with ⟨lower, held⟩ | ⟨urgent, stuck⟩
        · rw [if_neg lower, if_neg (by omega)]
        · rw [if_pos urgent, evict_none stuck]
      rw [dropped]
      exact dropFull_spec b cls s
  · have taken : takeRetry s.now s.slc.hold = some (h, rest) := by
      rw [hold]
      exact if_pos late
    have retried : retryHeld s = if s.slc.queue.length < 16 then
        s.withSlc { s.slc with hold := rest, queue := joinQueue (freshEntry h.bulletin h.cls) s.slc.queue }
      else dropFull h.bulletin h.cls (s.withSlc { s.slc with hold := rest }) := by rw [retryHeld, taken]
    refine ⟨retryHeld s, rfl, ?_⟩
    rw [retried]
    by_cases room : s.slc.queue.length < 16
    · rw [if_pos room]
      refine ⟨keepsAllBut_of (by simp), rfl, fun as bs queue _ before behind => ⟨rfl, ?_⟩, fun full => by omega⟩
      rw [queue]
      exact joinQueue_tail (freshEntry h.bulletin h.cls) as bs before behind
    · rw [if_neg room]
      refine ⟨keepsAllBut_of (by simp), by simp [dropFull, postDrop], fun _ _ _ room' => absurd room' room, fun _ => ⟨by
        simp [dropFull, postDrop], ?_⟩⟩
      exact postDrop_reports ..

end Sys2Proof.Machine
end

section
/-! The arbiter: its choice, its serves, and the run to the end of the headroom (R93 to R97); claims listed (R91): O30 and
O31. -/

namespace Sys2Proof.Machine

open Sys2Proof.Claims

variable {s t u : State} {p : Plu}

/-! ### The choice (R96) -/

/-- The strict order of the keys in words. -/
theorem keyBefore_false_iff {x y : Nat × Nat × Nat} : keyBefore x y = false ↔
    y.1 ≤ x.1 ∧ (x.1 ≠ y.1 ∨ y.2.1 ≤ x.2.1 ∧ (x.2.1 ≠ y.2.1 ∨ y.2.2 ≤ x.2.2)) := by
  simp only [keyBefore, Bool.or_eq_false_iff, Bool.and_eq_false_iff, decide_eq_false_iff_not, beq_eq_false_iff_ne, Nat.not_lt]

theorem keyBefore_irrefl (x : Nat × Nat × Nat) : keyBefore x x = false := by simp [keyBefore]

theorem keyBefore_asymm {x y : Nat × Nat × Nat} (h : keyBefore x y = true) : keyBefore y x = false := by
  simp only [keyBefore, Bool.or_eq_true, Bool.and_eq_true, decide_eq_true_eq, beq_iff_eq, Bool.or_eq_false_iff,
    Bool.and_eq_false_iff, decide_eq_false_iff_not, beq_eq_false_iff_ne] at h ⊢
  omega

/-- What is not before a second, which is not before a third, is not before that. -/
theorem keyBefore_trans {x y z : Nat × Nat × Nat} (h : keyBefore x y = false) (k : keyBefore y z = false) :
    keyBefore x z = false := by
  rw [keyBefore_false_iff] at h k ⊢
  omega

theorem firstClaim_none {l : List WaitEntry} : firstClaim p l = none ↔ l = [] := by
  cases l with
  | nil => exact ⟨fun _ => rfl, fun _ => rfl⟩
  | cons w ws =>
    refine ⟨fun h => ?_, nofun⟩
    unfold firstClaim at h
    split at h
    · exact nomatch h
    · split at h <;> exact nomatch h

/-- No claim of the list stands before the first. -/
theorem firstClaim_first {l : List WaitEntry} {w : WaitEntry} (h : firstClaim p l = some w) :
    ∀ v ∈ l, keyBefore (arbiterKey p v) (arbiterKey p w) = false := by
  induction l generalizing w with
  | nil => exact nomatch h
  | cons x xs ih =>
    intro v member
    unfold firstClaim at h
    split at h
    · rename_i empty
      obtain rfl := firstClaim_none.mp empty
      cases h
      rw [List.mem_singleton.mp member]
      exact keyBefore_irrefl _
    · rename_i y found
      split at h <;> rename_i before
      · cases h
        rcases List.mem_cons.mp member with rfl | member
        · exact keyBefore_asymm before
        · exact ih found v member
      · cases h
        rcases List.mem_cons.mp member with rfl | member
        · exact keyBefore_irrefl _
        · exact keyBefore_trans (ih found v member) (by simpa using before)

theorem eligible_iff {w : WaitEntry} : eligible p w = true ↔ 0 < w.remaining ∧
    ((∃ e, p.entry w.claim = some e ∧ e.state = .offered) ∨ p.entry w.claim = none ∧ p.pledges.length < 8) := by
  unfold eligible
  cases p.entry w.claim <;> simp

theorem choose_none : choose p = none ↔ ∀ w ∈ p.waits, ¬eligible p w = true := by
  rw [choose, firstClaim_none, List.filter_eq_nil_iff]

/-! ### A serve (R96, R97) -/

/-- A replacement that keeps the claims maps the entry of each. -/
theorem find?_map_claim {l : List PledgeEntry} {g : PledgeEntry → PledgeEntry} (claim : ∀ e, (g e).claim = e.claim)
    (c : ClaimId) : (l.map g).find? (fun e => decide (e.claim = c)) = (l.find? fun e => decide (e.claim = c)).map g := by
  rw [List.find?_map]
  congr 1
  exact List.find?_congr fun e _ => by simp [claim]

/-- The entry of the claim served (R97). -/
theorem served_entry_same (w : WaitEntry) (now : Nat) :
    (∀ e, p.entry w.claim = some e → (p.served w now).entry w.claim =
      some { e with kw := e.kw + min p.headroom w.remaining }) ∧
    (p.entry w.claim = none → (p.served w now).pledges = p.pledges ++
      [⟨w.claim, min p.headroom w.remaining, w.kind, .offered, p.created + 1, now + 6 * second⟩]) := by
  refine ⟨fun e known => ?_, fun unknown => ?_⟩
  · have raised : (p.served w now).pledges = p.pledges.map fun e =>
        if e.claim = w.claim then { e with kw := e.kw + min p.headroom w.remaining } else e := if_pos (by simp [known])
    rw [Plu.entry, raised, find?_map_claim (fun e => by split <;> rfl)]
    have known' : p.pledges.find? (fun e => decide (e.claim = w.claim)) = some e := known
    rw [known', Option.map_some, if_pos (entry_mem known).2]
  · exact if_neg (by simp [unknown])

/-- The entry of any other claim stands. -/
theorem served_entry_other {w : WaitEntry} {d : ClaimId} (other : d ≠ w.claim) (now : Nat) :
    (p.served w now).entry d = p.entry d := by
  cases known : p.entry w.claim with
  | none =>
    rw [Plu.entry, (served_entry_same w now).2 known, List.find?_append]
    have absent : List.find? (fun e : PledgeEntry => decide (e.claim = d))
        [⟨w.claim, min p.headroom w.remaining, w.kind, .offered, p.created + 1, now + 6 * second⟩] = none := by
      simp [other.symm]
    rw [absent, Option.or_none]
    rfl
  | some e =>
    have raised : (p.served w now).pledges = p.pledges.map fun e =>
        if e.claim = w.claim then { e with kw := e.kw + min p.headroom w.remaining } else e := if_pos (by simp [known])
    rw [Plu.entry, raised, find?_map_claim (fun e => by split <;> rfl)]
    change Option.map _ (p.entry d) = _
    cases entry : p.entry d with
    | none => rfl
    | some x => rw [Option.map_some, if_neg ((entry_mem entry).2 ▸ other)]

/-- Every entry stands, or is raised. -/
theorem served_raises (w : WaitEntry) (now : Nat) : ∀ e ∈ p.pledges, ∃ e' ∈ (p.served w now).pledges,
    e.kw ≤ e'.kw ∧ e' = { e with kw := e'.kw } := by
  intro e member
  change ∃ e' ∈ servedTable p w _ now, _
  unfold servedTable
  split
  · refine ⟨_, List.mem_map_of_mem member, ?_, ?_⟩ <;> split
    · exact Nat.le_add_right ..
    · exact le_rfl
    · rfl
    · rfl
  · exact ⟨e, List.mem_append_left _ member, le_rfl, rfl⟩

/-- Every claim that still waits waited before, for no less. -/
theorem served_waits (w : WaitEntry) (now : Nat) : ∀ x ∈ (p.served w now).waits, ∃ x' ∈ p.waits,
    x.remaining ≤ x'.remaining ∧ x = { x' with remaining := x.remaining } := by
  intro x member
  obtain ⟨member, -⟩ := List.mem_filter.mp member
  obtain ⟨x', member', rfl⟩ := List.mem_map.mp member
  refine ⟨x', member', ?_, ?_⟩ <;> split
  · exact Nat.sub_le ..
  · exact le_rfl
  · rfl
  · rfl

/-- The entries of a listed claim raised raise the held total by as much at least. -/
theorem sum_raised_ge {l : List PledgeEntry} {c : ClaimId} (n : Nat) (listed : c ∈ l.map (·.claim)) :
    (l.map (·.kw)).sum + n ≤ ((l.map fun e => if e.claim = c then { e with kw := e.kw + n } else e).map (·.kw)).sum := by
  have most (l : List PledgeEntry) : (l.map (·.kw)).sum ≤
      ((l.map fun e => if e.claim = c then { e with kw := e.kw + n } else e).map (·.kw)).sum := by
    rw [List.map_map]
    refine List.sum_le_sum fun e _ => ?_
    simp only [Function.comp]
    split
    · exact Nat.le_add_right ..
    · exact le_rfl
  induction l with
  | nil => simp at listed
  | cons x xs ih =>
    simp only [List.map_cons, List.mem_cons, List.sum_cons] at *
    rcases listed with rfl | listed
    · have rest := most xs
      rw [if_pos rfl]
      dsimp only
      omega
    · have rest := ih listed
      split
      · dsimp only
        omega
      · omega

theorem served_held (w : WaitEntry) (now : Nat) : heldTotal p + min p.headroom w.remaining ≤ heldTotal (p.served w now) := by
  change _ ≤ ((servedTable p w _ now).map (·.kw)).sum
  unfold servedTable
  split
  · rename_i known
    refine sum_raised_ge _ ?_
    by_contra absent
    simp [entry_eq_none_iff.mpr absent] at known
  · simp [heldTotal]

theorem served_nodup {w : WaitEntry} (now : Nat) (differ : (p.pledges.map (·.claim)).Nodup) :
    ((p.served w now).pledges.map (·.claim)).Nodup := by
  change ((servedTable p w _ now).map (·.claim)).Nodup
  rw [servedTable_claims]
  split
  · exact differ
  · rename_i unknown
    refine differ.append (List.nodup_singleton _) ?_
    rw [List.disjoint_singleton]
    exact entry_eq_none_iff.mp (by simpa using unknown)

/-- A serve that leaves headroom serves its claim in full, and it leaves the wait list. -/
theorem served_waits_length {w : WaitEntry} (now : Nat) (member : w ∈ p.waits) (full : w.remaining ≤ p.headroom) :
    (p.served w now).waits.length < p.waits.length := by
  have served : min p.headroom w.remaining = w.remaining := Nat.min_eq_right full
  change (servedWaits w _ p.waits).length < _
  rw [served, servedWaits, ← List.countP_eq_length_filter, List.countP_map]
  refine List.countP_lt_length_iff.mpr ⟨w, member, ?_⟩
  simp

/-! ### The run of the choices (R95) -/

/-- What the arbiter's choices do to the tables: they raise and add OFFERED entries and lower what waits. -/
structure Served (s t : State) : Prop where
  keeps : KeepsAllBut [.plu, .slc, .evf] s t
  rest : t.plu = { s.plu with
    pledges := t.plu.pledges, waits := t.plu.waits, pointer := t.plu.pointer, created := t.plu.created
    headroom := t.plu.headroom }
  raises : ∀ e ∈ s.plu.pledges, ∃ e' ∈ t.plu.pledges, e.kw ≤ e'.kw ∧ e' = { e with kw := e'.kw }
  waits : ∀ w ∈ t.plu.waits, ∃ w' ∈ s.plu.waits, w.remaining ≤ w'.remaining ∧ w = { w' with remaining := w.remaining }
  stands : ∀ d : ClaimId, (∀ w ∈ s.plu.waits, w.claim ≠ d) → t.plu.entry d = s.plu.entry d

theorem Served.refl (s : State) : Served s s where
  keeps := keepsAllBut_of (by simp)
  rest := rfl
  raises e member := ⟨e, member, le_rfl, rfl⟩
  waits w member := ⟨w, member, le_rfl, rfl⟩
  stands _ _ := rfl

/-- A claim that does not wait does not wait after the choices either. -/
theorem Served.waits_ne (h : Served s t) {d : ClaimId} (absent : ∀ w ∈ s.plu.waits, w.claim ≠ d) :
    ∀ w ∈ t.plu.waits, w.claim ≠ d := by
  intro w member
  obtain ⟨w', member', -, same⟩ := h.waits w member
  rw [same]
  exact absent w' member'

theorem Served.trans (h : Served s t) (k : Served t u) : Served s u where
  keeps := h.keeps.trans k.keeps
  rest := by rw [k.rest, h.rest]
  raises e member := by
    obtain ⟨x, member, more, same⟩ := h.raises e member
    obtain ⟨y, member, more', same'⟩ := k.raises x member
    exact ⟨y, member, more.trans more', by rw [same', same]⟩
  waits w member := by
    obtain ⟨x, member, less, same⟩ := k.waits w member
    obtain ⟨y, member, less', same'⟩ := h.waits x member
    exact ⟨y, member, less.trans less', by rw [same, same']⟩
  stands d absent := (k.stands d (h.waits_ne absent)).trans (h.stands d absent)

theorem refreshHeadroom_served (s : State) : Served s (refreshHeadroom s) where
  keeps := keepsAllBut_of (by simp)
  rest := rfl
  raises e member := ⟨e, member, le_rfl, rfl⟩
  waits w member := ⟨w, member, le_rfl, rfl⟩
  stands _ _ := rfl

theorem serve_plu (w : WaitEntry) (s : State) : (serve w s).plu =
    { s.plu.served w s.now with headroom := offeredHeadroom (s.withPlu (s.plu.served w s.now)) } := by
  rw [serve_eq]
  simp [refreshHeadroom]

theorem serve_served {w : WaitEntry} (member : w ∈ s.plu.waits) : Served s (serve w s) where
  keeps := keepsAllBut_of (by simp)
  rest := by rw [serve_plu]; rfl
  raises := by rw [serve_plu]; exact served_raises w s.now
  waits := by rw [serve_plu]; exact served_waits w s.now
  stands d absent := by
    rw [serve_plu]
    exact served_entry_other (absent w member).symm s.now

theorem arbiterRuns_served (n : Nat) (s : State) : Served s (arbiterRuns n s) := by
  induction n generalizing s with
  | zero => exact .refl s
  | succ n ih =>
    unfold arbiterRuns
    split
    · exact .refl s
    · split
      · exact .refl s
      · rename_i w chosen
        exact (serve_served (choose_spec chosen).1).trans (ih _)

theorem servePledges_served (s : State) : Served s (servePledges s) :=
  (refreshHeadroom_served s).trans (arbiterRuns_served ..)

/-- The headroom is that of the moment (R88). -/
def Fresh (s : State) : Prop := s.plu.headroom = offeredHeadroom s

theorem refreshHeadroom_fresh (s : State) : Fresh (refreshHeadroom s) := rfl

theorem serve_fresh (w : WaitEntry) (s : State) : Fresh (serve w s) := by
  unfold Fresh offeredHeadroom
  rw [serve_plu]
  simp only [serve_frame, offeredHeadroom]
  rfl

/-- The headroom falls by what the serve adds to the held total (R88). -/
theorem offeredHeadroom_served {w : WaitEntry} (fresh : Fresh s) : offeredHeadroom (s.withPlu (s.plu.served w s.now)) =
    s.plu.headroom - (heldTotal (s.plu.served w s.now) - heldTotal s.plu) := by
  have held := served_held (p := s.plu) w s.now
  have formed : offeredHeadroom (s.withPlu (s.plu.served w s.now)) =
    if s.hpt.role = some .genset ∧ s.hpt.nodeState = .run ∧ s.setc.state = .online ∧ s.fpc.lost = false
      ∧ s.plu.formed then s.plu.derated - s.fpc.sample.p - heldTotal (s.plu.served w s.now) else 0 := rfl
  rw [formed, show s.plu.headroom = _ from fresh, offeredHeadroom]
  split <;> omega

/-- A serve that does not meet its claim in full leaves no headroom. -/
theorem serve_exhausts {w : WaitEntry} (fresh : Fresh s) (part : s.plu.headroom < w.remaining) : (serve w s).plu.headroom = 0 := by
  have held := served_held (p := s.plu) w s.now
  rw [Nat.min_eq_left part.le] at held
  rw [serve_plu]
  change offeredHeadroom (s.withPlu (s.plu.served w s.now)) = 0
  rw [offeredHeadroom_served fresh]
  omega

/-- The bound on the choices is never what ends them (R95). -/
theorem arbiterRuns_ends (n : Nat) (s : State) (fresh : Fresh s) (bound : s.plu.waits.length < n) :
    (arbiterRuns n s).plu.headroom = 0 ∨ choose (arbiterRuns n s).plu = none := by
  induction n generalizing s with
  | zero => omega
  | succ n ih =>
    unfold arbiterRuns
    split
    · exact .inl ‹_›
    · split
      · exact .inr ‹_›
      · rename_i w chosen
        have member := (choose_spec chosen).1
        rcases Nat.lt_or_ge s.plu.headroom w.remaining with part | full
        · have none := serve_exhausts fresh part
          have stops : arbiterRuns n (serve w s) = serve w s := by
            cases n with
            | zero => rfl
            | succ n => exact if_pos none
          rw [stops]
          exact .inl none
        · refine ih _ (serve_fresh w s) ?_
          have shorter := served_waits_length s.now member full
          rw [serve_plu]
          change (s.plu.served w s.now).waits.length < n
          omega

/-- What the choices pledge is what the headroom falls by (R88, R95). -/
theorem arbiterRuns_held (n : Nat) (s : State) (fresh : Fresh s) (differ : (s.plu.pledges.map (·.claim)).Nodup) :
    heldTotal (arbiterRuns n s).plu + (arbiterRuns n s).plu.headroom = heldTotal s.plu + s.plu.headroom := by
  induction n generalizing s with
  | zero => rfl
  | succ n ih =>
    unfold arbiterRuns
    split
    · rfl
    · rename_i offered
      split
      · rfl
      · rename_i w chosen
        have nodup : ((serve w s).plu.pledges.map (·.claim)).Nodup := by
          rw [serve_plu]
          exact served_nodup s.now differ
        rw [ih _ (serve_fresh w s) nodup, serve_plu]
        have sum : heldTotal (s.plu.served w s.now) = heldTotal s.plu + min s.plu.headroom w.remaining :=
          servedTable_sum _ s.now differ
        change heldTotal (s.plu.served w s.now) + offeredHeadroom (s.withPlu (s.plu.served w s.now)) = _
        rw [offeredHeadroom_served fresh]
        omega

/-! ### O30 -/

/-- The level of a claim, in the words of R94. -/
theorem levelOf_eq (profile : List ProfileEntry) (w : WaitEntry) : levelOf profile w.kind w.cls =
    match profile[w.cls]? with
    | some e => if (match w.kind with
        | .planned => e.planned
        | .forced => e.forced
        | .topup => e.topup) then e.level else 4
    | none => 4 := by
  cases kind : w.kind <;> rfl

/-- Which of two waiting claims the arbiter takes (R96). -/
theorem not_keyBefore {v w : WaitEntry} (h : keyBefore (arbiterKey p v) (arbiterKey p w) = false) :
    levelOf p.profile w.kind w.cls ≤ levelOf p.profile v.kind v.cls ∧
    (levelOf p.profile v.kind v.cls = levelOf p.profile w.kind w.cls →
      (p.pointer < w.claim.board → p.pointer < v.claim.board → w.claim.board ≤ v.claim.board) ∧
      (w.claim.board ≤ p.pointer → v.claim.board ≤ p.pointer ∧ w.claim.board ≤ v.claim.board)) := by
  rw [keyBefore_false_iff] at h
  dsimp only [arbiterKey] at h
  obtain ⟨low, later⟩ := h
  refine ⟨low, fun level => ?_⟩
  have later := later.resolve_left (not_not.mpr level)
  split at later <;> split at later <;> omega

theorem servedWaits_eq (w : WaitEntry) (n : Nat) (l : List WaitEntry) : servedWaits w n l =
    (l.map fun x => if x.claim = w.claim then { x with remaining := x.remaining - n } else x).filter
      fun x => decide (x.claim ≠ w.claim ∨ x.remaining ≠ 0) := by
  unfold servedWaits
  refine List.filter_congr fun x _ => ?_
  by_cases claim : x.claim = w.claim <;> by_cases empty : x.remaining = 0 <;> simp [claim, empty]

theorem exec_selectProfile {tag profile : Byte} {name : ProfileName} (running : Running s) (code : profile.toNat = name.code) :
    exec (.selectProfile tag profile) s
      = .next ({ s with plu := { s.plu with active := name } }.answered tag .ok []) := by
  have taken : s.takes (some .genset) [.run, .mute] = true := by
    obtain ⟨role, node⟩ := running
    cases state : s.hpt.nodeState with
    | config => exact absurd state node
    | run | mute => simp [State.takes, role, state]
  simp only [exec, execSelectProfile, gated_taken s taken, code]
  cases name <;> rfl

/-- Settles O30. -/
theorem arbiterChoosesAndServes : Obligations.ArbiterChoosesAndServes := by
  refine ⟨fun s tag profile name running code => exec_selectProfile running code, fun p => ?_, fun s w chosen => ?_, fun s => ?_⟩
  · intro profile admitted level may
    have may_iff (w : WaitEntry) : may w ↔ eligible p w = true := eligible_iff.symm
    have profile_eq : p.profile = profile := by
      simp only [profile, Plu.profile]
      cases p.active <;> rfl
    have level_eq (w : WaitEntry) : level w = levelOf p.profile w.kind w.cls := by
      rw [profile_eq]
      exact (levelOf_eq profile w).symm
    simp only [may_iff, level_eq]
    refine ⟨choose_none, fun w chosen => ⟨(choose_spec chosen).1, (choose_spec chosen).2, fun v member eligible => ?_⟩⟩
    exact not_keyBefore (firstClaim_first chosen v (List.mem_filter.mpr ⟨member, eligible⟩))
  · intro pl kw
    obtain ⟨known, unknown⟩ := served_entry_same (p := s.plu) w s.now
    have pledged : (s.plu.served w s.now).pledgedKw w.claim = kw := by
      simp only [Plu.pledgedKw, kw]
      cases entry : s.plu.entry w.claim with
      | some e => rw [known e entry]
      | none =>
        have absent : s.plu.pledges.find? (fun e => decide (e.claim = w.claim)) = none := entry
        rw [Plu.entry, unknown entry, List.find?_append, absent]
        simp [pl]
    have urgency : pledgeClass w.kind = if w.kind = .forced then .urgent else .normal := by cases w.kind <;> rfl
    refine ⟨refreshHeadroom (s.withPlu (s.plu.served w s.now)), keepsAllBut_of (by simp [refreshHeadroom]), ?_, rfl,
      fun e entry => ⟨known e entry, if_neg (by simp [entry])⟩, fun entry => ⟨if_pos (by simp [entry]), unknown entry⟩,
      servedWaits_eq ..⟩
    rw [serve_eq, pledged, urgency]
  · intro t held free
    have start : refreshHeadroom s = { s with plu := { s.plu with headroom := free } } := rfl
    have served := servePledges_served s
    refine ⟨served.keeps, arbiterRuns_ends _ _ (refreshHeadroom_fresh s) (Nat.lt_succ_self _), fun stops => ?_,
      fun differ => arbiterRuns_held _ (refreshHeadroom s) (refreshHeadroom_fresh s) differ, served.raises, served.waits, rfl⟩
    rw [← start]
    change arbiterRuns ((refreshHeadroom s).plu.waits.length + 1) (refreshHeadroom s) = refreshHeadroom s
    unfold arbiterRuns
    by_cases offered : free = 0
    · exact if_pos offered
    · rw [if_neg (show ¬(refreshHeadroom s).plu.headroom = 0 from offered)]
      have never : choose s.plu = none := stops.resolve_left offered
      have never' : choose (refreshHeadroom s).plu = none := by
        rw [choose_none] at never ⊢
        exact never
      rw [never']

/-! ### A CLAIM (R91): O31 -/

/-- Choices outside ONLINE change the headroom alone (R88). -/
theorem settlePledges_tables (offline : s.setc.state ≠ .online) : (settlePledges s).plu.waits = s.plu.waits ∧
    (settlePledges s).plu.pledges = s.plu.pledges := by
  have none : offeredHeadroom s = 0 := if_neg fun ⟨_, _, online, _⟩ => offline online
  have stays : servePledges s = refreshHeadroom s := if_pos none
  rw [settlePledges, stays]
  simp [refreshHeadroom]

/-- Settles O31. -/
theorem claimListed : Obligations.ClaimListed := by
  intro s c group cls kw kind t g entry silent
  have own (mine : group = s.cfg.groupA) : t = listClaim c group kind cls kw g := if_pos mine
  have silent_iff : silent ↔ kw = 0 ∨ g.plu.waits.any (fun w => decide (w.claim = c)) ∨ (g.plu.entry c).isSome := by
    simp [silent]
  have time : waitTime kind = if kind = .forced then 1500 * millisecond else 4 * second := by cases kind <;> rfl
  refine ⟨fun other => if_neg other, fun mine quiet => ?_, fun mine speaks full => ?_, fun mine speaks room => ?_⟩
  · rw [own mine]
    exact if_pos (silent_iff.mp quiet)
  · have told : t = postEvent .claimOverflow (.claim c) kw kind.code g := by
      rw [own mine, listClaim, if_neg (silent_iff.not.mp speaks), if_pos full]
    rw [told]
    exact ⟨keepsAllBut_of (by simp), (postEvent_wrote ..).posts⟩
  · have listed : t = settlePledges { g with plu := { g.plu with waits := g.plu.waits ++ [entry] } } := by
      have clock : g.siteSec = s.siteSec ∧ g.siteMs = s.siteMs ∧ g.now = s.now := by
        simp [g, State.siteSec, State.siteMs, State.now]
      rw [own mine, listClaim, if_neg (silent_iff.not.mp speaks), if_neg (by omega), clock.1, clock.2.1, clock.2.2, time]
      rfl
    exact ⟨listed, fun offline => listed ▸ settlePledges_tables (s := { g with plu := _ }) offline⟩

end Sys2Proof.Machine
end

section
/-! The peer view: STATUS offers, peer records, and the group's sums and rankings (chapter 2): O14, O15, O16. -/

namespace Sys2Proof.Machine

open Sys2Proof.Claims

variable {s t u : State}

/-! ### STATUS offers (R20, R21, R27, R28): O14 -/

theorem ownStatus_now {body : StatusBody} (now : statusNow s body) : ownStatus s = some body := by
  unfold ownStatus
  rcases now with ⟨role, rfl⟩ | ⟨role, rfl⟩ <;> rw [role] <;> rfl

/-- A STATUS offered with no bulletin waiting (R9, R28). -/
theorem offerStatus_alone {body : StatusBody} (run : s.hpt.nodeState = .run) (queue : s.slc.queue = []) (hold : s.slc.hold = [])
    (now : ownStatus s = some body) : offerStatus s = { s with
      slc := { s.slc with queue := [⟨.status body, .bulk, 0, none, false⟩] }
      pvt := { s.pvt with lastHeadroom := s.plu.headroom } } := by
  have joins : offer (.status body) .bulk s =
      s.withSlc { s.slc with queue := [⟨.status body, .bulk, 0, none, false⟩] } := by
    rw [offer_new run fun _ => ⟨by simp [queue], by simp [hold]⟩]
    exact offerNew_joins (as := []) (bs := []) queue (by simp [queue]) (by simp) (by simp)
  rw [offerStatus, now]
  dsimp only
  rw [joins]
  rfl

/-- The periodic instant, but for the offer (R27). -/
def State.statusInstant (s : State) (due : Nat) : State :=
  s.withPvt { s.pvt with statusNext := some (due + s.pvt.base * second) }

theorem statusTimer_eq {due : Nat} (next : s.pvt.statusNext = some due) (late : due ≤ s.now) (node : s.hpt.nodeState ≠ .config) :
    statusTimer s = if s.hpt.nodeState = .run then
      (offerStatus (s.statusInstant due)).withPvt { (offerStatus (s.statusInstant due)).pvt with extraDue := false }
    else s.statusInstant due := by
  unfold statusTimer
  rw [next]
  exact if_neg (by
    rintro (early | config)
    · omega
    · exact node config)

/-- Settles O14. -/
theorem statusOffered : Obligations.StatusOffered := by
  refine ⟨fun s due body next late run queue hold now => ?_, fun s body extra spaced run queue hold now => ?_,
    fun s due next late mute => ?_⟩
  · refine congrArg Host.Outcome.next ((statusTimer_eq next late (by simp [run])).trans ((if_pos run).trans ?_))
    rw [offerStatus_alone (s := s.statusInstant due) run queue hold (ownStatus_now now)]
    rfl
  · have free : s.pvt.extraFree s.now = true := by
      unfold Pvt.extraFree
      cases last : s.pvt.lastExtra with
      | none => rfl
      | some x => exact decide_eq_true (spaced x last)
    refine congrArg Host.Outcome.next ((if_pos ⟨run, extra, free⟩).trans ?_)
    rw [offerExtra, offerStatus_alone run queue hold (ownStatus_now now)]
    rfl
  · exact congrArg Host.Outcome.next ((statusTimer_eq next late (by simp [mute])).trans (if_neg (by simp [mute])))

/-! ### The group's sums and rankings (R39 to R41): O16 -/

theorem map_onlinePeers (f : SetView → Nat) (h : GensetStatus → Nat) (g : Nat)
    (same : ∀ (node : Nat) (st : GensetStatus), f ⟨node, st.p, st.r, st.ci, st.minutes⟩ = h st) (peers : List Peer) :
    (peers.filterMap (Peer.view (fun st => decide (st.setState = .online)) g)).map f =
      (peers.filterMap (onlinePeer g)).map h := by
  rw [List.map_filterMap, List.map_filterMap]
  refine congrArg (fun k => peers.filterMap k) (funext fun p => ?_)
  unfold Peer.view onlinePeer
  cases p.freshness <;> cases p.status <;> try rfl
  rename_i st
  by_cases online : st.group = g ∧ st.setState = .online <;> simp [online, same]

/-- What the node itself adds to a sum over the online sets (R39). -/
theorem map_ownOnline (f : SetView → Nat) (g : Nat) (s : State) :
    ((if ownGroup g s && decide (s.setc.state = .online) then [ownView s] else []).map f).sum =
      if onlineSelf g s then f (ownView s) else 0 := by
  have same : (ownGroup g s && decide (s.setc.state = .online)) = onlineSelf g s := by
    simp only [ownGroup, onlineSelf, Bool.decide_and, Bool.and_assoc]
  rw [same]
  cases onlineSelf g s <;> simp

theorem sum_online (f : SetView → Nat) (h : GensetStatus → Nat) (g : Nat) (s : State)
    (same : ∀ (node : Nat) (st : GensetStatus), f ⟨node, st.p, st.r, st.ci, st.minutes⟩ = h st) :
    ((onlineSets g s).map f).sum =
      ((s.pvt.peers.filterMap (onlinePeer g)).map h).sum + if onlineSelf g s then f (ownView s) else 0 := by
  rw [onlineSets, List.map_append, List.sum_append, map_onlinePeers f h g same, map_ownOnline]

variable {before : SetView → SetView → Bool}

theorem firstBy_none {l : List SetView} : firstBy before l = none ↔ l = [] := by
  cases l with
  | nil => exact ⟨fun _ => rfl, fun _ => rfl⟩
  | cons x xs =>
    refine ⟨fun h => ?_, nofun⟩
    unfold firstBy at h
    split at h
    · exact nomatch h
    · split at h <;> exact nomatch h

/-- The first of a list stands in it, and no other before it, in an order that is irreflexive, asymmetric and whose
negation is transitive. -/
theorem firstBy_spec (irrefl : ∀ x, before x x = false) (asymm : ∀ x y, before x y = true → before y x = false)
    (trans : ∀ x y z, before x y = false → before y z = false → before x z = false) {l : List SetView} {v : SetView}
    (h : firstBy before l = some v) : v ∈ l ∧ ∀ x ∈ l, before x v = false := by
  induction l generalizing v with
  | nil => exact nomatch h
  | cons x xs ih =>
    unfold firstBy at h
    split at h
    · rename_i empty
      obtain rfl := firstBy_none.mp empty
      cases h
      exact ⟨List.mem_singleton.mpr rfl, fun y member => by rw [List.mem_singleton.mp member]; exact irrefl _⟩
    · rename_i y found
      obtain ⟨member, first⟩ := ih found
      split at h <;> rename_i earlier
      · cases h
        exact ⟨List.mem_cons_of_mem x member, List.forall_mem_cons.mpr ⟨asymm _ _ earlier, first⟩⟩
      · cases h
        exact ⟨List.mem_cons_self, List.forall_mem_cons.mpr ⟨irrefl _, fun z there =>
          trans _ _ _ (first z there) (by simpa using earlier)⟩⟩

/-- The best-ranked of a list of sets (R40). -/
theorem firstBy_best {l : List SetView} {v : SetView}
    (h : firstBy (fun x y => decide (y.minutes < x.minutes) || (x.minutes == y.minutes && decide (x.node < y.node))) l = some v) :
    v ∈ l ∧ ∀ x ∈ l, x.minutes < v.minutes ∨ x.minutes = v.minutes ∧ v.node ≤ x.node := by
  have words (x y : SetView) : (decide (y.minutes < x.minutes) || (x.minutes == y.minutes && decide (x.node < y.node))) = false ↔
      x.minutes ≤ y.minutes ∧ (x.minutes ≠ y.minutes ∨ y.node ≤ x.node) := by
    simp only [Bool.or_eq_false_iff, Bool.and_eq_false_iff, decide_eq_false_iff_not, beq_eq_false_iff_ne, Nat.not_lt]
  obtain ⟨member, first⟩ := firstBy_spec (fun x => (words x x).mpr (by omega)) (fun x y earlier => by
    rw [← Bool.not_eq_false, words] at earlier
    rw [words]
    omega) (fun x y z h k => by
    rw [words] at h k ⊢
    omega) h
  refine ⟨member, fun x there => ?_⟩
  have := (words x v).mp (first x there)
  omega

/-- The worst-ranked of a list of sets (R40). -/
theorem firstBy_worst {l : List SetView} {v : SetView}
    (h : firstBy (fun x y => decide (x.minutes < y.minutes) || (x.minutes == y.minutes && decide (y.node < x.node))) l = some v) :
    v ∈ l ∧ ∀ x ∈ l, v.minutes < x.minutes ∨ x.minutes = v.minutes ∧ x.node ≤ v.node := by
  have words (x y : SetView) : (decide (x.minutes < y.minutes) || (x.minutes == y.minutes && decide (y.node < x.node))) = false ↔
      y.minutes ≤ x.minutes ∧ (x.minutes ≠ y.minutes ∨ x.node ≤ y.node) := by
    simp only [Bool.or_eq_false_iff, Bool.and_eq_false_iff, decide_eq_false_iff_not, beq_eq_false_iff_ne, Nat.not_lt]
  obtain ⟨member, first⟩ := firstBy_spec (fun x => (words x x).mpr (by omega)) (fun x y earlier => by
    rw [← Bool.not_eq_false, words] at earlier
    rw [words]
    omega) (fun x y z h k => by
    rw [words] at h k ⊢
    omega) h
  refine ⟨member, fun x there => ?_⟩
  have := (words x v).mp (first x there)
  omega

theorem mem_view {want : GensetStatus → Bool} {g : Nat} {p : Peer} {v : SetView} : Peer.view want g p = some v ↔
    ∃ st, p.freshness = .fresh ∧ p.status = .genset st ∧ (st.group = g ∧ want st = true) ∧
      ⟨p.node, st.p, st.r, st.ci, st.minutes⟩ = v := by
  unfold Peer.view
  cases p.freshness <;> cases p.status <;> simp

/-- The online sets, as R40 reads them. -/
theorem onlineSet_iff (g : Nat) (s : State) (n m : Nat) : OnlineSet g s n m ↔ ∃ v ∈ onlineSets g s, v.node = n ∧ v.minutes = m := by
  have own : (ownGroup g s && decide (s.setc.state = .online)) = onlineSelf g s := by
    simp only [ownGroup, onlineSelf, Bool.decide_and, Bool.and_assoc]
  have peer (p : Peer) (st : GensetStatus) : onlinePeer g p = some st ↔ p.freshness = .fresh ∧ p.status = .genset st ∧
      st.group = g ∧ decide (st.setState = .online) = true := by
    unfold onlinePeer
    cases p.freshness <;> cases status : p.status <;> simp
    exact ⟨fun ⟨h, same⟩ => ⟨same, same ▸ h⟩, fun ⟨same, h⟩ => ⟨same ▸ h, same⟩⟩
  simp only [OnlineSet, onlineSets, own, List.mem_append, List.mem_filterMap, mem_view, peer]
  constructor
  · rintro (⟨p, there, st, ⟨fresh, status, group⟩, node, minutes⟩ | ⟨self, rfl, rfl⟩)
    · exact ⟨_, .inl ⟨p, there, st, fresh, status, group, rfl⟩, node, minutes⟩
    · exact ⟨ownView s, .inr (by simp [self]), rfl, rfl⟩
  · rintro ⟨v, ⟨p, there, st, fresh, status, group, rfl⟩ | self, node, minutes⟩
    · exact .inl ⟨p, there, st, ⟨fresh, status, group⟩, node, minutes⟩
    · split at self
      · obtain rfl := List.mem_singleton.mp self
        exact .inr ⟨‹_›, node.symm, minutes.symm⟩
      · exact absurd self List.not_mem_nil

/-- The stopped sets in AUTO, as R40 reads them. -/
theorem stoppedSet_iff (g : Nat) (s : State) (n m : Nat) : StoppedSet g s n m ↔ ∃ v ∈ stoppedSets g s, v.node = n ∧ v.minutes = m := by
  simp only [StoppedSet, stoppedSets, ownGroup, List.mem_append, List.mem_filterMap, mem_view, Bool.and_eq_true, decide_eq_true_eq]
  constructor
  · rintro (⟨p, there, st, fresh, status, group, stopped, auto, node, minutes⟩ | ⟨role, group, stopped, auto, rfl, rfl⟩)
    · exact ⟨_, .inl ⟨p, there, st, fresh, status, ⟨group, stopped, auto⟩, rfl⟩, node, minutes⟩
    · exact ⟨ownView s, .inr (by simp [role, group, stopped, auto]), rfl, rfl⟩
  · rintro ⟨v, ⟨p, there, st, fresh, status, ⟨group, stopped, auto⟩, rfl⟩ | self, node, minutes⟩
    · exact .inl ⟨p, there, st, fresh, status, group, stopped, auto, node, minutes⟩
    · split at self
      · rename_i own
        obtain rfl := List.mem_singleton.mp self
        obtain ⟨⟨⟨role, group⟩, stopped⟩, auto⟩ := own
        exact .inr ⟨role, group, stopped, auto, node.symm, minutes.symm⟩
      · exact absurd self List.not_mem_nil

theorem empty_iff {l : List SetView} : l = [] ↔ ∀ n m, ¬∃ v ∈ l, v.node = n ∧ v.minutes = m := by
  refine ⟨fun h => by simp [h], fun h => List.eq_nil_iff_forall_not_mem.mpr fun v there => h v.node v.minutes ⟨v, there, rfl, rfl⟩⟩

/-- A weighted mean lies between bounds of what it weighs (R160). -/
theorem weighted_between {l : List SetView} {lo hi : Nat} (low : ∀ v ∈ l, lo ≤ v.ci) (high : ∀ v ∈ l, v.ci ≤ hi) :
    lo * (l.map (·.p)).sum ≤ (l.map fun v => v.ci * v.p).sum ∧ (l.map fun v => v.ci * v.p).sum ≤ hi * (l.map (·.p)).sum := by
  induction l with
  | nil => simp
  | cons x xs ih =>
    obtain ⟨below, above⟩ := ih (fun v there => low v (List.mem_cons_of_mem x there)) fun v there => high v (List.mem_cons_of_mem x there)
    simp only [List.map_cons, List.sum_cons, Nat.mul_add]
    exact ⟨Nat.add_le_add (Nat.mul_le_mul_right _ (low x List.mem_cons_self)) below,
      Nat.add_le_add (Nat.mul_le_mul_right _ (high x List.mem_cons_self)) above⟩

theorem roundDiv_between {n d lo hi : Nat} (positive : 0 < d) (low : lo * d ≤ n) (high : n ≤ hi * d) :
    lo ≤ roundDiv n d ∧ roundDiv n d ≤ hi := by
  obtain ⟨above, below⟩ := roundDiv_spec n d positive
  constructor
  · refine Nat.le_of_lt_succ (Nat.lt_of_mul_lt_mul_left (a := 2 * d) ?_)
    calc 2 * d * lo = 2 * (lo * d) := by ring
      _ ≤ 2 * n := by omega
      _ < 2 * d * roundDiv n d + 2 * d := by omega
      _ = 2 * d * (roundDiv n d).succ := by rw [Nat.mul_succ]
  · refine Nat.le_of_lt_succ (Nat.lt_of_mul_lt_mul_left (a := 2 * d) ?_)
    calc 2 * d * roundDiv n d ≤ 2 * n + d := above
      _ ≤ 2 * (hi * d) + d := by omega
      _ < 2 * (hi * d) + 2 * d := by omega
      _ = 2 * d * hi.succ := by rw [Nat.mul_succ]; ring

/-- Settles O16. -/
theorem groupCostBetween : Obligations.GroupCostBetween := by
  refine ⟨fun s g => ⟨sum_online (·.p) (·.p) g s fun _ _ => rfl, sum_online (·.r) (·.r) g s fun _ _ => rfl, ?_⟩, fun s g => ?_,
    fun sets v index weight => ?_⟩
  · have count := sum_online (fun _ => 1) (fun _ => 1) g s fun _ _ => rfl
    simpa [onlineCount] using count
  · simp only [stoppedSet_iff, onlineSet_iff]
    refine ⟨firstBy_none.trans empty_iff, fun v best => ?_, firstBy_none.trans empty_iff, fun v worst => ?_⟩
    · obtain ⟨member, first⟩ := firstBy_best best
      refine ⟨⟨v, member, rfl, rfl⟩, ?_⟩
      rintro n m ⟨x, there, rfl, rfl⟩
      exact first x there
    · obtain ⟨member, first⟩ := firstBy_worst worst
      refine ⟨⟨v, member, rfl, rfl⟩, ?_⟩
      rintro n m ⟨x, there, rfl, rfl⟩
      exact first x there
  · have value : roundDiv (costInputsOf sets).weighted (costInputsOf sets).weight = v := by
      rw [CostInputs.groupCi, if_pos weight] at index
      exact Option.some.inj index
    subst value
    simp only [costInputsOf] at weight ⊢
    generalize loaded : sets.filter (fun v => decide (0 < v.p)) = l at weight ⊢
    have some : l.map (·.ci) ≠ [] := by
      rintro empty
      rw [List.map_eq_nil_iff] at empty
      simp [empty] at weight
    obtain ⟨lo, lowest⟩ := Option.isSome_iff_exists.mp (List.isSome_min?_iff.mpr some)
    obtain ⟨hi, highest⟩ := Option.isSome_iff_exists.mp (List.isSome_max?_iff.mpr some)
    refine ⟨lo, hi, lowest, highest, ?_⟩
    have low : ∀ v ∈ l, lo ≤ v.ci := fun v there => (List.min?_eq_some_iff.mp lowest).2 _ (List.mem_map_of_mem there)
    have high : ∀ v ∈ l, v.ci ≤ hi := fun v there => (List.max?_eq_some_iff.mp highest).2 _ (List.mem_map_of_mem there)
    obtain ⟨below, above⟩ := weighted_between low high
    exact roundDiv_between weight below above

/-! ### The peer-gone notice (R35) -/

/-- The headroom cause leaves the records and the limits of the view (R28). -/
theorem headroomCause_pvt (s : State) : (headroomCause s).pvt = { s.pvt with
    lastExtra := (headroomCause s).pvt.lastExtra, extraDue := (headroomCause s).pvt.extraDue
    lastHeadroom := (headroomCause s).pvt.lastHeadroom } := by
  have offered (x : State) : (offerStatus x).pvt = { x.pvt with lastHeadroom := (offerStatus x).pvt.lastHeadroom } := by
    unfold offerStatus
    cases ownStatus x <;> rfl
  unfold headroomCause extraCause
  split
  · split
    · rfl
    · split
      · rfl
      · split
        · simp only [offerExtra, State.withPvt]
          rw [offered]
        · rfl
  · rfl

theorem settlePledges_pvt (s : State) : (settlePledges s).pvt = { s.pvt with
    lastExtra := (settlePledges s).pvt.lastExtra, extraDue := (settlePledges s).pvt.extraDue
    lastHeadroom := (settlePledges s).pvt.lastHeadroom } := by
  have served := headroomCause_pvt (servePledges s)
  have same : (servePledges s).pvt = s.pvt := by simp
  rw [same] at served
  exact served

/-- The choices, and the headroom cause that follows them. -/
theorem settlePledges_served (s : State) : (settlePledges s).plu = (servePledges s).plu := by simp [settlePledges]

/-- The tables once a node's claims are gone (R104). -/
def State.withoutClaims (s : State) (n : Nat) : State := s.withPlu { s.plu with
  waits := s.plu.waits.filter fun w => decide (w.claim.board ≠ n)
  pledges := s.plu.pledges.filter fun e => decide (e.claim.board ≠ n) }

/-- The peer-gone notice on a GENSET: no claim of the node is left, and no other entry is lowered (R35, R104). -/
theorem pledgePeerGone_spec (n : Nat) (s : State) : KeepsAllBut [.pvt, .evf, .plu, .slc] s (pledgePeerGone n s) ∧
    (∀ w ∈ (pledgePeerGone n s).plu.waits, w.claim.board ≠ n) ∧
    (∀ e ∈ (pledgePeerGone n s).plu.pledges, e.claim.board ≠ n) ∧
    ∀ e ∈ s.plu.pledges, e.claim.board ≠ n →
      ∃ e' ∈ (pledgePeerGone n s).plu.pledges, e.kw ≤ e'.kw ∧ e' = { e with kw := e'.kw } := by
  have served := servePledges_served (s.withoutClaims n)
  have tables : (pledgePeerGone n s).plu = (servePledges (s.withoutClaims n)).plu := settlePledges_served _
  have noWait : ∀ w ∈ (s.withoutClaims n).plu.waits, w.claim.board ≠ n := fun w there => by
    simpa using (List.mem_filter.mp there).2
  rw [tables]
  refine ⟨keepsAllBut_of (by simp), fun w there => ?_, fun e there gone => ?_, fun e there other => ?_⟩
  · obtain ⟨w', there', -, same⟩ := served.waits w there
    rw [same]
    exact noWait w' there'
  · have stands := served.stands e.claim fun w waits same => noWait w waits (same ▸ gone)
    have absent : (s.withoutClaims n).plu.entry e.claim = none := by
      rw [entry_eq_none_iff]
      intro listed
      obtain ⟨x, there, same⟩ := List.mem_map.mp listed
      have other : x.claim.board ≠ n := by simpa using (List.mem_filter.mp there).2
      exact other (same ▸ gone)
    rw [absent, entry_eq_none_iff] at stands
    exact stands (List.mem_map_of_mem there)
  · exact served.raises e (List.mem_filter.mpr ⟨there, by simpa using other⟩)

theorem boardWorks_iff : s.boardWorks = true ↔ OnBoard s := by
  simp only [State.boardWorks, OnBoard, Bool.and_eq_true, decide_eq_true_eq]

theorem peerGone_genset (n : Nat) (running : Running s) : peerGone n s = pledgePeerGone n s := if_pos (gensetWorks_iff.mpr running)

theorem peerGone_board (n : Nat) (board : OnBoard s) : peerGone n s = boardPeerGone n s := by
  have other : ¬s.gensetWorks = true := fun genset => by
    have role := (gensetWorks_iff.mp genset).1
    rw [board.1] at role
    exact nomatch role
  exact (if_neg other).trans (if_pos (boardWorks_iff.mpr board))

theorem peerGone_config (n : Nat) (config : s.hpt.nodeState = .config) : peerGone n s = s := by
  have idle : ¬s.gensetWorks = true ∧ ¬s.boardWorks = true := by simp [State.gensetWorks, State.boardWorks, config]
  exact (if_neg idle.1).trans (if_neg idle.2)

/-- The notice leaves the records and the limits of the view. -/
theorem peerGone_pvt (n : Nat) (s : State) : (peerGone n s).pvt = { s.pvt with
    lastExtra := (peerGone n s).pvt.lastExtra, extraDue := (peerGone n s).pvt.extraDue
    lastHeadroom := (peerGone n s).pvt.lastHeadroom } := by
  unfold peerGone
  split
  · exact settlePledges_pvt (s.withoutClaims n)
  · split <;> rfl

/-! ### Records age (R29) -/

/-- The view and the ring once a record is LOST, before the notice (R29, R32). -/
def State.lostPeer (s : State) (n : Nat) : State := postEvent .peerLost (.node n) 0 0 (s.withPvt { s.pvt with
  peers := s.pvt.peers.map fun x => if x.node = n then { x with freshness := .lost, lostSince := some (s.siteMillis : Int) } else x
  overflowReported := false })

theorem losePeer_eq (n : Nat) (s : State) : losePeer n s = peerGone n (s.lostPeer n) := rfl

theorem lostPeer_wrote (n : Nat) (s : State) : Wrote [(.peerLost, .node n, 0, 0)] s (s.lostPeer n) := postEvent_wrote_on ..

theorem limit_eq (v : Pvt) (n : Nat) : v.limit n = (n * v.base * 1000 : Int) := by
  unfold Pvt.limit
  push_cast
  rfl

/-- A record that has been LOST, in every node state and role (R29, R35). -/
theorem losePeer_spec (n : Nat) (s : State) :
    let t := losePeer n s
    t.pvt.peers = (s.pvt.peers.map fun x =>
      if x.node = n then { x with freshness := .lost, lostSince := some (s.siteMillis : Int) } else x) ∧
    t.pvt.overflowReported = false ∧
    PostsFirst [(.peerLost, .node n, 0, 0)] s t ∧
    (s.hpt.nodeState = .config → KeepsAllBut [.pvt, .evf] s t ∧ Posts [(.peerLost, .node n, 0, 0)] s t) ∧
    (Running s → KeepsAllBut [.pvt, .evf, .plu, .slc] s t ∧ (∀ w ∈ t.plu.waits, w.claim.board ≠ n) ∧
      (∀ e ∈ t.plu.pledges, e.claim.board ≠ n) ∧
      ∀ e ∈ s.plu.pledges, e.claim.board ≠ n →
        ∃ e' ∈ t.plu.pledges, e.kw ≤ e'.kw ∧ e' = { e with kw := e'.kw }) ∧
    (OnBoard s → KeepsAllBut [.pvt, .evf, .chs] s t ∧ Posts [(.peerLost, .node n, 0, 0)] s t ∧
      t.chs = { s.chs with claim := s.chs.claim.map fun c =>
        { c with pledges := c.pledges.filter fun e => e.node != n } }) := by
  intro t
  have t_eq : t = peerGone n (s.lostPeer n) := rfl
  have wrote := lostPeer_wrote n s
  have pvt := peerGone_pvt n (s.lostPeer n)
  have told : Tells (s.lostPeer n) t := peerGone_tells (.refl _)
  have frame : KeepsAllBut [.pvt, .evf] s (s.lostPeer n) := keepsAllBut_of (by simp [State.lostPeer])
  have hpt : (s.lostPeer n).hpt = s.hpt := by simp [State.lostPeer]
  have plu : (s.lostPeer n).plu = s.plu := by simp [State.lostPeer]
  have chs : (s.lostPeer n).chs = s.chs := by simp [State.lostPeer]
  have running_iff : Running (s.lostPeer n) ↔ Running s := by rw [Running, hpt]; rfl
  have board_iff : OnBoard (s.lostPeer n) ↔ OnBoard s := by rw [OnBoard, hpt]; rfl
  rw [← t_eq] at pvt
  refine ⟨?_, ?_, wrote.first told, fun config => ?_, fun running => ?_, fun board => ?_⟩
  · rw [pvt]
    simp [State.lostPeer]
  · rw [pvt]
    simp [State.lostPeer]
  · rw [t_eq, peerGone_config n (hpt ▸ config)]
    exact ⟨frame, wrote.posts⟩
  · obtain ⟨keeps, waits, pledges, others⟩ := pledgePeerGone_spec n (s.lostPeer n)
    rw [plu] at others
    rw [t_eq, peerGone_genset n (running_iff.mpr running)]
    exact ⟨keepsAllBut_of (by simp [State.lostPeer]), waits, pledges, others⟩
  · rw [t_eq, peerGone_board n (board_iff.mpr board)]
    refine ⟨keepsAllBut_of (by simp [State.lostPeer]), (wrote.of_end rfl rfl).posts, ?_⟩
    rw [boardPeerGone, chs]
    rfl

/-! ### A STATUS at the view (R30 to R32) -/

theorem oldestLost_none {l : List Peer} (h : oldestLost l = none) :
    ∀ r ∈ l, r.freshness = .lost → r.lostSince = none := by
  induction l with
  | nil => exact fun _ there => absurd there List.not_mem_nil
  | cons p ps ih =>
    unfold oldestLost at h
    split at h
    · exact nomatch h
    · split at h
      · split at h <;> exact nomatch h
      · exact nomatch h
    · rename_i alone _
      refine List.forall_mem_cons.mpr ⟨fun lost => ?_, ih h⟩
      cases since : p.lostSince with
      | none => rfl
      | some t => exact (alone t lost since h).elim

/-- The record that gives way is the LOST one with the earliest lost-since time, of equals the lower node id (R32). -/
theorem oldestLost_spec {l : List Peer} {q : Peer} (h : oldestLost l = some q) : q ∈ l ∧ q.freshness = .lost ∧
    ∃ since, q.lostSince = some since ∧ ∀ r ∈ l, ∀ x, r.freshness = .lost → r.lostSince = some x →
      since < x ∨ since = x ∧ q.node ≤ r.node := by
  induction l generalizing q with
  | nil => exact nomatch h
  | cons p ps ih =>
    unfold oldestLost at h
    split at h
    · rename_i t lost since rest
      cases h
      refine ⟨List.mem_cons_self, lost, t, since, List.forall_mem_cons.mpr ⟨fun x _ same => ?_, fun r there x gone same => ?_⟩⟩
      · cases since.symm.trans same
        exact .inr ⟨rfl, le_rfl⟩
      · rw [oldestLost_none rest r there gone] at same
        exact nomatch same
    · rename_i t q' lost since rest
      obtain ⟨there, lost', u, since', first⟩ := ih rest
      rw [since'] at h
      dsimp only at h
      split at h <;> rename_i before <;> cases h
      · refine ⟨List.mem_cons_self, lost, t, since, List.forall_mem_cons.mpr ⟨fun x _ same => ?_, fun r there x gone same => ?_⟩⟩
        · cases since.symm.trans same
          exact .inr ⟨rfl, le_rfl⟩
        · have := first r there x gone same
          omega
      · refine ⟨List.mem_cons_of_mem p there, lost', u, since', List.forall_mem_cons.mpr ⟨fun x _ same => ?_, first⟩⟩
        cases since.symm.trans same
        omega
    · rename_i _ beside
      obtain ⟨there, lost', u, since', first⟩ := ih h
      refine ⟨List.mem_cons_of_mem p there, lost', u, since', List.forall_mem_cons.mpr ⟨fun x gone same => ?_, first⟩⟩
      exact (beside x q gone same h).elim

/-- The record made of a STATUS takes the place of a node's (R30). -/
def State.inPlaceOf (s : State) (node n : Nat) (body : StatusBody) : State := { s with pvt := { s.pvt with
  peers := s.pvt.peers.map fun x => if x.node = node then ⟨n, s.siteMillis, body, .fresh, none⟩ else x } }

theorem rebuild_eq {x : State} (n : Nat) (body : StatusBody) (clock : x.clock = s.clock) :
    changePeer n (fun _ => freshPeer n body x.stamp) x = { x with pvt := { x.pvt with
      peers := x.pvt.peers.map fun y => if y.node = n then ⟨n, s.siteMillis, body, .fresh, none⟩ else y } } := by
  have stamp : x.stamp = s.stamp := by simp only [State.stamp, State.siteMillis, clock]
  rw [stamp]
  rfl

/-- A STATUS of a known node whose run tag and role are those recorded (R30). -/
theorem takeStatus_known {n : Nat} {body : StatusBody} {p : Peer} (known : s.pvt.peer n = some p)
    (tag : p.status.runTag = body.runTag) (role : p.status.role = body.role) : takeStatus n body s =
      if p.freshness = .lost then postPeerNew n body true (s.inPlaceOf n n body) else s.inPlaceOf n n body := by
  unfold takeStatus
  rw [known]
  exact if_pos ⟨tag, role⟩

/-- The event of a restart (R31). -/
def State.restarted (s : State) (n : Nat) (p : Peer) (body : StatusBody) : State :=
  postEvent .peerRestart (.node n) (pair16 p.status.runTag body.runTag) 0 s

theorem takeStatus_restarts {n : Nat} {body : StatusBody} {p : Peer} (known : s.pvt.peer n = some p)
    (other : p.status.runTag ≠ body.runTag ∨ p.status.role ≠ body.role) : takeStatus n body s =
      (peerGone n (s.restarted n p body)).withPvt { (peerGone n (s.restarted n p body)).pvt with
        peers := s.pvt.peers.map fun y => if y.node = n then ⟨n, s.siteMillis, body, .fresh, none⟩ else y } := by
  have clock : (peerGone n (s.restarted n p body)).clock = s.clock := by simp [State.restarted]
  have peers : (peerGone n (s.restarted n p body)).pvt.peers = s.pvt.peers := by
    rw [peerGone_pvt]
    simp [State.restarted]
  have rebuilt : takeStatus n body s = changePeer n (fun _ => freshPeer n body (peerGone n (s.restarted n p body)).stamp)
      (peerGone n (s.restarted n p body)) := by
    unfold takeStatus
    rw [known]
    exact if_neg fun same => other.elim (fun h => h same.1) fun h => h same.2
  rw [rebuilt, rebuild_eq n body clock, peers]
  rfl

/-- A restart tells PEER_RESTART, gives the peer-gone notice, and rebuilds the record (R31, R35). -/
theorem takeStatus_restart_spec {n : Nat} {body : StatusBody} {p : Peer} (known : s.pvt.peer n = some p)
    (other : p.status.runTag ≠ body.runTag ∨ p.status.role ≠ body.role) :
    let t := takeStatus n body s
    t.pvt.peers = (s.inPlaceOf n n body).pvt.peers ∧
    PostsFirst [(.peerRestart, .node n, pair16 p.status.runTag body.runTag, 0)] s t ∧
    (s.hpt.nodeState = .config → KeepsAllBut [.evf] (s.inPlaceOf n n body) t) ∧
    (Running s → KeepsAllBut [.pvt, .evf, .plu, .slc] s t ∧ (∀ w ∈ t.plu.waits, w.claim.board ≠ n) ∧
      ∀ e ∈ t.plu.pledges, e.claim.board ≠ n) ∧
    (OnBoard s → KeepsAllBut [.evf, .chs] (s.inPlaceOf n n body) t ∧ t.chs = { s.chs with
      claim := s.chs.claim.map fun c => { c with pledges := c.pledges.filter fun e => e.node != n } }) := by
  intro t
  have restarts : t = _ := takeStatus_restarts known other
  have wrote : Wrote [(.peerRestart, .node n, pair16 p.status.runTag body.runTag, 0)] s (s.restarted n p body) :=
    postEvent_wrote ..
  have told : Tells (s.restarted n p body) (peerGone n (s.restarted n p body)) := peerGone_tells (.refl _)
  have hpt : (s.restarted n p body).hpt = s.hpt := by simp [State.restarted]
  have chs : (s.restarted n p body).chs = s.chs := by simp [State.restarted]
  rw [restarts]
  refine ⟨rfl, wrote.first told, fun config => ?_, fun running => ?_, fun board => ?_⟩
  · rw [peerGone_config n (hpt ▸ config)]
    exact keepsAllBut_of (by simp [State.restarted, State.inPlaceOf])
  · have running' : Running (s.restarted n p body) := by rw [Running, hpt]; exact running
    obtain ⟨-, waits, pledges, -⟩ := pledgePeerGone_spec n (s.restarted n p body)
    rw [peerGone_genset n running']
    exact ⟨keepsAllBut_of (by simp [State.restarted]), waits, pledges⟩
  · have board' : OnBoard (s.restarted n p body) := by rw [OnBoard, hpt]; exact board
    rw [peerGone_board n board']
    refine ⟨keepsAllBut_of (by simp [State.restarted, State.inPlaceOf, boardPeerGone]), ?_⟩
    rw [boardPeerGone, chs]
    rfl

/-- A STATUS of a node without a record (R32). -/
theorem takeStatus_new_spec {n : Nat} (body : StatusBody) (unknown : s.pvt.peer n = none) :
    let t := takeStatus n body s
    let isNew : EventKind × Subject × Nat × Nat := (.peerNew, .node n, pair16 body.role.code body.runTag, 0)
    (s.pvt.peers.length < 32 → KeepsAllBut [.pvt, .evf] s t ∧ Posts [isNew] s t ∧
      t.pvt = { s.pvt with peers := s.pvt.peers ++ [⟨n, s.siteMillis, body, .fresh, none⟩] }) ∧
    (∀ q since, 32 ≤ s.pvt.peers.length → q ∈ s.pvt.peers → q.freshness = .lost → q.lostSince = some since →
      (∀ r ∈ s.pvt.peers, ∀ x, r.freshness = .lost → r.lostSince = some x →
        since < x ∨ since = x ∧ q.node ≤ r.node) →
      KeepsAllBut [.evf] (s.inPlaceOf q.node n body) t ∧ Posts [isNew] s t) ∧
    (32 ≤ s.pvt.peers.length → (∀ r ∈ s.pvt.peers, r.freshness ≠ .lost) →
      (s.pvt.overflowReported = true → t = s) ∧
      (s.pvt.overflowReported = false → KeepsAllBut [.pvt, .evf] s t ∧
        t.pvt = { s.pvt with overflowReported := true } ∧ Posts [(.peerOverflow, .node n, 0, 0)] s t)) := by
  intro t isNew
  have new : t = newPeer n body s := by simp only [t, takeStatus, unknown]
  rw [new]
  refine ⟨fun room => ?_, fun q since full there lost same first => ?_, fun full present => ?_⟩
  · have joins : newPeer n body s = postPeerNew n body false (s.withPvt { s.pvt with
        peers := s.pvt.peers ++ [⟨n, s.siteMillis, body, .fresh, none⟩] }) := if_pos room
    rw [joins]
    exact ⟨keepsAllBut_of (by simp [postPeerNew]), (postEvent_wrote_on ..).posts, by simp [postPeerNew]⟩
  · cases oldest : oldestLost s.pvt.peers with
    | none => exact nomatch (oldestLost_none oldest q there lost).symm.trans same
    | some q' =>
      obtain ⟨there', lost', since', same', first'⟩ := oldestLost_spec oldest
      have node : q'.node = q.node := by
        have := first q' there' since' lost' same'
        have := first' q there since lost same
        omega
      have replaces : newPeer n body s = postPeerNew n body false (s.inPlaceOf q.node n body) := by
        unfold newPeer
        dsimp only
        rw [if_neg (by omega), oldest]
        dsimp only
        rw [node]
        rfl
      rw [replaces]
      exact ⟨keepsAllBut_of (by simp [postPeerNew]), (postEvent_wrote_on ..).posts⟩
  · have oldest : oldestLost s.pvt.peers = none := by
      cases found : oldestLost s.pvt.peers with
      | none => rfl
      | some q =>
        obtain ⟨there, lost, -⟩ := oldestLost_spec found
        exact absurd lost (present q there)
    have told : newPeer n body s = if s.pvt.overflowReported then s
        else postEvent .peerOverflow (.node n) 0 0 (s.withPvt { s.pvt with overflowReported := true }) := by
      unfold newPeer
      dsimp only
      rw [if_neg (by omega), oldest]
    rw [told]
    refine ⟨fun reported => if_pos reported, fun unreported => ?_⟩
    rw [if_neg (by simp [unreported])]
    exact ⟨keepsAllBut_of (by simp), by simp, (postEvent_wrote_on ..).posts⟩

/-- Settles O15. -/
theorem peersAge : Obligations.PeersAge := by
  refine ⟨fun s n p known => ⟨fun fresh old => ?_, fun stale old => ?_, fun since lost same old => ?_⟩, fun s n body => ?_⟩
  · have ages : peerStale n s = changePeer n (fun p => { p with freshness := .stale }) s := by
      unfold peerStale
      rw [known]
      exact if_pos ⟨fresh, by rw [limit_eq]; exact old⟩
    exact ⟨_, congrArg Host.Outcome.next ages, keepsAllBut_of (by simp), rfl⟩
  · have ages : peerLost n s = losePeer n s := by
      unfold peerLost
      rw [known]
      exact if_pos ⟨stale, by rw [limit_eq]; exact old⟩
    exact ⟨_, congrArg Host.Outcome.next ages, losePeer_spec n s⟩
  · have due : s.pvt.removalDue s.stamp p = true := by
      unfold Pvt.removalDue
      rw [lost, same]
      refine decide_eq_true ?_
      rw [limit_eq]
      exact old
    have leaves : peerRemoved n s =
        s.withPvt { s.pvt with peers := s.pvt.peers.filter fun p => p.node != n, overflowReported := false } := by
      unfold peerRemoved
      rw [known]
      exact if_pos due
    exact ⟨_, congrArg Host.Outcome.next leaves, keepsAllBut_of (by simp), rfl, rfl⟩
  · intro t new inPlaceOf isNew
    refine ⟨fun p known tag role => ?_, fun p known other => takeStatus_restart_spec known other, fun unknown =>
      takeStatus_new_spec body unknown⟩
    simp only [t]
    rw [takeStatus_known known tag role]
    refine ⟨fun present => if_neg present, fun lost => ?_⟩
    rw [if_pos lost]
    exact ⟨keepsAllBut_of (by simp [postPeerNew, inPlaceOf, State.inPlaceOf, new]), (postEvent_wrote_on ..).posts⟩

end Sys2Proof.Machine
end

section
/-! Pledges at the pledger: CONFIRM, RELEASE, deadlines, a sample, derate and trip (R87, R88, R92, R99 to R103): O29. -/

namespace Sys2Proof.Machine

open Sys2Proof.Claims

variable {s t u : State}

/-! ### Entries dropped and changed -/

theorem entry_dropPledge_same (c : ClaimId) (s : State) : (dropPledge c s).plu.entry c = none := by
  rw [entry_eq_none_iff]
  intro listed
  obtain ⟨e, there, same⟩ := List.mem_map.mp listed
  have other : e.claim ≠ c := by simpa using (List.mem_filter.mp there).2
  exact other same

theorem entry_dropPledge_other {c d : ClaimId} (other : d ≠ c) (s : State) : (dropPledge c s).plu.entry d = s.plu.entry d := by
  unfold dropPledge Plu.entry
  simp only [State.withPlu_plu, List.find?_filter]
  refine List.find?_congr fun e _ => ?_
  by_cases same : e.claim = d <;> simp [same, other]

theorem entry_changePledge_same {c : ClaimId} {f : PledgeEntry → PledgeEntry} (claim : ∀ e, (f e).claim = e.claim) (s : State) :
    (changePledge c f s).plu.entry c = (s.plu.entry c).map f := by
  have mapped : (changePledge c f s).plu.entry c = (s.plu.entry c).map fun e => if e.claim = c then f e else e :=
    find?_map_claim (l := s.plu.pledges) (fun e => by split <;> simp [claim]) c
  rw [mapped]
  cases entry : s.plu.entry c with
  | none => rfl
  | some e => rw [Option.map_some, Option.map_some, if_pos (entry_mem entry).2]

theorem entry_changePledge_other {c d : ClaimId} {f : PledgeEntry → PledgeEntry} (claim : ∀ e, (f e).claim = e.claim)
    (other : d ≠ c) (s : State) : (changePledge c f s).plu.entry d = s.plu.entry d := by
  have mapped : (changePledge c f s).plu.entry d = (s.plu.entry d).map fun e => if e.claim = c then f e else e :=
    find?_map_claim (l := s.plu.pledges) (fun e => by split <;> simp [claim]) d
  rw [mapped]
  cases entry : s.plu.entry d with
  | none => rfl
  | some e => rw [Option.map_some, if_neg ((entry_mem entry).2 ▸ other)]

/-- The choices make no entry for a claim that does not wait, and leave that of one that has it. -/
theorem settlePledges_entry {d : ClaimId} (absent : ∀ w ∈ s.plu.waits, w.claim ≠ d) :
    (settlePledges s).plu.entry d = s.plu.entry d := by
  rw [settlePledges_served]
  exact (servePledges_served s).stands d absent

theorem settlePledges_waits_ne {d : ClaimId} (absent : ∀ w ∈ s.plu.waits, w.claim ≠ d) :
    ∀ w ∈ (settlePledges s).plu.waits, w.claim ≠ d := by
  rw [settlePledges_served]
  exact (servePledges_served s).waits_ne absent

theorem dropWait_absent (c : ClaimId) (s : State) : ∀ w ∈ (dropWait c s).plu.waits, w.claim ≠ c := fun w there => by
  simpa using (List.mem_filter.mp there).2

theorem dropWait_waits {c d : ClaimId} (absent : ∀ w ∈ s.plu.waits, w.claim ≠ d) :
    ∀ w ∈ (dropWait c s).plu.waits, w.claim ≠ d := fun w there => absent w (List.mem_of_mem_filter there)

/-! ### CONFIRM (R99) -/

/-- The entry that a CONFIRM changes, in place of the wait-list entry, and the choices that follow. -/
theorem confirmed_spec (c : ClaimId) {f : PledgeEntry → PledgeEntry} (claim : ∀ e, (f e).claim = e.claim) (s : State) :
    let t := settlePledges (changePledge c f (dropWait c s))
    (∀ w ∈ t.plu.waits, w.claim ≠ c) ∧ OthersStand c s t ∧ t.plu.entry c = (s.plu.entry c).map f := by
  refine ⟨settlePledges_waits_ne (dropWait_absent c s), fun d other absent => ?_, ?_⟩
  · exact (settlePledges_entry (s := changePledge c f (dropWait c s)) (dropWait_waits absent)).trans
      (entry_changePledge_other claim other _)
  · exact (settlePledges_entry (s := changePledge c f (dropWait c s)) (dropWait_absent c s)).trans
      (entry_changePledge_same claim _)

/-- An entry that goes with its wait-list entry, and the choices that follow (R99, R101). -/
theorem dropped_spec (c : ClaimId) (s : State) :
    let t := settlePledges (dropPledge c (dropWait c s))
    (∀ w ∈ t.plu.waits, w.claim ≠ c) ∧ OthersStand c s t ∧ t.plu.entry c = none := by
  refine ⟨settlePledges_waits_ne (dropWait_absent c s), fun d other absent => ?_, ?_⟩
  · exact (settlePledges_entry (s := dropPledge c (dropWait c s)) (dropWait_waits absent)).trans (entry_dropPledge_other other _)
  · exact (settlePledges_entry (s := dropPledge c (dropWait c s)) (dropWait_absent c s)).trans (entry_dropPledge_same c _)

/-- A CONFIRM that meets no OFFERED entry (R99). -/
theorem takeConfirm_unoffered (c : ClaimId) (entries : List (Nat × Nat)) (capture : List Byte) (s : State) :
    let named := entries.find? fun e => decide (e.1 = s.eventId)
    (∀ e, s.plu.entry c = some e → e.state ≠ .offered → takeConfirm c entries capture s = dropWait c s) ∧
    (s.plu.entry c = none → takeConfirm c entries capture s =
      if named.isSome then reportFault .confirmStray capture (dropWait c s) else dropWait c s) := by
  intro named
  have entry : (dropWait c s).plu.entry c = s.plu.entry c := rfl
  have same : (entries.find? fun e => decide (e.1 = (dropWait c s).eventId)) = named := rfl
  unfold takeConfirm
  dsimp only
  rw [entry, same]
  refine ⟨fun e known other => ?_, fun unknown => ?_⟩
  · rw [known]
    exact if_neg other
  · rw [unknown]
    cases named <;> rfl

/-- A CONFIRM that meets an OFFERED entry (R99). -/
theorem takeConfirm_offered {c : ClaimId} {e : PledgeEntry} (entries : List (Nat × Nat)) (capture : List Byte)
    (known : s.plu.entry c = some e) (offered : e.state = .offered) :
    let named := entries.find? fun e => decide (e.1 = s.eventId)
    (∀ node kw, named = some (node, kw) → 0 < kw → takeConfirm c entries capture s = settlePledges (changePledge c
      (fun e => { e with state := .confirmed, kw := min kw e.kw, deadline := s.now + 15 * second }) (dropWait c s))) ∧
    (named = none ∨ (∃ node, named = some (node, 0)) →
      takeConfirm c entries capture s = settlePledges (dropPledge c (dropWait c s))) := by
  intro named
  have entry : (dropWait c s).plu.entry c = some e := known
  have same : (entries.find? fun e => decide (e.1 = (dropWait c s).eventId)) = named := rfl
  unfold takeConfirm
  dsimp only
  rw [entry, same]
  refine ⟨fun node kw is some => ?_, fun refused => ?_⟩
  · rw [is]
    exact (if_pos offered).trans (if_neg (by omega))
  · rcases refused with is | ⟨node, is⟩ <;> rw [is]
    · exact if_pos offered
    · exact (if_pos offered).trans (if_pos rfl)

theorem takeConfirm_spec (c : ClaimId) (entries : List (Nat × Nat)) (capture : List Byte) (s : State) :
    let t := takeConfirm c entries capture s
    let named := entries.find? fun e => decide (e.1 = s.eventId)
    (∀ w ∈ t.plu.waits, w.claim ≠ c) ∧ OthersStand c s t ∧
    (∀ e, s.plu.entry c = some e → e.state = .offered →
      (∀ node kw, named = some (node, kw) → 0 < kw → t.plu.entry c = some { e with
        state := .confirmed, kw := min kw e.kw, deadline := s.now + 15 * second }) ∧
      (named = none ∨ (∃ node, named = some (node, 0)) → t.plu.entry c = none)) ∧
    (∀ e, s.plu.entry c = some e → e.state ≠ .offered →
      t = { s with plu := { s.plu with waits := s.plu.waits.filter fun w => decide (w.claim ≠ c) } }) ∧
    (s.plu.entry c = none → t.plu = { s.plu with waits := s.plu.waits.filter fun w => decide (w.claim ≠ c) } ∧
      KeepsAllBut [.plu, .evf] s t ∧ (named = none → t.evf = s.evf) ∧
      (named.isSome → Reports .confirmStray [] s t)) := by
  intro t named
  obtain ⟨stands, unknown⟩ := takeConfirm_unoffered c entries capture s
  cases entry : s.plu.entry c with
  | none =>
    have told : t = if named.isSome then reportFault .confirmStray capture (dropWait c s) else dropWait c s := unknown entry
    have plu : t.plu = (dropWait c s).plu := by
      rw [told]
      split <;> simp
    refine ⟨by rw [plu]; exact dropWait_absent c s, fun d _ _ => by rw [plu]; rfl, nofun, nofun, fun _ => ⟨plu, ?_, fun is => ?_, fun is => ?_⟩⟩
    · rw [told]
      split <;> exact keepsAllBut_of (by simp)
    · rw [told, if_neg (by simp [is])]
      rfl
    · rw [told, if_pos is]
      exact reportFault_reports_on _ _ rfl rfl rfl
  | some e =>
    by_cases offered : e.state = .offered
    · obtain ⟨takes, refuses⟩ := takeConfirm_offered entries capture entry offered
      have others : (∀ w ∈ t.plu.waits, w.claim ≠ c) ∧ OthersStand c s t := by
        rcases is : named with _ | ⟨node, kw⟩
        · obtain ⟨waits, others, -⟩ := dropped_spec c s
          simp only [t, refuses (.inl is)]
          exact ⟨waits, others⟩
        · rcases Nat.eq_zero_or_pos kw with rfl | some
          · obtain ⟨waits, others, -⟩ := dropped_spec c s
            simp only [t, refuses (.inr ⟨node, is⟩)]
            exact ⟨waits, others⟩
          · obtain ⟨waits, others, -⟩ := confirmed_spec c (s := s) (f := fun e => { e with
              state := .confirmed, kw := min kw e.kw, deadline := s.now + 15 * second }) fun _ => rfl
            simp only [t, takes node kw is some]
            exact ⟨waits, others⟩
      refine ⟨others.1, others.2, fun e' same _ => ⟨fun node kw is some => ?_, fun refused => ?_⟩, fun e' same other => ?_, nofun⟩
      · obtain ⟨-, -, entry'⟩ := confirmed_spec c (s := s) (f := fun e => { e with
          state := .confirmed, kw := min kw e.kw, deadline := s.now + 15 * second }) fun _ => rfl
        simp only [t, takes node kw is some]
        rw [entry', entry, same]
        rfl
      · simp only [t, refuses refused]
        exact (dropped_spec c s).2.2
      · cases same
        exact absurd offered other
    · have stands : t = dropWait c s := stands e entry offered
      rw [stands]
      exact ⟨dropWait_absent c s, fun _ _ _ => rfl, fun e' same is => absurd (Option.some.inj same ▸ is) offered, fun _ _ _ => rfl, nofun⟩

/-! ### RELEASE, deadline and expiry (R92, R100, R101) -/

/-- A CONFIRMED entry once its claim is DONE (R101). -/
def PledgeEntry.settled (now : Nat) (e : PledgeEntry) : PledgeEntry := { e with state := .settling, deadline := now + 10 * second }

theorem takeRelease_spec (c : ClaimId) (why : ReleaseReason) (s : State) :
    let t := takeRelease c why s
    (∀ w ∈ t.plu.waits, w.claim ≠ c) ∧ OthersStand c s t ∧
    (∀ e, s.plu.entry c = some e →
      (e.state = .offered ∨ e.state = .confirmed ∧ why ≠ .done → t.plu.entry c = none) ∧
      (e.state = .confirmed → why = .done →
        t.plu.entry c = some { e with state := .settling, deadline := s.now + 10 * second }) ∧
      (e.state = .settling → t.plu.entry c = some e)) ∧
    (s.plu.entry c = none →
      t = { s with plu := { s.plu with waits := s.plu.waits.filter fun w => decide (w.claim ≠ c) } }) := by
  intro t
  have released : t = match s.plu.entry c with
    | none => dropWait c s
    | some e => match e.state, why with
      | .offered, _ => settlePledges (dropPledge c (dropWait c s))
      | .confirmed, .done => changePledge c (fun e => { e with state := .settling, deadline := s.now + 10 * second }) (dropWait c s)
      | .confirmed, _ => settlePledges (dropPledge c (dropWait c s))
      | .settling, _ => dropWait c s := rfl
  obtain ⟨waits, others, gone⟩ := dropped_spec c s
  cases entry : s.plu.entry c with
  | none =>
    rw [entry] at released
    rw [released]
    exact ⟨dropWait_absent c s, fun _ _ _ => rfl, nofun, fun _ => rfl⟩
  | some e =>
    rw [entry] at released
    dsimp only at released
    have goes (h : t = settlePledges (dropPledge c (dropWait c s))) (not : ¬(e.state = .confirmed ∧ why = .done) ∧ e.state ≠ .settling) :
        (∀ w ∈ t.plu.waits, w.claim ≠ c) ∧ OthersStand c s t ∧
        (∀ e', some e = some e' → (e'.state = .offered ∨ e'.state = .confirmed ∧ why ≠ .done → t.plu.entry c = none) ∧
          (e'.state = .confirmed → why = .done →
            t.plu.entry c = some { e' with state := .settling, deadline := s.now + 10 * second }) ∧
          (e'.state = .settling → t.plu.entry c = some e')) := by
      rw [h]
      refine ⟨waits, others, fun e' same => ?_⟩
      cases same
      exact ⟨fun _ => gone, fun confirmed done => absurd ⟨confirmed, done⟩ not.1, fun settling => absurd settling not.2⟩
    cases state : e.state with
    | offered =>
      rw [state] at released
      obtain ⟨waits, others, spec⟩ := goes released (by simp [state])
      exact ⟨waits, others, spec, nofun⟩
    | settling =>
      rw [state] at released
      rw [released]
      refine ⟨dropWait_absent c s, fun _ _ _ => rfl, fun e' same => ?_, nofun⟩
      cases same
      exact ⟨fun other => by simp [state] at other, fun confirmed => by simp [state] at confirmed, fun _ => entry⟩
    | confirmed =>
      rw [state] at released
      by_cases done : why = .done
      · rw [done] at released
        have settles : t = changePledge c (PledgeEntry.settled s.now) (dropWait c s) := released
        rw [settles]
        refine ⟨dropWait_absent c s, fun d other absent => entry_changePledge_other (f := PledgeEntry.settled s.now) (fun _ => rfl)
          other _, fun e' same => ?_, nofun⟩
        cases same
        refine ⟨fun other => by simp [state, done] at other, fun _ _ => ?_, fun settling => by simp [state] at settling⟩
        refine (entry_changePledge_same (f := PledgeEntry.settled s.now) (fun _ => rfl) _).trans ?_
        have known : (dropWait c s).plu.entry c = some e := entry
        rw [known]
        rfl
      · have drops : t = settlePledges (dropPledge c (dropWait c s)) := by
          rw [released]
          cases why with
          | done => exact absurd rfl done
          | aborted | failed => rfl
        obtain ⟨waits, others, spec⟩ := goes drops (by simp [state, done])
        exact ⟨waits, others, spec, nofun⟩

/-- Choices in MUTE change the headroom alone (R88). -/
theorem settlePledges_mute (mute : s.hpt.nodeState = .mute) : settlePledges s = refreshHeadroom s := by
  have none : offeredHeadroom s = 0 := if_neg fun ⟨_, run, _⟩ => by simp [mute] at run
  have stays : servePledges s = refreshHeadroom s := if_pos none
  have silent (x : State) (node : x.hpt.nodeState = .mute) : headroomCause x = x := by
    have nothing : extraCause x = x := if_pos (by simp [node])
    rw [headroomCause, nothing, ite_self]
  rw [settlePledges, stays]
  exact silent _ mute

/-- The state in which the choices follow at a deadline (R100). -/
def State.expired (s : State) (e : PledgeEntry) : State :=
  if e.state = .confirmed then postEvent .pledgeExpired (.claim e.claim) e.kw 0 (dropPledge e.claim s) else dropPledge e.claim s

theorem expired_plu (e : PledgeEntry) (s : State) : (s.expired e).plu = (dropPledge e.claim s).plu := by
  unfold State.expired
  split <;> simp

theorem pledgeDeadline_eq {e : PledgeEntry} (running : Running s) (entry : s.plu.entry e.claim = some e) (late : e.deadline ≤ s.now) :
    pledgeDeadline e.claim s = settlePledges (s.expired e) := by
  unfold pledgeDeadline
  rw [entry]
  exact if_pos (by simp [gensetWorks_iff.mpr running, late])

theorem pledgeDeadline_spec {e : PledgeEntry} (running : Running s) (entry : s.plu.entry e.claim = some e) (late : e.deadline ≤ s.now) :
    let t := pledgeDeadline e.claim s
    OthersStand e.claim s t ∧
      ((∀ w ∈ s.plu.waits, w.claim ≠ e.claim) → t.plu.entry e.claim = none) ∧
      (e.state = .confirmed → PostsFirst [(.pledgeExpired, .claim e.claim, e.kw, 0)] s t) ∧
      (e.state ≠ .confirmed → s.hpt.nodeState = .mute → t.evf = s.evf) := by
  intro t
  have expires : t = settlePledges (s.expired e) := pledgeDeadline_eq running entry late
  have waits : (s.expired e).plu.waits = s.plu.waits := by rw [expired_plu]; rfl
  have stands {d : ClaimId} (absent : ∀ w ∈ s.plu.waits, w.claim ≠ d) : t.plu.entry d = (dropPledge e.claim s).plu.entry d := by
    rw [expires, settlePledges_entry (by rw [waits]; exact absent), expired_plu]
  refine ⟨fun d other absent => (stands absent).trans (entry_dropPledge_other other s), fun absent =>
    (stands absent).trans (entry_dropPledge_same _ s), fun confirmed => ?_, fun other mute => ?_⟩
  · have posted : s.expired e = postEvent .pledgeExpired (.claim e.claim) e.kw 0 (dropPledge e.claim s) := if_pos confirmed
    have wrote : Wrote [(.pledgeExpired, .claim e.claim, e.kw, 0)] s (s.expired e) := posted ▸ postEvent_wrote_on ..
    rw [expires]
    exact wrote.first (settlePledges_tells (.refl _))
  · have silent : s.expired e = dropPledge e.claim s := if_neg other
    rw [expires, silent, settlePledges_mute (s := dropPledge e.claim s) mute]
    rfl

/-! ### A sample (R87, R88) -/

theorem arbiterRuns_fresh (n : Nat) (s : State) (fresh : Fresh s) : Fresh (arbiterRuns n s) := by
  induction n generalizing s with
  | zero => exact fresh
  | succ n ih =>
    unfold arbiterRuns
    split
    · exact fresh
    · split
      · exact fresh
      · exact ih _ (serve_fresh _ s)

/-- After the choices the headroom is that of the moment (R88). -/
theorem settlePledges_fresh (s : State) : Fresh (settlePledges s) := by
  have fresh : Fresh (servePledges s) := arbiterRuns_fresh _ _ (refreshHeadroom_fresh s)
  unfold Fresh offeredHeadroom at fresh ⊢
  simpa [settlePledges] using fresh

theorem settlePledges_rest (s : State) : (settlePledges s).plu.derated = s.plu.derated ∧
    (settlePledges s).plu.formed = s.plu.formed := by
  rw [settlePledges_served, (servePledges_served s).rest]
  exact ⟨rfl, rfl⟩

theorem announceRevoke_plu (c : ClaimId) (a b : Nat) (w : RevokeCause) (s : State) : (announceRevoke c a b w s).plu = s.plu := by
  simp

/-- A derate check changes the entries of the table alone (R102). -/
theorem revokeEntries_plu (l : List PledgeEntry) (s : State) :
    (revokeEntries l s).plu = { s.plu with pledges := (revokeEntries l s).plu.pledges } := by
  induction l generalizing s with
  | nil => rfl
  | cons e es ih =>
    unfold revokeEntries
    dsimp only
    split
    · rfl
    · split
      · rw [announceRevoke_plu]
        rfl
      · rw [ih, announceRevoke_plu]
        rfl

theorem pledgeSample_spec {c : FuelConfig} (running : Running s) (copy : s.fau.copy = some c) :
    let t := pledgeSample s
    let d := c.rating * (s.fau.factor * (if s.fau.diverge then 900 else 1000) / 1000) / 1000
    t.plu.derated = d ∧
    t.plu.headroom = (if s.setc.state = .online ∧ s.fpc.lost = false ∧ s.hpt.nodeState = .run
      then d - s.fpc.sample.p - kwOf t.plu.pledges else 0) ∧
    ∃ ci, t = settlePledges (derateCheck { s with plu := { s.plu with
      derated := d, ci := ci, formed := true } }) := by
  intro t d
  have capacity : deratedCapacity s = d := by
    simp only [deratedCapacity, copyRating, copy, divergenceFactor, d]
  have sample : t = settlePledges (derateCheck { s with plu := { s.plu with
      derated := d, ci := costIndex s, formed := true } }) := by
    rw [← capacity]
    exact if_pos (gensetWorks_iff.mpr running)
  generalize formed : ({ s with plu := { s.plu with derated := d, ci := costIndex s, formed := true } } : State) = x at sample
  have checked := revokeEntries_plu (x.plu.pledges.filter fun e => decide (e.state = .offered)).reverse x
  change (derateCheck x).plu = { x.plu with pledges := (derateCheck x).plu.pledges } at checked
  obtain ⟨derated, is⟩ := settlePledges_rest (derateCheck x)
  rw [← sample] at derated is
  have derated_d : t.plu.derated = d := by
    rw [derated, checked, ← formed]
  have is_formed : t.plu.formed = true := by
    rw [is, checked, ← formed]
  have parts : t.hpt = s.hpt ∧ t.setc = s.setc ∧ t.fpc = s.fpc := by
    rw [sample, ← formed]
    simp
  have fresh : t.plu.headroom = offeredHeadroom t := by
    rw [sample]
    exact settlePledges_fresh (derateCheck x)
  refine ⟨derated_d, ?_, costIndex s, by rw [formed]; exact sample⟩
  have role : s.hpt.role = some .genset := running.1
  rw [fresh, offeredHeadroom, parts.1, parts.2.1, parts.2.2, derated_d, is_formed]
  by_cases offers : s.setc.state = .online ∧ s.fpc.lost = false ∧ s.hpt.nodeState = .run
  · rw [if_pos offers, if_pos ⟨role, offers.2.2, offers.1, offers.2.1, rfl⟩]
    rfl
  · rw [if_neg offers, if_neg]
    exact fun ⟨_, run, online, answers, _⟩ => offers ⟨online, answers, run⟩

/-! ### Revocations told (R102, R103) -/

/-- A REVOKE that finds room tells nothing beside its own event. -/
theorem announceRevoke_wrote (c : ClaimId) (a b : Nat) (w : RevokeCause) (room : Room s) :
    Wrote [(.pledgeRevoked, .claim c, pair16 a b, w.code)] s (announceRevoke c a b w s) := by
  have evf : (offer (.revoke c.board c.serial a b) .urgent s).evf = s.evf := by
    by_cases run : s.hpt.nodeState = .run
    · rw [offer_joins run rfl (room.resolve_left (not_not.mpr run))]
      rfl
    · rw [offer_silent s _ _ run]
  exact postEvent_wrote_on _ _ _ _ _ (by rw [evf]) (by rw [evf]) (by simp)

/-- The REVOKE joins a queue with room (R102). -/
theorem announceRevoke_queued (c : ClaimId) (a b : Nat) (w : RevokeCause) (run : s.hpt.nodeState = .run)
    (room : s.slc.queue.length < 16) : ∃ q ∈ (announceRevoke c a b w s).slc.queue, q.cls = .urgent ∧
      q.bulletin = .revoke c.board c.serial a b := by
  refine ⟨freshEntry (.revoke c.board c.serial a b) .urgent, ?_, rfl, rfl⟩
  unfold announceRevoke
  rw [(postEvent_frame _ _ _ _ _).2.1, offer_joins run rfl room]
  exact mem_joinQueue.mpr (.inl rfl)

theorem announceRevoke_length (c : ClaimId) (a b : Nat) (w : RevokeCause) (s : State) :
    (announceRevoke c a b w s).slc.queue.length ≤ s.slc.queue.length + 1 := by
  unfold announceRevoke
  simpa using offer_length (.revoke c.board c.serial a b) .urgent s

/-- A REVOKE queued stays, whatever is told after it. -/
theorem revoke_stays (h : Tells s t) {board serial a b : Nat} (queued : ∃ q ∈ s.slc.queue, q.cls = .urgent ∧
    q.bulletin = .revoke board serial a b) : ∃ q ∈ t.slc.queue, q.cls = .urgent ∧ q.bulletin = .revoke board serial a b := by
  obtain ⟨q, there, urgent, is⟩ := queued
  exact ⟨q, h.urgent q there urgent (by rw [is]; rfl), urgent, is⟩

/-! ### The derate check (R102) -/

/-- The entries of a table, the newest first, once an excess is taken from the OFFERED ones. -/
def lowered : Nat → List PledgeEntry → List PledgeEntry
  | _, [] => []
  | x, e :: es =>
    if x = 0 then e :: es
    else if e.state = .offered then (if x < e.kw then { e with kw := e.kw - x } :: es else lowered (x - e.kw) es)
    else e :: lowered x es

theorem lowered_zero (l : List PledgeEntry) : lowered 0 l = l := by cases l <;> rfl

theorem lowered_offered {x : Nat} {e : PledgeEntry} (es : List PledgeEntry) (some : x ≠ 0) (offered : e.state = .offered) :
    lowered x (e :: es) = if x < e.kw then { e with kw := e.kw - x } :: es else lowered (x - e.kw) es := by
  rw [lowered, if_neg some, if_pos offered]

theorem lowered_standing (x : Nat) {e : PledgeEntry} (es : List PledgeEntry) (other : e.state ≠ .offered) :
    lowered x (e :: es) = e :: lowered x es := by
  rw [lowered]
  split
  · rename_i zero
    rw [zero, lowered_zero]
  · rfl

theorem kwOf_cons (e : PledgeEntry) (l : List PledgeEntry) : kwOf (e :: l) = e.kw + kwOf l := rfl

theorem kwOf_append (k l : List PledgeEntry) : kwOf (k ++ l) = kwOf k + kwOf l := by simp [kwOf]

theorem kwOf_reverse (l : List PledgeEntry) : kwOf l.reverse = kwOf l := by simp [kwOf, List.sum_reverse]

theorem kwOf_filter_le (keep : PledgeEntry → Bool) (l : List PledgeEntry) : kwOf (l.filter keep) ≤ kwOf l :=
  sum_filter_le PledgeEntry.kw keep l

/-- What is left holds the rest, or what may not be lowered. -/
theorem lowered_kw (x : Nat) (l : List PledgeEntry) :
    kwOf (lowered x l) = max (kwOf l - x) (kwOf (l.filter fun e => decide (e.state ≠ .offered))) := by
  induction l generalizing x with
  | nil => simp [lowered, kwOf]
  | cons e es ih =>
    have most := kwOf_filter_le (fun e => decide (e.state ≠ .offered)) es
    by_cases offered : e.state = .offered
    · rw [List.filter_cons_of_neg (by simp [offered])]
      rcases Nat.eq_zero_or_pos x with rfl | some
      · rw [lowered_zero, kwOf_cons]
        omega
      · rw [lowered_offered es some.ne' offered]
        split
        · rw [kwOf_cons, kwOf_cons]
          dsimp only
          omega
        · rw [ih, kwOf_cons]
          omega
    · rw [List.filter_cons_of_pos (by simp [offered]), lowered_standing x es offered, kwOf_cons, kwOf_cons, kwOf_cons, ih]
      omega

theorem lowered_keeps {x : Nat} {l : List PledgeEntry} {e : PledgeEntry} (there : e ∈ l) (other : e.state ≠ .offered) :
    e ∈ lowered x l := by
  induction l generalizing x with
  | nil => exact absurd there List.not_mem_nil
  | cons y ys ih =>
    by_cases offered : y.state = .offered
    · have behind : e ∈ ys := (List.mem_cons.mp there).resolve_left fun same => other (same ▸ offered)
      rcases Nat.eq_zero_or_pos x with rfl | some
      · rw [lowered_zero]
        exact there
      · rw [lowered_offered ys some.ne' offered]
        split
        · exact List.mem_cons_of_mem _ behind
        · exact ih behind
    · rw [lowered_standing x ys offered, List.mem_cons]
      exact (List.mem_cons.mp there).imp id ih

/-- The entry in which the excess ends: it keeps the rest, or goes with the newer OFFERED ones. -/
theorem lowered_ends {x : Nat} {e : PledgeEntry} (newer older : List PledgeEntry) (offered : e.state = .offered)
    (more : kwOf (newer.filter fun y => decide (y.state = .offered)) < x) :
    (x < kwOf (newer.filter fun y => decide (y.state = .offered)) + e.kw → lowered x (newer ++ e :: older) =
      newer.filter (fun y => decide (y.state ≠ .offered)) ++
        { e with kw := e.kw - (x - kwOf (newer.filter fun y => decide (y.state = .offered))) } :: older) ∧
    (x = kwOf (newer.filter fun y => decide (y.state = .offered)) + e.kw → lowered x (newer ++ e :: older) =
      newer.filter (fun y => decide (y.state ≠ .offered)) ++ older) := by
  induction newer generalizing x with
  | nil =>
    have none : kwOf ([].filter fun y : PledgeEntry => decide (y.state = .offered)) = 0 := rfl
    rw [none] at more ⊢
    simp only [List.nil_append, List.filter_nil, lowered_offered older more.ne' offered]
    refine ⟨fun part => by rw [if_pos (by omega), Nat.sub_zero], fun whole => ?_⟩
    rw [if_neg (by omega), show x - e.kw = 0 by omega, lowered_zero]
  | cons y ys ih =>
    by_cases is : y.state = .offered
    · rw [List.filter_cons_of_pos (by simp [is])] at more ⊢
      rw [List.filter_cons_of_neg (by simp [is]), kwOf_cons] at *
      rw [List.cons_append, lowered_offered _ (by omega) is, if_neg (by omega)]
      obtain ⟨part, whole⟩ := ih (x := x - y.kw) (by omega)
      refine ⟨fun less => ?_, fun same => whole (by omega)⟩
      rw [part (by omega), Nat.sub_sub]
    · rw [List.filter_cons_of_neg (by simp [is])] at more ⊢
      rw [List.filter_cons_of_pos (by simp [is]), List.cons_append, lowered_standing _ _ is]
      obtain ⟨part, whole⟩ := ih more
      exact ⟨fun less => congrArg (y :: ·) (part less), fun same => congrArg (y :: ·) (whole same)⟩

/-- An entry lowered by some kW. -/
def PledgeEntry.less (e : PledgeEntry) (n : Nat) : PledgeEntry := { e with kw := e.kw - n }

/-- A table in which one entry is replaced. -/
theorem map_claim_one {pre post : List PledgeEntry} {e : PledgeEntry} (f : PledgeEntry → PledgeEntry)
    (differ : ((pre ++ e :: post).map (·.claim)).Nodup) :
    ((pre ++ e :: post).map fun x => if x.claim = e.claim then f x else x) = pre ++ f e :: post := by
  rw [List.map_append, List.map_cons, List.nodup_append, List.nodup_cons] at differ
  obtain ⟨-, ⟨after, -⟩, apart⟩ := differ
  have stays (l : List PledgeEntry) (other : ∀ x ∈ l, x.claim ≠ e.claim) :
      (l.map fun x => if x.claim = e.claim then f x else x) = l :=
    (List.map_congr_left fun x there => if_neg (other x there)).trans (List.map_id l)
  rw [List.map_append, List.map_cons, if_pos rfl,
    stays pre fun x there => apart _ (List.mem_map_of_mem there) _ List.mem_cons_self,
    stays post fun x there same => after (same ▸ List.mem_map_of_mem there)]

/-- A table without one entry. -/
theorem filter_claim_one {pre post : List PledgeEntry} {e : PledgeEntry} (differ : ((pre ++ e :: post).map (·.claim)).Nodup) :
    ((pre ++ e :: post).filter fun x => decide (x.claim ≠ e.claim)) = pre ++ post := by
  rw [List.map_append, List.map_cons, List.nodup_append, List.nodup_cons] at differ
  obtain ⟨-, ⟨after, -⟩, apart⟩ := differ
  have stays (l : List PledgeEntry) (other : ∀ x ∈ l, x.claim ≠ e.claim) : (l.filter fun x => decide (x.claim ≠ e.claim)) = l :=
    List.filter_eq_self.mpr fun x there => by simp [other x there]
  rw [List.filter_append, List.filter_cons_of_neg (by simp),
    stays pre fun x there => apart _ (List.mem_map_of_mem there) _ List.mem_cons_self,
    stays post fun x there same => after (same ▸ List.mem_map_of_mem there)]

theorem revokeEntries_fits (l : List PledgeEntry) (fits : heldTotal s.plu ≤ deratedRoom s) : revokeEntries l s = s := by
  cases l with
  | nil => rfl
  | cons e es =>
    unfold revokeEntries
    exact if_pos (by omega)

/-- One entry of an excess (R102). -/
theorem revokeEntries_cons {e : PledgeEntry} (es : List PledgeEntry) (exceeds : deratedRoom s < heldTotal s.plu) :
    revokeEntries (e :: es) s = if heldTotal s.plu - deratedRoom s < e.kw then
      announceRevoke e.claim (heldTotal s.plu - deratedRoom s) (e.kw - (heldTotal s.plu - deratedRoom s)) .derate (s.withPlu { s.plu with
        pledges := s.plu.pledges.map fun x =>
          if x.claim = e.claim then { x with kw := x.kw - (heldTotal s.plu - deratedRoom s) } else x })
    else revokeEntries es (announceRevoke e.claim e.kw 0 .derate (dropPledge e.claim s)) := by
  rw [revokeEntries]
  exact if_neg (by omega)

/-- The table after a derate check: the OFFERED entries lowered, the newest first. -/
theorem revokeEntries_pledges (pre standing : List PledgeEntry) (s : State) (table : s.plu.pledges = pre ++ standing)
    (differ : (s.plu.pledges.map (·.claim)).Nodup) :
    (revokeEntries (pre.filter fun e => decide (e.state = .offered)).reverse s).plu.pledges =
      (lowered (heldTotal s.plu - deratedRoom s) pre.reverse).reverse ++ standing := by
  induction pre using List.reverseRecOn generalizing s standing with
  | nil => exact table
  | append_singleton pre e ih =>
    rcases Nat.lt_or_ge (deratedRoom s) (heldTotal s.plu) with exceeds | fits
    · rw [List.append_assoc, List.singleton_append] at table
      rw [List.reverse_append, List.reverse_singleton, List.singleton_append, List.filter_append]
      by_cases offered : e.state = .offered
      · have first : (pre.filter (fun e => decide (e.state = .offered)) ++ [e].filter fun e => decide (e.state = .offered)).reverse =
            e :: (pre.filter fun e => decide (e.state = .offered)).reverse := by simp [offered]
        rw [first, revokeEntries_cons _ exceeds, lowered_offered _ (by omega) offered]
        split
        · rw [announceRevoke_plu]
          change (s.plu.pledges.map fun x => if x.claim = e.claim then x.less (heldTotal s.plu - deratedRoom s) else x) = _
          rw [table] at differ ⊢
          rw [map_claim_one (·.less _) differ]
          simp [PledgeEntry.less]
        · have dropped : (announceRevoke e.claim e.kw 0 .derate (dropPledge e.claim s)).plu.pledges = pre ++ standing := by
            rw [announceRevoke_plu]
            change s.plu.pledges.filter (fun x => decide (x.claim ≠ e.claim)) = _
            rw [table] at differ ⊢
            exact filter_claim_one differ
          have differ' : ((pre ++ standing).map (·.claim)).Nodup := by
            rw [table] at differ
            refine (List.Sublist.map _ ?_).nodup differ
            exact (List.sublist_cons_self e standing).append_left pre
          rw [ih standing _ dropped (by rw [dropped]; exact differ')]
          have room : deratedRoom (announceRevoke e.claim e.kw 0 .derate (dropPledge e.claim s)) = deratedRoom s := by
            simp [deratedRoom, dropPledge]
          have held : heldTotal s.plu = kwOf pre + (e.kw + kwOf standing) := by
            rw [← kwOf_cons, ← kwOf_append, ← table]
            rfl
          have held' : heldTotal (announceRevoke e.claim e.kw 0 .derate (dropPledge e.claim s)).plu = kwOf pre + kwOf standing := by
            rw [← kwOf_append, ← dropped]
            rfl
          rw [room, held', held]
          congr 3
          omega
      · have same : (pre.filter (fun e => decide (e.state = .offered)) ++ [e].filter fun e => decide (e.state = .offered)) =
            pre.filter fun e => decide (e.state = .offered) := by simp [offered]
        rw [same, ih (e :: standing) s table differ, lowered_standing _ _ offered]
        simp
    · have none : heldTotal s.plu - deratedRoom s = 0 := by omega
      rw [revokeEntries_fits _ fits, none, lowered_zero, List.reverse_reverse]
      exact table

theorem derateCheck_pledges (differ : (s.plu.pledges.map (·.claim)).Nodup) : (derateCheck s).plu.pledges =
    (lowered (heldTotal s.plu - deratedRoom s) s.plu.pledges.reverse).reverse := by
  have table := revokeEntries_pledges s.plu.pledges [] s (List.append_nil _).symm differ
  rwa [List.append_nil] at table

/-- The newest OFFERED entry is told first (R102). -/
theorem derateCheck_first {pre post : List PledgeEntry} {e : PledgeEntry} (table : s.plu.pledges = pre ++ e :: post)
    (offered : e.state = .offered) (newest : ∀ x ∈ post, x.state ≠ .offered) (exceeds : deratedRoom s < heldTotal s.plu) :
    let r := min (heldTotal s.plu - deratedRoom s) e.kw
    ∃ x, x.slc = s.slc ∧ x.evf = s.evf ∧ x.hpt = s.hpt ∧ x.clock = s.clock ∧
      Tells (announceRevoke e.claim r (e.kw - r) .derate x) (derateCheck s) := by
  intro r
  have none : post.filter (fun x => decide (x.state = .offered)) = [] :=
    List.filter_eq_nil_iff.mpr fun x there => by simp [newest x there]
  have first : (s.plu.pledges.filter fun e => decide (e.state = .offered)).reverse =
      e :: (pre.filter fun e => decide (e.state = .offered)).reverse := by
    rw [table, List.filter_append, List.filter_cons_of_pos (by simp [offered]), none]
    simp
  unfold derateCheck
  rw [first, revokeEntries_cons _ exceeds]
  split
  · rename_i part
    have r_eq : r = heldTotal s.plu - deratedRoom s := Nat.min_eq_left part.le
    rw [← r_eq]
    exact ⟨s.withPlu { s.plu with pledges := s.plu.pledges.map fun x => if x.claim = e.claim then x.less r else x },
      rfl, rfl, rfl, rfl, .refl _⟩
  · rename_i whole
    have r_eq : r = e.kw := Nat.min_eq_right (by omega)
    rw [r_eq, Nat.sub_self]
    exact ⟨dropPledge e.claim s, rfl, rfl, rfl, rfl, revokeEntries_tells (.refl _)⟩

theorem derateCheck_spec (differ : (s.plu.pledges.map (·.claim)).Nodup) :
    let t := derateCheck s
    let room := s.plu.derated - s.fpc.sample.p
    let excess := kwOf s.plu.pledges - room
    (kwOf s.plu.pledges ≤ room → t = s) ∧
    (room < kwOf s.plu.pledges →
      kwOf t.plu.pledges = max room (kwOf (s.plu.pledges.filter fun e => decide (e.state ≠ .offered)))) ∧
    (∀ e ∈ s.plu.pledges, e.state ≠ .offered → e ∈ t.plu.pledges) ∧
    (∀ (pre post : List PledgeEntry) (e : PledgeEntry), s.plu.pledges = pre ++ e :: post →
      e.state = .offered →
      let newer := kwOf (post.filter fun x => decide (x.state = .offered))
      let standing := post.filter fun x => decide (x.state ≠ .offered)
      let r := min excess e.kw
      (newer < excess → excess < newer + e.kw →
        t.plu = { s.plu with
          pledges := pre ++ { e with kw := e.kw - (excess - newer) } :: standing }) ∧
      (newer < excess → excess = newer + e.kw → t.plu = { s.plu with pledges := pre ++ standing }) ∧
      (0 < excess → (∀ x ∈ post, x.state ≠ .offered) →
        (Room s → PostsFirst [(.pledgeRevoked, .claim e.claim, pair16 r (e.kw - r), 0)] s t) ∧
        (s.hpt.nodeState = .run → s.slc.queue.length < 16 → ∃ q ∈ t.slc.queue, q.cls = .urgent ∧
          q.bulletin = .revoke e.claim.board e.claim.serial r (e.kw - r)))) := by
  intro t room excess
  have table : t.plu.pledges = (lowered excess s.plu.pledges.reverse).reverse := derateCheck_pledges differ
  have plu : t.plu = { s.plu with pledges := t.plu.pledges } := revokeEntries_plu ..
  refine ⟨fun fits => revokeEntries_fits _ fits, fun exceeds => ?_, fun e there other => ?_, fun pre post e split offered => ?_⟩
  · rw [table, kwOf_reverse, lowered_kw, kwOf_reverse, List.filter_reverse, kwOf_reverse]
    congr 1
    omega
  · rw [table, List.mem_reverse]
    exact lowered_keeps (List.mem_reverse.mpr there) other
  · intro newer standing r
    have reversed : s.plu.pledges.reverse = post.reverse ++ e :: pre.reverse := by simp [split]
    have newer_eq : kwOf (post.reverse.filter fun y => decide (y.state = .offered)) = newer := by
      rw [List.filter_reverse, kwOf_reverse]
    have standing_eq : post.reverse.filter (fun y => decide (y.state ≠ .offered)) = standing.reverse := List.filter_reverse ..
    have ends := fun more => lowered_ends (x := excess) post.reverse pre.reverse offered more
    rw [newer_eq, standing_eq, ← reversed] at ends
    refine ⟨fun more part => ?_, fun more whole => ?_, fun some newest => ?_⟩
    · rw [plu, table, (ends more).1 part]
      simp
    · rw [plu, table, (ends more).2 whole]
      simp
    · have exceeds : deratedRoom s < heldTotal s.plu := by
        have : 0 < heldTotal s.plu - deratedRoom s := some
        omega
      obtain ⟨x, slc, evf, hpt, clock, told⟩ := derateCheck_first split offered newest exceeds
      refine ⟨fun free => ?_, fun run free => ?_⟩
      · have free' : Room x := by rw [Room, slc, hpt]; exact free
        exact ((announceRevoke_wrote _ _ _ _ free').of_start (by rw [evf]) (by rw [evf]) clock).first told
      · exact revoke_stays told (announceRevoke_queued _ _ _ _ (by rw [hpt]; exact run) (by rw [slc]; exact free))

/-! ### The trip notice (R103) -/

/-- What a trip notice tells of some entries. -/
def tripPosts (l : List PledgeEntry) : List (EventKind × Subject × Nat × Nat) :=
  (l.filter fun e => decide (e.state ≠ .settling)).map fun e => (.pledgeRevoked, .claim e.claim, pair16 e.kw 0, 1)

/-- The queue has room for the REVOKEs of some entries, or the node makes none. -/
def RoomFor (l : List PledgeEntry) (s : State) : Prop :=
  s.hpt.nodeState ≠ .run ∨ s.slc.queue.length + (l.filter fun e => decide (e.state ≠ .settling)).length ≤ 16

/-- The state after one entry of a trip notice. -/
def State.tripped (s : State) (e : PledgeEntry) : State :=
  if e.state = .settling then dropPledge e.claim s else announceRevoke e.claim e.kw 0 .trip (dropPledge e.claim s)

theorem tripEntries_cons (e : PledgeEntry) (es : List PledgeEntry) (s : State) :
    tripEntries (e :: es) s = tripEntries es (s.tripped e) := rfl

theorem tripped_plu (e : PledgeEntry) (s : State) : (s.tripped e).plu = (dropPledge e.claim s).plu := by
  unfold State.tripped
  split <;> simp

theorem tripEntries_plu (l : List PledgeEntry) (s : State) :
    (tripEntries l s).plu = { s.plu with pledges := (tripEntries l s).plu.pledges } := by
  induction l generalizing s with
  | nil => rfl
  | cons e es ih =>
    rw [tripEntries_cons, ih, tripped_plu]
    rfl

theorem roomFor_tripped {e : PledgeEntry} {es : List PledgeEntry} (room : RoomFor (e :: es) s) : RoomFor es (s.tripped e) := by
  have hpt : (s.tripped e).hpt = s.hpt := by
    unfold State.tripped
    split <;> simp [dropPledge]
  refine room.imp (fun other => hpt ▸ other) fun room => ?_
  unfold State.tripped
  by_cases settling : e.state = .settling
  · rw [if_pos settling]
    rwa [List.filter_cons_of_neg (by simp [settling])] at room
  · rw [if_neg settling]
    rw [List.filter_cons_of_pos (by simp [settling]), List.length_cons] at room
    have length := announceRevoke_length e.claim e.kw 0 .trip (dropPledge e.claim s)
    have queue : (dropPledge e.claim s).slc.queue.length = s.slc.queue.length := rfl
    omega

theorem tripEntries_wrote (l : List PledgeEntry) (s : State) (room : RoomFor l s) : Wrote (tripPosts l) s (tripEntries l s) := by
  induction l generalizing s with
  | nil => exact .of_eq rfl
  | cons e es ih =>
    have rest := ih (s.tripped e) (roomFor_tripped room)
    have clock : (s.tripped e).clock = s.clock := by
      unfold State.tripped
      split <;> simp [dropPledge]
    rw [tripEntries_cons]
    by_cases settling : e.state = .settling
    · have posts : tripPosts (e :: es) = tripPosts es := by simp [tripPosts, settling]
      have dropped : s.tripped e = dropPledge e.claim s := if_pos settling
      rw [posts]
      exact rest.of_start (by rw [dropped]; rfl) (by rw [dropped]; rfl) clock
    · have posts : tripPosts (e :: es) = [(.pledgeRevoked, .claim e.claim, pair16 e.kw 0, 1)] ++ tripPosts es := by
        simp [tripPosts, settling]
      have told : s.tripped e = announceRevoke e.claim e.kw 0 .trip (dropPledge e.claim s) := if_neg settling
      have room' : Room (dropPledge e.claim s) := by
        refine room.imp id fun room => ?_
        rw [List.filter_cons_of_pos (by simp [settling]), List.length_cons] at room
        have queue : (dropPledge e.claim s).slc.queue.length = s.slc.queue.length := rfl
        omega
      have first := (announceRevoke_wrote e.claim e.kw 0 .trip room').of_start (u := s) rfl rfl rfl
      rw [← told] at first
      rw [posts]
      exact first.trans rest clock

theorem tripEntries_queued (l : List PledgeEntry) (s : State) (run : s.hpt.nodeState = .run) (room : RoomFor l s) :
    ∀ e ∈ l, e.state ≠ .settling → ∃ q ∈ (tripEntries l s).slc.queue, q.cls = .urgent ∧
      q.bulletin = .revoke e.claim.board e.claim.serial e.kw 0 := by
  induction l generalizing s with
  | nil => exact fun _ there => absurd there List.not_mem_nil
  | cons x xs ih =>
    have hpt : (s.tripped x).hpt = s.hpt := by
      unfold State.tripped
      split <;> simp [dropPledge]
    rw [tripEntries_cons]
    refine List.forall_mem_cons.mpr ⟨fun other => ?_, ih _ (hpt ▸ run) (roomFor_tripped room)⟩
    have told : s.tripped x = announceRevoke x.claim x.kw 0 .trip (dropPledge x.claim s) := if_neg other
    have free : (dropPledge x.claim s).slc.queue.length < 16 := by
      have room := room.resolve_left (not_not.mpr run)
      rw [List.filter_cons_of_pos (by simp [other]), List.length_cons] at room
      have queue : (dropPledge x.claim s).slc.queue.length = s.slc.queue.length := rfl
      omega
    refine revoke_stays (s := s.tripped x) (tripEntries_tells (.refl _)) ?_
    rw [told]
    exact announceRevoke_queued _ _ _ _ run free

theorem tripNotice_spec (s : State) :
    let t := tripNotice s
    let told := s.plu.pledges.reverse.filter fun e => decide (e.state ≠ .settling)
    KeepsAllBut [.plu, .slc, .evf] s t ∧ t.plu = { s.plu with pledges := [] } ∧
    (s.hpt.nodeState ≠ .run ∨ s.slc.queue.length + told.length ≤ 16 →
      Posts (told.map fun e => (.pledgeRevoked, .claim e.claim, pair16 e.kw 0, 1)) s t) ∧
    (s.hpt.nodeState = .run → s.slc.queue.length + told.length ≤ 16 → ∀ e ∈ told, ∃ q ∈ t.slc.queue,
      q.cls = .urgent ∧ q.bulletin = .revoke e.claim.board e.claim.serial e.kw 0) := by
  intro t told
  have plu : t.plu = { s.plu with pledges := t.plu.pledges } := tripEntries_plu ..
  refine ⟨keepsAllBut_of (by simp [t]), ?_, fun room => (tripEntries_wrote _ s room).posts, fun run room e there => ?_⟩
  · rw [plu, tripNotice_pledges s]
  · obtain ⟨there, other⟩ := List.mem_filter.mp there
    exact tripEntries_queued _ s run (.inr room) e there (by simpa using other)

/-- Settles O29. -/
theorem pledgesAtPledger : Obligations.PledgesAtPledger := by
  refine ⟨fun s c entries capture => takeConfirm_spec c entries capture s, fun s c why => takeRelease_spec c why s,
    fun s w running there late => ?_, fun s e running entry late => ⟨_, rfl, pledgeDeadline_spec running entry late⟩,
    fun s c running copy => pledgeSample_spec running copy, fun s differ => derateCheck_spec differ, tripNotice_spec⟩
  refine congrArg Host.Outcome.next (if_pos ?_)
  rw [Bool.and_eq_true, List.any_eq_true]
  exact ⟨gensetWorks_iff.mpr running, w, there, by simp [late]⟩

end Sys2Proof.Machine
end

section
/-! Bulletins on the wire (R2, R3, R5, R206): O9. -/

namespace Sys2Proof.Machine

open Sys2Proof.Claims

variable {s t u : State}

/-! ### Numbers in bytes (chapter 12) -/

theorem byte_toNat {n : Nat} (small : n < 256) : (byte n).toNat = n := by
  rw [byte, BitVec.toNat_ofNat]
  exact Nat.mod_eq_of_lt small

theorem byte_toNat_mod (n : Nat) : (byte n).toNat = n % 256 := BitVec.toNat_ofNat n 8

theorem of16_be16 {n : Nat} (small : n < 65536) : of16 (byte (n / 256)) (byte n) = n := by
  rw [of16, byte_toNat_mod, byte_toNat_mod]
  omega

theorem nodeInRange_byte {n : Nat} (low : 1 ≤ n) (high : n ≤ 62) : nodeInRange (byte n) = true := by
  simp [nodeInRange, byte_toNat (show n < 256 by omega), low, high]

theorem groupInRange_byte {n : Nat} (low : 1 ≤ n) (high : n ≤ 15) : groupInRange (byte n) = true := by
  simp [groupInRange, byte_toNat (show n < 256 by omega), low, high]

/-! ### The payload of each kind read back (R206) -/

/-- The state byte of a GENSET STATUS: the set state above its four flags. -/
theorem stateByte_read (st : SetState) (a b c d : Bool) :
    let x := byte (st.code * 16 + maskNat [a, b, c, d])
    SetState.ofCode (x.toNat / 16) = some st ∧ x.getLsbD 0 = a ∧ x.getLsbD 1 = b ∧ x.getLsbD 2 = c ∧ x.getLsbD 3 = d := by
  revert a b c d
  cases st <;> decide

theorem flagsByte_read (a b : Bool) : (mask8 [a, b]).getLsbD 0 = a ∧ (mask8 [a, b]).getLsbD 1 = b := by
  revert a b
  decide

theorem boardState_read (st : BoardState) : BoardState.ofCode (byte st.code).toNat = some st := by cases st <;> rfl

theorem feederSel_read (f : Option Feeder) : feederSelOf (byte (feederSelCode f)).toNat = some f := by
  rcases f with _ | _ | _ <;> rfl

theorem claimKind_read (k : ClaimKind) : ClaimKind.ofCode (byte k.code).toNat = some k := by cases k <;> rfl

theorem releaseReason_read (r : ReleaseReason) : ReleaseReason.ofCode (byte r.code).toNat = some r := by cases r <;> rfl

theorem readGenset_payload (g : GensetStatus) (range : (Bulletin.status (.genset g)).inRange) : readGenset g.payload = some g := by
  obtain ⟨low, high, tag, p, r, headroom, held, ci, minutes⟩ := range
  obtain ⟨state, auto, refuel, diverge, lost⟩ := stateByte_read g.setState g.auto g.refuelWanted g.diverge g.frontEndLost
  have guard : (byte 0).toNat = 0 ∧ groupInRange (byte g.group) = true := ⟨rfl, groupInRange_byte low high⟩
  simp only [GensetStatus.payload, be16, List.cons_append, List.nil_append, readGenset, if_pos guard, state, Option.map_some, auto,
    refuel, diverge, lost, of16_be16 tag, of16_be16 p, of16_be16 r, of16_be16 headroom, of16_be16 held, of16_be16 ci,
    of16_be16 minutes, byte_toNat (show g.group < 256 by omega)]

theorem readBoard_payload (b : BoardStatus) (range : (Bulletin.status (.board b)).inRange) : readBoard b.payload = some b := by
  obtain ⟨lowA, highA, lowB, highB, tag, load, serial⟩ := range
  obtain ⟨shed, lost⟩ := flagsByte_read b.capacityShed b.frontEndLost
  have guard : (byte 1).toNat = 1 ∧ groupInRange (byte b.groupA) = true ∧ groupInRange (byte b.groupB) = true :=
    ⟨rfl, groupInRange_byte lowA highA, groupInRange_byte lowB highB⟩
  simp only [BoardStatus.payload, be16, List.cons_append, List.nil_append, readBoard, if_pos guard, boardState_read, feederSel_read,
    shed, lost, of16_be16 tag, of16_be16 load, byte_toNat (show b.groupA < 256 by omega), byte_toNat (show b.groupB < 256 by omega),
    byte_toNat serial]

theorem confirmEntries_length (l : List (Nat × Nat)) : (confirmEntries l).length = 3 * l.length := by
  induction l with
  | nil => rfl
  | cons e l ih =>
    simp only [confirmEntries, be16, List.length_cons, List.length_append, List.length_nil, ih]
    omega

theorem readEntries_confirmEntries (l : List (Nat × Nat)) (range : ∀ e ∈ l, 1 ≤ e.1 ∧ e.1 ≤ 62 ∧ e.2 < 65536) :
    readEntries (confirmEntries l) = some l := by
  induction l with
  | nil => rfl
  | cons e l ih =>
    obtain ⟨⟨low, high, kw⟩, rest⟩ := List.forall_mem_cons.mp range
    simp only [confirmEntries, be16, List.cons_append, List.nil_append, readEntries, if_pos (nodeInRange_byte low high), ih rest,
      Option.map_some, of16_be16 kw, byte_toNat (show e.1 < 256 by omega)]

/-- The receiver reads back what was sent (R206). -/
theorem readPayload_payload (b : Bulletin) (range : b.inRange) : readPayload b.kindCode b.payload = some b := by
  cases b with
  | status body =>
    cases body with
    | genset g => exact congrArg (Option.map fun g => Bulletin.status (.genset g)) (readGenset_payload g range)
    | board b => exact congrArg (Option.map fun b => Bulletin.status (.board b)) (readBoard_payload b range)
  | intent group kind key serial =>
    obtain ⟨low, high, key_lt, serial_lt⟩ := range
    cases kind <;> simp [Bulletin.kindCode, Bulletin.payload, be16, readPayload, groupInRange_byte low high, of16_be16 key_lt,
      byte_toNat (show group < 256 by omega), byte_toNat serial_lt, IntentKind.code, byte_toNat (show (0 : Nat) < 256 by decide),
      byte_toNat (show (1 : Nat) < 256 by decide)]
  | claim serial group kind cls kw =>
    obtain ⟨serial_lt, low, high, cls_le, kw_lt⟩ := range
    simp [Bulletin.kindCode, Bulletin.payload, be16, readPayload, groupInRange_byte low high, of16_be16 kw_lt, claimKind_read,
      byte_toNat (show group < 256 by omega), byte_toNat serial_lt, byte_toNat (show cls < 256 by omega), cls_le]
  | pledge board serial kw =>
    obtain ⟨low, high, serial_lt, kw_lt⟩ := range
    simp [Bulletin.kindCode, Bulletin.payload, be16, readPayload, nodeInRange_byte low high, of16_be16 kw_lt,
      byte_toNat (show board < 256 by omega), byte_toNat serial_lt]
  | revoke board serial revoked remaining =>
    obtain ⟨low, high, serial_lt, revoked_lt, remaining_lt⟩ := range
    simp [Bulletin.kindCode, Bulletin.payload, be16, readPayload, nodeInRange_byte low high, of16_be16 revoked_lt,
      of16_be16 remaining_lt, byte_toNat (show board < 256 by omega), byte_toNat serial_lt]
  | confirm serial entries =>
    obtain ⟨serial_lt, -, few, entries_range⟩ := range
    simp [Bulletin.kindCode, Bulletin.payload, readPayload, readEntries_confirmEntries entries entries_range, byte_toNat serial_lt,
      byte_toNat (show entries.length < 256 by omega)]
  | release serial reason =>
    simp [Bulletin.kindCode, Bulletin.payload, readPayload, releaseReason_read, byte_toNat (show serial < 256 from range)]

/-- The payload of a kind has the length that R5 expects. -/
theorem payload_length (b : Bulletin) (range : b.inRange) :
    b.payload.length ≤ 32 ∧ lengthOk b.kindCode b.payload.length = true := by
  cases b with
  | status body => cases body <;> exact ⟨Nat.le_of_ble_eq_true rfl, rfl⟩
  | confirm serial entries =>
    obtain ⟨-, some, few, -⟩ := range
    have length : (Bulletin.confirm serial entries).payload.length = 2 + 3 * entries.length := by
      simp only [Bulletin.payload, List.length_append, List.length_cons, List.length_nil, confirmEntries_length]
    rw [length]
    generalize entries.length = n at some few
    interval_cases n <;> exact ⟨by decide, rfl⟩
  | intent | claim | pledge | revoke | release => exact ⟨Nat.le_of_ble_eq_true rfl, rfl⟩

theorem kindCode_range (b : Bulletin) : 1 ≤ b.kindCode ∧ b.kindCode ≤ 8 := by
  rcases b with (_ | _) | _ | _ | _ | _ | _ | _ <;> exact ⟨Nat.le_of_ble_eq_true rfl, Nat.le_of_ble_eq_true rfl⟩

/-- Settles O9. -/
theorem bulletinsRoundTrip : Obligations.BulletinsRoundTrip := by
  intro b src range low high
  obtain ⟨short, length⟩ := payload_length b range
  obtain ⟨kindLow, kindHigh⟩ := kindCode_range b
  have read := readPayload_payload b range
  refine ⟨short, length, read, ?_⟩
  have kind : (byte b.kindCode).toNat = b.kindCode := byte_toNat (by omega)
  have known : kindKnown b.kindCode = true := by simp [kindKnown, kindLow, kindHigh]
  unfold checkFrame
  rw [show ([byte src, byte b.kindCode, byte b.payload.length] ++ b.payload) = b.covered src from rfl, if_neg (not_not.mpr rfl), kind, byte_toNat (show b.payload.length < 256 by omega), known, length, nodeInRange_byte low high, read]
  rfl

end Sys2Proof.Machine
end

section
/-! The CONFIRM's walk (R117) and capacity shedding (R128): O36 and O37. -/

namespace Sys2Proof.Machine

open Sys2Proof.Claims

variable {s t u : State}

/-! ### The walk of the CONFIRM (R117) -/

theorem takeWalk_names (need : Nat) (l : List PledgeItem) :
    (takeWalk need l).map (·.node) = l.map (·.node) ∧ (takeWalk need l).map (·.kw) = l.map (·.kw) := by
  induction l generalizing need with
  | nil => exact ⟨rfl, rfl⟩
  | cons e l ih => simp [takeWalk, ih]

theorem takeWalk_taken {need : Nat} {l : List PledgeItem} {e : PledgeItem} (h : e ∈ takeWalk need l) :
    ∃ t, e.taken = some t ∧ t ≤ e.kw := by
  induction l generalizing need with
  | nil => cases h
  | cons x l ih =>
    rcases List.mem_cons.mp h with rfl | h
    · exact ⟨_, rfl, Nat.min_le_left ..⟩
    · exact ih h

/-- The earlier entries are served first. -/
theorem takeWalk_prefix (need : Nat) (l : List PledgeItem) (i : Nat) :
    (((takeWalk need l).take i).map (·.got)).sum = min need (((l.take i).map (·.kw)).sum) := by
  induction l generalizing need i with
  | nil => simp [takeWalk]
  | cons e l ih =>
    cases i with
    | zero => simp
    | succ i =>
      have rest := ih (need - min e.kw need) i
      simp only [takeWalk, List.take_succ_cons, List.map_cons, List.sum_cons, PledgeItem.got, Option.getD_some] at rest ⊢
      omega

theorem takeWalk_sum (need : Nat) (l : List PledgeItem) :
    ((takeWalk need l).map (·.got)).sum = min need ((l.map (·.kw)).sum) := by
  have length : (takeWalk need l).length = l.length := by simpa using congrArg List.length (takeWalk_names need l).1
  have all := takeWalk_prefix need l l.length
  rwa [List.take_of_length_le length.le, List.take_length] at all

theorem confirm_empty (c : ClaimRec) : c.confirm.pledges.isEmpty = true ↔ c.pledges = [] := by
  rw [List.isEmpty_iff, ClaimRec.confirm]
  cases c.pledges <;> simp [takeWalk]

theorem buildConfirm_none {c : ClaimRec} (none : c.pledges = []) (s : State) :
    buildConfirm c s = s.withChs { s.chs with claim := some c.confirm } := if_pos ((confirm_empty c).mpr none)

theorem buildConfirm_offers {c : ClaimRec} (listed : c.pledges ≠ []) (s : State) : buildConfirm c s =
    offer (.confirm c.serial (c.confirm.pledges.map fun e => (e.node, e.got))) .urgent
      (s.withChs { s.chs with claim := some c.confirm }) := if_neg (mt (confirm_empty c).mp listed)

/-- Settles O36. -/
theorem confirmWalk : Obligations.ConfirmWalk := by
  refine ⟨fun c => ?_, fun s c => ⟨fun none => buildConfirm_none none s, fun listed => buildConfirm_offers listed s⟩⟩
  exact ⟨(takeWalk_names ..).1, (takeWalk_names ..).2, fun e h => takeWalk_taken h, takeWalk_prefix c.requested c.pledges,
    congrArg some (takeWalk_sum ..)⟩

/-! ### The walk over the levels (R128) -/

theorem fits_iff {load : Int} {t margin : Nat} :
    fits load t margin = true ↔ (max load 0) * (1000 + margin) ≤ (t * 1000 : Nat) := by
  rw [fits, decide_eq_true_eq, ← Int.ofNat_toNat]
  exact_mod_cast Iff.rfl

/-- The fitted load behind a level that had to be taken, or was already shed. -/
def State.loadPast (s : State) (n : Nat) (load : Int) : Int :=
  if (s.chs.shedOf n).isSome then load else load - levelPower n s

theorem shedWalk_fits {total : Nat} {load : Int} (fit : fits load total s.cfg.margin = true) (ns : List Nat) :
    shedWalk total s ns load = ([], load) := by
  cases ns with
  | nil => rfl
  | cons n ns => exact if_pos fit

theorem shedWalk_past {total : Nat} {load : Int} (fit : ¬fits load total s.cfg.margin = true) (n : Nat) (ns : List Nat) :
    shedWalk total s (n :: ns) load =
      ((if (s.chs.shedOf n).isSome then [] else [(n, levelPower n s)]) ++ (shedWalk total s ns (s.loadPast n load)).1,
        (shedWalk total s ns (s.loadPast n load)).2) := by
  rw [shedWalk, if_neg fit]
  unfold State.loadPast
  split <;> rfl

/-- A level that is already shed is passed over, and none is taken that the walk does not come to. -/
theorem shedWalk_takes {total n p : Nat} {ns : List Nat} {load : Int} (h : (n, p) ∈ (shedWalk total s ns load).1) :
    n ∈ ns ∧ s.chs.shedOf n = none ∧ p = levelPower n s := by
  induction ns generalizing load with
  | nil => cases h
  | cons m ns ih =>
    by_cases fit : fits load total s.cfg.margin = true
    · rw [shedWalk_fits fit] at h
      cases h
    · rw [shedWalk_past fit] at h
      rcases List.mem_append.mp h with here | later
      · split at here
        · cases here
        · rename_i free
          simp only [List.mem_singleton, Prod.mk.injEq] at here
          obtain ⟨rfl, rfl⟩ := here
          exact ⟨List.mem_cons_self, by simpa using free, rfl⟩
      · obtain ⟨there, rest⟩ := ih later
        exact ⟨List.mem_cons_of_mem m there, rest⟩

/-! ### The levels written (R128) -/

theorem shedOf_setShed {c : Chs} {n m : Nat} {v : Option Nat} (hn : 1 ≤ n ∧ n ≤ 3) :
    (c.setShed n v).shedOf m = if m = n then v else c.shedOf m := by
  obtain ⟨low, high⟩ := hn
  interval_cases n <;> (unfold Chs.setShed Chs.shedOf; split <;> simp_all)

/-- The levels taken, written with their recorded powers. -/
def Chs.shedAll (c : Chs) (l : List (Nat × Nat)) : Chs := l.foldl (fun x l => x.setShed l.1 (some l.2)) c

theorem shedOf_shedAll_other {c : Chs} {l : List (Nat × Nat)} {m : Nat} (levels : ∀ x ∈ l, 1 ≤ x.1 ∧ x.1 ≤ 3)
    (out : ∀ p, (m, p) ∉ l) : (c.shedAll l).shedOf m = c.shedOf m := by
  induction l generalizing c with
  | nil => rfl
  | cons x l ih =>
    have other : m ≠ x.1 := fun same => out x.2 (by simp [same])
    refine (ih (fun y hy => levels y (List.mem_cons_of_mem x hy)) fun p hp => out p (List.mem_cons_of_mem x hp)).trans ?_
    rw [shedOf_setShed (levels x List.mem_cons_self), if_neg other]

theorem shedOf_shedAll_taken {c : Chs} {l : List (Nat × Nat)} {m p : Nat} (levels : ∀ x ∈ l, 1 ≤ x.1 ∧ x.1 ≤ 3)
    (taken : (m, p) ∈ l) (one : ∀ q, (m, q) ∈ l → q = p) : (c.shedAll l).shedOf m = some p := by
  induction l generalizing c with
  | nil => cases taken
  | cons x l ih =>
    have later : ∀ y ∈ l, 1 ≤ y.1 ∧ y.1 ≤ 3 := fun y hy => levels y (List.mem_cons_of_mem x hy)
    by_cases again : (m, p) ∈ l
    · exact ih later again fun q hq => one q (List.mem_cons_of_mem x hq)
    · have here : x = (m, p) := by simpa [again, eq_comm] using taken
      refine (shedOf_shedAll_other later fun q hq => ?_).trans ?_
      · obtain rfl := one q (List.mem_cons_of_mem x hq)
        exact again hq
      · rw [here, shedOf_setShed (by simpa [here] using levels x List.mem_cons_self), if_pos rfl]

/-! ### Capacity shedding -/

/-- The levels that capacity shedding takes, and the fitted load left (R128). -/
def State.shedding (s : State) (c : ClaimRec) : List (Nat × Nat) × Int :=
  shedWalk c.total s [3, 2, 1] s.chs.snapLoad

/-- The levels written, and what still does not fit told. -/
def State.overcommitted (s : State) (c : ClaimRec) : State :=
  let x := s.withChs (s.chs.shedAll (s.shedding c).1)
  if fits (s.shedding c).2 c.total s.cfg.margin then x
  else postEvent .overcommit (s.claimSubject c) (pair16 c.total (s.shedding c).2.toNat) 0 x

theorem shedCapacity_short {c : ClaimRec} (forced : c.kind = .forced) (short : c.total < c.requested) (s : State) :
    shedCapacity c s = capacityRequest true ((s.shedding c).1.map (·.1)) (s.overcommitted c) := if_pos ⟨forced, short⟩

theorem shedCapacity_idle {c : ClaimRec} (idle : c.kind ≠ .forced ∨ c.requested ≤ c.total) (s : State) :
    shedCapacity c s = s := if_neg fun ⟨forced, short⟩ => idle.elim (· forced) fun le => absurd short (by omega)

theorem overcommitted_chs (c : ClaimRec) (s : State) :
    (s.overcommitted c).chs = s.chs.shedAll (s.shedding c).1 := by
  unfold State.overcommitted
  dsimp only
  split <;> simp

theorem overcommitted_mtr (c : ClaimRec) (s : State) : (s.overcommitted c).mtr = s.mtr := by
  unfold State.overcommitted
  dsimp only
  split <;> simp

theorem shedding_levels {c : ClaimRec} {x : Nat × Nat} (h : x ∈ (s.shedding c).1) : 1 ≤ x.1 ∧ x.1 ≤ 3 := by
  obtain ⟨level, -⟩ := shedWalk_takes (n := x.1) (p := x.2) h
  simp only [List.mem_cons, List.not_mem_nil, or_false] at level
  omega

/-- The levels asked of the Metering Unit are in the set afterwards (R154). -/
theorem capacityRequest_levels {v : Bool} {l : List Nat} {n : Nat} (levels : ∀ m ∈ l, 1 ≤ m ∧ m ≤ 3) (asked : n ∈ l)
    (s : State) : (capacityRequest v l s).mtr.levels.get n = v := by
  unfold capacityRequest
  dsimp only
  rw [(applyRelays_mtr _ _).1]
  refine (levels_get_foldl (l := s.mtr.levels) fun m hm => levels m (List.mem_of_mem_filter hm)).trans ?_
  split
  · rfl
  · rename_i same
    simpa [asked] using same

/-- A level that is taken: recorded with its power, and shed (R128). -/
theorem shedCapacity_taken {c : ClaimRec} (forced : c.kind = .forced) (short : c.total < c.requested) {n p : Nat}
    (taken : (n, p) ∈ (s.shedding c).1) :
    (shedCapacity c s).chs.shedOf n = some p ∧ (shedCapacity c s).mtr.levels.get n = true := by
  rw [shedCapacity_short forced short]
  refine ⟨?_, capacityRequest_levels (fun m hm => ?_) (List.mem_map.mpr ⟨_, taken, rfl⟩) _⟩
  · simp only [capacityRequest_frame, overcommitted_chs]
    refine shedOf_shedAll_taken (fun x => shedding_levels) taken fun q hq => ?_
    exact (shedWalk_takes hq).2.2.trans (shedWalk_takes taken).2.2.symm
  · obtain ⟨x, hx, rfl⟩ := List.mem_map.mp hm
    exact shedding_levels hx

/-- A level that is not taken stands. -/
theorem shedCapacity_other {c : ClaimRec} {n : Nat} (out : ∀ p, (n, p) ∉ (s.shedding c).1) :
    (shedCapacity c s).chs.shedOf n = s.chs.shedOf n := by
  by_cases sheds : c.kind = .forced ∧ c.total < c.requested
  · rw [shedCapacity_short sheds.1 sheds.2]
    simp only [capacityRequest_frame, overcommitted_chs]
    exact shedOf_shedAll_other (fun x => shedding_levels) out
  · rw [shedCapacity, if_neg sheds]

theorem levelPower_eq (n : Nat) (s : State) : levelPower n s = (((List.range 16).filter fun i =>
    (s.channel i).level == n && (s.channel i).mapping.isSome).map fun i => s.chs.snapPowers.getD i 0).sum := rfl

/-- What still does not fit is told first (R128; log entry 23). -/
theorem shedCapacity_overcommits {c : ClaimRec} (forced : c.kind = .forced) (short : c.total < c.requested)
    (unfit : ¬fits (s.shedding c).2 c.total s.cfg.margin = true) :
    PostsFirst [(.overcommit, ownClaim s c, pair16 c.total (s.shedding c).2.toNat, 0)] s (shedCapacity c s) := by
  rw [shedCapacity_short forced short]
  refine Wrote.first ?_ (capacityRequest_tells (Tells.refl _))
  rw [State.overcommitted, if_neg unfit]
  exact postEvent_wrote_on ..

section

variable {c : ClaimRec}

/-- The load of the snapshot does not fit, nor what is left behind level 3, nor behind level 2 (R128). -/
def State.unfit (s : State) (c : ClaimRec) (load : Int) : Prop := ¬fits load c.total s.cfg.margin = true

theorem shedding_fits (fit : ¬s.unfit c s.chs.snapLoad) : s.shedding c = ([], (s.chs.snapLoad : Int)) :=
  shedWalk_fits (not_not.mp fit) _

theorem shedding_three (unfit : s.unfit c s.chs.snapLoad) : s.shedding c =
    ((if s.chs.shed3.isSome then [] else [(3, levelPower 3 s)]) ++
        (shedWalk c.total s [2, 1] (s.loadPast 3 s.chs.snapLoad)).1,
      (shedWalk c.total s [2, 1] (s.loadPast 3 s.chs.snapLoad)).2) := shedWalk_past unfit 3 [2, 1]

theorem shedding_two (unfit : s.unfit c s.chs.snapLoad) (unfit3 : s.unfit c (s.loadPast 3 s.chs.snapLoad)) :
    let rest := shedWalk c.total s [1] (s.loadPast 2 (s.loadPast 3 s.chs.snapLoad))
    s.shedding c = ((if s.chs.shed3.isSome then [] else [(3, levelPower 3 s)]) ++
      ((if s.chs.shed2.isSome then [] else [(2, levelPower 2 s)]) ++ rest.1), rest.2) := by
  rw [shedding_three unfit, shedWalk_past unfit3]
  rfl

theorem shedding_one (unfit : s.unfit c s.chs.snapLoad) (unfit3 : s.unfit c (s.loadPast 3 s.chs.snapLoad))
    (unfit2 : s.unfit c (s.loadPast 2 (s.loadPast 3 s.chs.snapLoad))) : s.shedding c =
      ((if s.chs.shed3.isSome then [] else [(3, levelPower 3 s)]) ++
        ((if s.chs.shed2.isSome then [] else [(2, levelPower 2 s)]) ++
          (if s.chs.shed1.isSome then [] else [(1, levelPower 1 s)])),
        s.loadPast 1 (s.loadPast 2 (s.loadPast 3 s.chs.snapLoad))) := by
  rw [shedding_two unfit unfit3, shedWalk_past unfit2]
  simp [shedWalk, Chs.shedOf]

/-- Level 2 stays where the load fits behind level 3. -/
theorem shedding_keeps_two (fit : ¬s.unfit c (s.loadPast 3 s.chs.snapLoad)) (p : Nat) : (2, p) ∉ (s.shedding c).1 := by
  by_cases unfit : s.unfit c s.chs.snapLoad
  · rw [shedding_three unfit, shedWalk_fits (not_not.mp fit)]
    split <;> simp
  · simp [shedding_fits unfit]

/-- Level 1 stays where the load fits behind level 2. -/
theorem shedding_keeps_one (fit : ¬s.unfit c (s.loadPast 2 (s.loadPast 3 s.chs.snapLoad))) (p : Nat) :
    (1, p) ∉ (s.shedding c).1 := by
  by_cases unfit : s.unfit c s.chs.snapLoad
  · by_cases unfit3 : s.unfit c (s.loadPast 3 s.chs.snapLoad)
    · rw [shedding_two unfit unfit3, shedWalk_fits (not_not.mp fit)]
      split <;> split <;> simp
    · rw [shedding_three unfit, shedWalk_fits (not_not.mp unfit3)]
      split <;> simp
  · simp [shedding_fits unfit]

end

theorem capacityRequest_nothing (v : Bool) (s : State) : capacityRequest v [] s = s := by
  have hit : channelsWhere (fun c => ([] : List Nat).contains c.level) s = [] := by simp [channelsWhere]
  have same : s.mtr.channels.map (fun c => if ([] : List Nat).contains c.level then { c with capacity := v } else c) =
      s.mtr.channels := List.map_id _
  have nothing : capacityRequest v [] s = applyRelays (channelsWhere (fun c => ([] : List Nat).contains c.level) s)
      (s.withMtr { s.mtr with
        channels := s.mtr.channels.map fun c => if ([] : List Nat).contains c.level then { c with capacity := v } else c }) :=
    rfl
  rw [nothing, hit, same]
  rfl

/-- Settles O37. -/
theorem capacityShed : Obligations.CapacityShed := by
  intro s c
  have stands {n p : Nat} (held : s.chs.shedOf n = some p) : (shedCapacity c s).chs.shedOf n = some p := by
    refine (shedCapacity_other fun q there => ?_).trans held
    have free := (shedWalk_takes there).2.1
    rw [held] at free
    cases free
  refine ⟨fun idle => shedCapacity_idle idle s, fun forced short => ?_⟩
  dsimp only
  simp only [← levelPower_eq, ← fits_iff (t := c.confirmed.getD 0) (margin := s.cfg.margin)]
  have takes {n p : Nat} (taken : (n, p) ∈ (s.shedding c).1) := shedCapacity_taken forced short taken
  refine ⟨fun fit => ?_, fun unfit free => ?_, fun unfit unfit3 free => ?_, fun unfit unfit3 unfit2 free => ?_,
    fun fit => ?_, fun fit => ?_, fun p held => stands (n := 3) held, fun p held => stands (n := 2) held,
    fun p held => stands (n := 1) held, fun unfit unfit3 unfit2 unfit1 => ?_⟩
  · have untaken : s.shedding c = ([], (s.chs.snapLoad : Int)) := shedding_fits (not_not.mpr fit)
    have same : s.overcommitted c = s := by
      rw [State.overcommitted, untaken]
      exact if_pos fit
    rw [shedCapacity_short forced short, untaken, same]
    exact ⟨congrArg (·.chs) (capacityRequest_nothing true s), congrArg (·.mtr) (capacityRequest_nothing true s)⟩
  · refine takes (n := 3) ?_
    simp [shedding_three unfit, free]
  · refine takes (n := 2) ?_
    simp [shedding_two unfit unfit3, free]
  · refine takes (n := 1) ?_
    simp [shedding_one unfit unfit3 unfit2, free]
  · exact shedCapacity_other (n := 2) (shedding_keeps_two (not_not.mpr fit))
  · exact shedCapacity_other (n := 1) (shedding_keeps_one (not_not.mpr fit))
  · have last := congrArg (·.2) (shedding_one unfit unfit3 unfit2)
    have told := shedCapacity_overcommits forced short (s := s) (by rw [last]; exact unfit1)
    rw [last] at told
    exact told

end Sys2Proof.Machine
end

section
/-! The sequencer's parts: claims ended, SETTLED and ISOLATED entered, the forced changeover, the end of a collection
(R113 to R131). -/

namespace Sys2Proof.Machine

open Sys2Proof.Claims

variable {s t u : State}

/-! ### Loss watches (R114) -/

theorem lossConfirmed_iff {f : Feeder} : lossConfirmed f s = true ↔ ¬NotLost f s := by
  unfold lossConfirmed NotLost
  cases (s.chs.feeder f).lossWatch with
  | none => simp
  | some w => simp

theorem notLost_of_cfg {f : Feeder} (watch : (t.chs.feeder f).lossWatch = (s.chs.feeder f).lossWatch)
    (clock : t.clock = s.clock) (cfg : t.cfg = s.cfg) : NotLost f t ↔ NotLost f s := by
  simp only [NotLost, watch, State.now, clock, cfg]

theorem notLost_congr {f : Feeder} (watch : (t.chs.feeder f).lossWatch = (s.chs.feeder f).lossWatch)
    (clock : t.clock = s.clock) (hpt : t.hpt = s.hpt) : NotLost f t ↔ NotLost f s :=
  notLost_of_cfg watch clock (by rw [State.cfg, State.cfg, hpt])

/-- SETTLED may be told of a state that differs where its rules do not look. -/
theorem Settles.of_cfg {f : Feeder} {b : Option Feeder} (h : Settles f b s t)
    (watch : (s.chs.feeder f).lossWatch = (u.chs.feeder f).lossWatch) (clock : s.clock = u.clock) (cfg : s.cfg = u.cfg)
    (fpc : s.fpc = u.fpc) : Settles f b u t := by
  have same : NotLost f s ↔ NotLost f u := notLost_of_cfg watch clock cfg
  have now : s.now = u.now := congrArg (·.elapsed) clock
  unfold Settles at h ⊢
  rwa [same, now, fpc] at h

theorem Settles.of_start {f : Feeder} {b : Option Feeder} (h : Settles f b s t)
    (watch : (s.chs.feeder f).lossWatch = (u.chs.feeder f).lossWatch) (clock : s.clock = u.clock) (hpt : s.hpt = u.hpt)
    (fpc : s.fpc = u.fpc) : Settles f b u t :=
  Settles.of_cfg h watch clock (by rw [State.cfg, State.cfg, hpt]) fpc

/-- The field port apart, which the entry itself may have moved before. -/
theorem Settles.of_start_any {f : Feeder} {b : Option Feeder} (h : Settles f b s t)
    (watch : (s.chs.feeder f).lossWatch = (u.chs.feeder f).lossWatch) (clock : s.clock = u.clock) (hpt : s.hpt = u.hpt) :
    Settles f b { u with fpc := t.fpc } t := by
  have same : NotLost f s ↔ NotLost f { u with fpc := t.fpc } := notLost_congr watch clock hpt
  have now : s.now = u.now := congrArg (·.elapsed) clock
  obtain ⟨settled, lost⟩ := h
  refine ⟨fun safe => ?_, fun gone => ?_⟩
  · obtain ⟨state, active, billing, claim, -, timer⟩ := settled (same.mpr safe)
    exact ⟨state, active, billing, claim, rfl, now ▸ timer⟩
  · exact (lost (mt same.mp gone)).trans (by rw [now]; rfl)

/-! ### The record ends (R113, R120) -/

/-- A bulletin waits URGENT in the queue. -/
def Queued (b : Bulletin) (s : State) : Prop := ∃ q ∈ s.slc.queue, q.cls = .urgent ∧ q.bulletin = b

/-- What waits URGENT stays, whatever is told after it. -/
theorem Queued.stays {b : Bulletin} (h : Queued b s) (other : b.isStatus = false) (told : Tells s t) : Queued b t := by
  obtain ⟨q, there, urgent, is⟩ := h
  exact ⟨q, told.urgent q there urgent (by rw [is]; exact other), urgent, is⟩

theorem offer_queues {b : Bulletin} (other : b.isStatus = false) (run : s.hpt.nodeState = .run)
    (room : s.slc.queue.length < 16) : Queued b (offer b .urgent s) := by
  refine ⟨freshEntry b .urgent, ?_, rfl, rfl⟩
  rw [offer_joins run other room]
  exact mem_joinQueue.mpr (.inl rfl)

/-- An offer that finds room, or is discarded, tells no event. -/
theorem offer_evf {b : Bulletin} {cls : TxClass} (other : b.isStatus = false) (room : Room s) :
    (offer b cls s).evf = s.evf := by
  by_cases run : s.hpt.nodeState = .run
  · rw [offer_joins run other (room.resolve_left (not_not.mpr run))]
    rfl
  · rw [offer_silent s _ _ run]

theorem endClaim_held {c : ClaimRec} (held : s.chs.claim = some c) (why : ReleaseReason) :
    endClaim why s = (offer (.release c.serial why) .urgent s).withChs { s.chs with claim := none } := by
  unfold endClaim
  rw [held]

theorem endClaim_evf (why : ReleaseReason) (room : Room s) : (endClaim why s).evf = s.evf := by
  unfold endClaim
  split
  · rfl
  · exact offer_evf rfl room

theorem endClaim_queues {c : ClaimRec} (held : s.chs.claim = some c) (why : ReleaseReason) (run : s.hpt.nodeState = .run)
    (room : s.slc.queue.length < 16) : Queued (.release c.serial why) (endClaim why s) := by
  rw [endClaim_held held]
  exact offer_queues (s := s) rfl run room

theorem failClaim_held {c : ClaimRec} (held : s.chs.claim = some c) (why : ReleaseReason) (reason : FailReason) :
    failClaim why reason s = postEvent .changeoverFailed (s.claimSubject c) 0 reason.code (endClaim why s) := by
  unfold failClaim
  rw [held]

theorem failClaim_queues {c : ClaimRec} (held : s.chs.claim = some c) (why : ReleaseReason) (reason : FailReason)
    (run : s.hpt.nodeState = .run) (room : s.slc.queue.length < 16) :
    Queued (.release c.serial why) (failClaim why reason s) := by
  rw [failClaim_held held]
  exact (endClaim_queues held why run room).stays rfl (postEvent_tells (Tells.refl _))

/-- A claim that fails is told, where its RELEASE pushes nothing out (R120). -/
theorem failClaim_wrote {c : ClaimRec} (held : s.chs.claim = some c) (why : ReleaseReason) (reason : FailReason)
    (room : Room s) : Wrote [(.changeoverFailed, ownClaim s c, 0, reason.code)] s (failClaim why reason s) := by
  have evf := endClaim_evf why room
  rw [failClaim_held held]
  exact postEvent_wrote_on _ _ _ _ _ (by rw [evf]) (by rw [evf]) (by simp)

/-! ### ISOLATED (R131) -/

theorem enterIsolated_isolates (cause : IsolateCause) (h : s.chs.claim = none) : Isolates (enterIsolated cause s) := by
  unfold Isolates
  rw [enterIsolated_chs]
  exact ⟨rfl, rfl, rfl, h, rfl, rfl, rfl, rfl, fun f => by cases f <;> exact ⟨rfl, rfl⟩⟩

theorem blockClose_isolates (s : State) : Isolates (blockClose s) := enterIsolated_isolates _ (by simp)

theorem fallbackFailed_isolates (s : State) : Isolates (fallbackFailed s) := enterIsolated_isolates _ (by simp)

/-! ### A feeder's FAULTY mark -/

@[simp] theorem stopTimers_faulty (c : Chs) (f : Feeder) : (c.stopTimers.feeder f).faulty = (c.feeder f).faulty := by
  cases f <;> rfl

@[simp] theorem clearReturns_faulty (c : Chs) (f : Feeder) : (c.clearReturns.feeder f).faulty = (c.feeder f).faulty := by
  cases f <;> rfl

@[simp] theorem clearReturns_lossWatch (c : Chs) (f : Feeder) :
    (c.clearReturns.feeder f).lossWatch = (c.feeder f).lossWatch := by
  cases f <;> rfl

@[simp] theorem clearReturns_returnWatch (c : Chs) (f : Feeder) : (c.clearReturns.feeder f).returnWatch = none := by
  cases f <;> rfl

@[simp] theorem stopTimers_returnWatch (c : Chs) (f : Feeder) : (c.stopTimers.feeder f).returnWatch = none := by
  cases f <;> rfl

/-- The sequencer's tables with both feeder records kept. -/
theorem feeder_congr {c d : Chs} (a : d.feederA = c.feederA) (b : d.feederB = c.feederB) (f : Feeder) :
    d.feeder f = c.feeder f := by
  cases f
  · exact a
  · exact b

/-! ### Capacity shedding, what it looks at (R128) -/

theorem levelPower_congr (mtr : t.mtr = s.mtr) (powers : t.chs.snapPowers = s.chs.snapPowers) (n : Nat) :
    levelPower n t = levelPower n s := by
  simp only [levelPower, channelsWhere, State.channel, mtr, powers]

/-- Two states in which capacity shedding does the same. -/
structure SameShed (s t : State) : Prop where
  mtr : t.mtr = s.mtr
  hpt : t.hpt = s.hpt
  load : t.chs.snapLoad = s.chs.snapLoad
  powers : t.chs.snapPowers = s.chs.snapPowers
  shed1 : t.chs.shed1 = s.chs.shed1
  shed2 : t.chs.shed2 = s.chs.shed2
  shed3 : t.chs.shed3 = s.chs.shed3

theorem SameShed.shedOf (h : SameShed s t) (n : Nat) : t.chs.shedOf n = s.chs.shedOf n := by
  unfold Chs.shedOf
  split
  · exact h.shed1
  · exact h.shed2
  · exact h.shed3
  · rfl

theorem SameShed.shedWalk (h : SameShed s t) (total : Nat) (ns : List Nat) (load : Int) :
    shedWalk total t ns load = shedWalk total s ns load := by
  have margin : t.cfg.margin = s.cfg.margin := by rw [State.cfg, State.cfg, h.hpt]
  induction ns generalizing load with
  | nil => rfl
  | cons n ns ih =>
    unfold Machine.shedWalk
    rw [margin, h.shedOf, levelPower_congr h.mtr h.powers]
    simp only [ih]

theorem SameShed.shedding (h : SameShed s t) (c : ClaimRec) : t.shedding c = s.shedding c := by
  rw [State.shedding, State.shedding, h.load, h.shedWalk]

theorem applyRelay_mtr_congr (h : t.mtr = s.mtr) (i : Nat) : (applyRelay i t).mtr = (applyRelay i s).mtr := by
  have channel : t.channel i = s.channel i := by rw [State.channel, State.channel, h]
  unfold applyRelay
  dsimp only
  rw [channel]
  split
  · exact h
  · simp [changeChannel, h]

theorem applyRelays_mtr_congr (h : t.mtr = s.mtr) (l : List Nat) : (applyRelays l t).mtr = (applyRelays l s).mtr := by
  unfold applyRelays
  induction l generalizing s t with
  | nil => exact h
  | cons i l ih => exact ih (applyRelay_mtr_congr h i)

theorem capacityRequest_mtr_congr (h : t.mtr = s.mtr) (v : Bool) (l : List Nat) :
    (capacityRequest v l t).mtr = (capacityRequest v l s).mtr := by
  unfold capacityRequest
  simp only [channelsWhere, State.channel, h]
  exact applyRelays_mtr_congr (s := s.withMtr _) (t := t.withMtr _) rfl _

/-- The three capacity-shed states that a walk leaves. -/
theorem shedAll_chs (c : Chs) (l : List (Nat × Nat)) : c.shedAll l =
    { c with shed1 := (c.shedAll l).shed1, shed2 := (c.shedAll l).shed2, shed3 := (c.shedAll l).shed3 } := by
  unfold Chs.shedAll
  induction l generalizing c with
  | nil => rfl
  | cons x l ih =>
    rw [List.foldl_cons, ih]
    unfold Chs.setShed
    split <;> rfl

theorem shedAll_congr {c d : Chs} (shed1 : d.shed1 = c.shed1) (shed2 : d.shed2 = c.shed2) (shed3 : d.shed3 = c.shed3)
    (l : List (Nat × Nat)) : (d.shedAll l).shed1 = (c.shedAll l).shed1 ∧ (d.shedAll l).shed2 = (c.shedAll l).shed2 ∧
      (d.shedAll l).shed3 = (c.shedAll l).shed3 := by
  unfold Chs.shedAll
  induction l generalizing c d with
  | nil => exact ⟨shed1, shed2, shed3⟩
  | cons x l ih =>
    obtain ⟨one, two, three⟩ : (d.setShed x.1 (some x.2)).shed1 = (c.setShed x.1 (some x.2)).shed1 ∧
        (d.setShed x.1 (some x.2)).shed2 = (c.setShed x.1 (some x.2)).shed2 ∧
        (d.setShed x.1 (some x.2)).shed3 = (c.setShed x.1 (some x.2)).shed3 := by
      unfold Chs.setShed
      split <;> simp [shed1, shed2, shed3]
    exact ih one two three

/-- Capacity shedding changes the levels alone (R128). -/
theorem shedCapacity_chs (c : ClaimRec) (s : State) : (shedCapacity c s).chs = { s.chs with
    shed1 := (shedCapacity c s).chs.shed1, shed2 := (shedCapacity c s).chs.shed2
    shed3 := (shedCapacity c s).chs.shed3 } := by
  by_cases sheds : c.kind = .forced ∧ c.total < c.requested
  · rw [shedCapacity_short sheds.1 sheds.2]
    simp only [capacityRequest_frame, overcommitted_chs]
    exact shedAll_chs ..
  · rw [shedCapacity, if_neg sheds]

theorem SameShed.shedCapacity (h : SameShed s t) (c : ClaimRec) :
    (shedCapacity c t).mtr = (shedCapacity c s).mtr ∧ (shedCapacity c t).chs.shed1 = (shedCapacity c s).chs.shed1 ∧
      (shedCapacity c t).chs.shed2 = (shedCapacity c s).chs.shed2 ∧
      (shedCapacity c t).chs.shed3 = (shedCapacity c s).chs.shed3 := by
  by_cases sheds : c.kind = .forced ∧ c.total < c.requested
  · rw [shedCapacity_short sheds.1 sheds.2, shedCapacity_short sheds.1 sheds.2, h.shedding]
    refine ⟨capacityRequest_mtr_congr (by rw [overcommitted_mtr, overcommitted_mtr, h.mtr]) .., ?_⟩
    simp only [capacityRequest_frame, overcommitted_chs, h.shedding]
    exact shedAll_congr h.shed1 h.shed2 h.shed3 _
  · rw [Machine.shedCapacity, Machine.shedCapacity, if_neg sheds, if_neg sheds]
    exact ⟨h.mtr, h.shed1, h.shed2, h.shed3⟩

/-! ### The end of a collection (R117) -/

theorem buildConfirm_sameShed (c : ClaimRec) (s : State) : SameShed s (buildConfirm c s) := by
  constructor <;> simp

theorem collect_chs (c : ClaimRec) (s : State) : (collect c s).chs = { s.chs with
    claim := some c.confirm, shed1 := (shedCapacity c.confirm s).chs.shed1
    shed2 := (shedCapacity c.confirm s).chs.shed2, shed3 := (shedCapacity c.confirm s).chs.shed3 } := by
  obtain ⟨-, shed1, shed2, shed3⟩ := (buildConfirm_sameShed c s).shedCapacity c.confirm
  rw [collect, shedCapacity_chs, shed1, shed2, shed3, buildConfirm_chs]

theorem collect_mtr (c : ClaimRec) (s : State) : (collect c s).mtr = (shedCapacity c.confirm s).mtr :=
  ((buildConfirm_sameShed c s).shedCapacity c.confirm).1

theorem buildConfirm_queues {c : ClaimRec} (listed : c.pledges ≠ []) (run : s.hpt.nodeState = .run)
    (room : s.slc.queue.length < 16) :
    Queued (.confirm c.serial (c.confirm.pledges.map fun e => (e.node, e.got))) (buildConfirm c s) := by
  rw [buildConfirm_offers listed]
  exact offer_queues rfl (by simpa using run) (by simpa using room)

/-- The record confirmed, whatever state is entered after it. -/
theorem confirmed_of_collect {c : ClaimRec} (chs : ∃ (st : BoardState) (a : Option Feeder) (l : Option OpenLimit)
      (d cl tt : Option Nat) (x y : FeederRec), t.chs = { (collect c s).chs with
        state := st, active := a, openLimit := l, deadTimer := d, closeLimit := cl, topupTimer := tt
        feederA := x, feederB := y })
    (mtr : t.mtr = (collect c s).mtr) (told : Tells (collect c s) t) : Confirmed c s t := by
  obtain ⟨st, a, l, d, cl, tt, x, y, chs⟩ := chs
  rw [collect_chs] at chs
  refine ⟨by rw [chs], by rw [chs], mtr.trans (collect_mtr c s), by rw [chs], by rw [chs], by rw [chs],
    fun run room listed => ?_⟩
  exact ((buildConfirm_queues listed run room).stays rfl (shedCapacity_tells (Tells.refl _))).stays rfl told

end Sys2Proof.Machine
end

section
/-! SETTLED and the forced changeover entered (R125, R126, R129), and what the end of a collection leads to (R117). -/

namespace Sys2Proof.Machine

open Sys2Proof.Claims

variable {s t u : State} {c : ClaimRec}

/-! ### SETTLED (R125, R129) -/

/-- SETTLED on a feeder, before its loss watch is looked at. -/
def State.settledOn (s : State) (f : Feeder) (billing : Bool) : State :=
  startTopup (setBoard .settled (s.withChs { s.chs.clearReturns with
    active := some f
    billing := if billing then some f else s.chs.billing
    deadTimer := none, closeLimit := none }))

theorem settledOn_chs (s : State) (f : Feeder) (b : Bool) : (s.settledOn f b).chs = { s.chs.clearReturns with
    state := .settled, active := some f, billing := if b then some f else s.chs.billing
    deadTimer := none, closeLimit := none
    topupTimer := if s.chs.anyShed then some (s.now + topupTime) else none } := by
  have shed : (setBoard .settled (s.withChs { s.chs.clearReturns with
      active := some f, billing := if b then some f else s.chs.billing
      deadTimer := none, closeLimit := none })).chs.anyShed = s.chs.anyShed := by
    rw [setBoard_chs]
    rfl
  unfold State.settledOn startTopup
  rw [shed]
  split <;> simp [State.now]

@[simp] theorem settledOn_frame (s : State) (f : Feeder) (b : Bool) : (s.settledOn f b).clock = s.clock ∧
    (s.settledOn f b).hpt = s.hpt ∧ (s.settledOn f b).fpc = s.fpc ∧ (s.settledOn f b).mtr = s.mtr := by
  unfold State.settledOn
  simp

theorem settledOn_lossConfirmed (s : State) (f g : Feeder) (b : Bool) :
    lossConfirmed f (s.settledOn g b) = true ↔ ¬NotLost f s := by
  rw [lossConfirmed_iff, notLost_congr]
  · rw [settledOn_chs]
    cases f <;> rfl
  · simp
  · simp

theorem enterSettled_safe {f : Feeder} (safe : NotLost f s) (b : Bool) : enterSettled f b s = s.settledOn f b :=
  if_neg (mt (settledOn_lossConfirmed s f f b).mp (not_not.mpr safe))

theorem enterSettled_lost {f : Feeder} (gone : ¬NotLost f s) (b : Bool) :
    enterSettled f b s = forcedChangeover f (s.settledOn f b) := if_pos ((settledOn_lossConfirmed s f f b).mpr gone)

/-! ### The forced changeover (R125) -/

/-- The feeder of a forced changeover opened, with its open limit. -/
def State.opened (s : State) (f : Feeder) : State :=
  (pulseOpen f s).withChs { (pulseOpen f s).chs with active := none }

/-- The claim of a forced changeover made. -/
def State.claimsOther (s : State) (f : Feeder) : State :=
  setBoard .claiming (makeClaim (otherFeeder f) .forced 0 .loss (requestedKw (s.opened f).chs.snapLoad (s.opened f).cfg.margin)
    (s.opened f))

theorem forcedChangeover_eq (f : Feeder) (s : State) : forcedChangeover f s =
    if usable (otherFeeder f) (s.opened f) then forcedMade (s.claimsOther f) else enterDark (s.opened f) := rfl

theorem opened_chs (s : State) (f : Feeder) :
    (s.opened f).chs = { s.chs with openLimit := some ⟨f, s.now + 500 * millisecond⟩, active := none } := by
  rw [State.opened, State.withChs_chs, pulseOpen_chs]

theorem opened_core (s : State) (f : Feeder) :
    (s.opened f).fpc.core = s.fpc.core.drive f ⟨.openLine, s.now + 200 * millisecond⟩ := askPulse_core f .openLine s

@[simp] theorem opened_frame (s : State) (f : Feeder) : (s.opened f).clock = s.clock ∧ (s.opened f).hpt = s.hpt ∧
    (s.opened f).mtr = s.mtr ∧ (s.opened f).slc = s.slc ∧ (s.opened f).evf = s.evf ∧ (s.opened f).pvt = s.pvt := by
  unfold State.opened
  simp

theorem forcedChangeover_core (f : Feeder) (s : State) :
    (forcedChangeover f s).fpc.core = s.fpc.core.drive f ⟨.openLine, s.now + 200 * millisecond⟩ := by
  rw [← opened_core, forcedChangeover_eq, State.claimsOther]
  split <;> simp

theorem forcedChangeover_pulse (f : Feeder) (s : State) :
    (forcedChangeover f s).fpc.pulse f = some ⟨.openLine, s.now + 200 * millisecond⟩ :=
  (driven_other (forcedChangeover_core f s)).1

/-- The entry to SETTLED of a board without a record does what its rules say (R110, R125, R129). -/
theorem enterSettled_settles {f : Feeder} {b : Bool} {billing : Option Feeder} (h : s.chs.claim = none)
    (bills : (if b then some f else s.chs.billing) = billing) : Settles f billing s (enterSettled f b s) := by
  refine ⟨fun safe => ?_, fun gone => ?_⟩
  · rw [enterSettled_safe safe, settledOn_chs, bills]
    exact ⟨rfl, rfl, rfl, h, by simp, if_congr (by simp [Chs.anyShed, Chs.clearReturns, or_assoc]) rfl rfl⟩
  · rw [enterSettled_lost gone, forcedChangeover_pulse]
    simp [State.now]

/-! ### After the collection of a forced claim (R126) -/

theorem openPassed_iff {x : State} : openPassed x = true ↔ ∀ l, x.chs.openLimit = some l → l.deadline ≤ x.now := by
  unfold openPassed
  cases x.chs.openLimit with
  | none => simp
  | some l => simp

theorem leaveForced_opened {f : Feeder} (h : s.closed f = false) : leaveForced f s = enterDead s :=
  if_neg (by simp [h])

theorem leaveForced_closed {f : Feeder} (h : s.closed f = true) :
    leaveForced f s = if openPassed s then welded f (setBoard .opening s) else setBoard .opening s := by
  have same : openPassed (setBoard .opening s) = openPassed s := by
    rw [Bool.eq_iff_iff, openPassed_iff, openPassed_iff, setBoard_chs, State.now, (setBoard_frame ..).1]
    rfl
  rw [← same]
  exact if_pos h

/-- The record of a forced changeover (R125). -/
def State.lossClaim (s : State) (f : Feeder) : ClaimRec :=
  (s.opened f).newClaim (otherFeeder f) .forced 0 .loss (requestedKw s.chs.snapLoad s.cfg.margin)

theorem claimsOther_chs (s : State) (f : Feeder) : (s.claimsOther f).chs = { s.chs with
    state := .claiming, active := none, openLimit := some ⟨f, s.now + 500 * millisecond⟩, topupTimer := none
    serial := (s.chs.serial + 1) % 256, claim := some (s.lossClaim f) } := by
  have load : (s.opened f).chs.snapLoad = s.chs.snapLoad := by rw [opened_chs]
  have cfg : (s.opened f).cfg = s.cfg := by simp [State.cfg]
  rw [State.claimsOther, setBoard_chs, makeClaim_chs, load, cfg, opened_chs]
  rfl

@[simp] theorem claimsOther_frame (s : State) (f : Feeder) : (s.claimsOther f).clock = s.clock ∧
    (s.claimsOther f).hpt = s.hpt ∧ (s.claimsOther f).mtr = s.mtr ∧ (s.claimsOther f).fpc = (s.opened f).fpc := by
  unfold State.claimsOther
  simp

theorem otherFeeder_other (f : Feeder) : otherFeeder (otherFeeder f) = f := by cases f <;> rfl

theorem forcedChangeover_dark {f : Feeder} (h : ¬usable (otherFeeder f) (s.opened f) = true) :
    forcedChangeover f s = enterDark (s.opened f) := if_neg h

theorem forcedChangeover_run {f : Feeder} (h : usable (otherFeeder f) (s.opened f) = true) (run : s.hpt.nodeState ≠ .mute) :
    forcedChangeover f s = s.claimsOther f := by
  have held : (s.claimsOther f).chs.claim = some (s.lossClaim f) := by rw [claimsOther_chs]
  rw [forcedChangeover_eq, if_pos h, forcedMade, held]
  exact if_neg (by simpa using run)

/-- In MUTE the collection ends at once; the contactor is not welded, for its open limit has just begun (R126, R127). -/
theorem forcedChangeover_mute {f : Feeder} (h : usable (otherFeeder f) (s.opened f) = true) (mute : s.hpt.nodeState = .mute) :
    forcedChangeover f s = leaveForced f (collect (s.lossClaim f) (s.claimsOther f)) ∧
      openPassed (collect (s.lossClaim f) (s.claimsOther f)) = false := by
  have held : (s.claimsOther f).chs.claim = some (s.lossClaim f) := by rw [claimsOther_chs]
  have target : otherFeeder (s.lossClaim f).target = f := otherFeeder_other f
  refine ⟨?_, ?_⟩
  · rw [forcedChangeover_eq, if_pos h, forcedMade, held]
    refine (if_pos (by simpa using mute)).trans ?_
    rw [target]
  · rw [Bool.eq_false_iff, ne_eq, openPassed_iff, collect_chs, claimsOther_chs]
    intro passed
    have late := passed _ rfl
    simp [State.now, millisecond] at late

/-- No feeder is marked FAULTY by a forced changeover, and no return watch set. -/
theorem forcedChangeover_feeder (f g : Feeder) (s : State) :
    ((forcedChangeover f s).chs.feeder g).faulty = (s.chs.feeder g).faulty ∧
      ((s.chs.feeder g).returnWatch = none → ((forcedChangeover f s).chs.feeder g).returnWatch = none) := by
  by_cases can : usable (otherFeeder f) (s.opened f) = true
  · by_cases mute : s.hpt.nodeState = .mute
    · obtain ⟨left, soon⟩ := forcedChangeover_mute can mute
      have kept : ((forcedChangeover f s).chs.feederA = s.chs.feederA ∧ (forcedChangeover f s).chs.feederB = s.chs.feederB) := by
        rw [left]
        by_cases closed : (collect (s.lossClaim f) (s.claimsOther f)).closed f = true
        · rw [leaveForced_closed closed, soon, if_neg (by simp), setBoard_chs, collect_chs, claimsOther_chs]
          exact ⟨rfl, rfl⟩
        · rw [leaveForced_opened (by simpa using closed), enterDead_chs, collect_chs, claimsOther_chs]
          exact ⟨rfl, rfl⟩
      rw [feeder_congr kept.1 kept.2]
      exact ⟨rfl, id⟩
    · rw [forcedChangeover_run can mute, claimsOther_chs]
      cases g <;> exact ⟨rfl, id⟩
  · rw [forcedChangeover_dark can, enterDark_chs, opened_chs]
    cases g <;> exact ⟨rfl, fun _ => rfl⟩

theorem enterSettled_feeder (f g : Feeder) (b : Bool) (s : State) :
    ((enterSettled f b s).chs.feeder g).faulty = (s.chs.feeder g).faulty ∧
      ((enterSettled f b s).chs.feeder g).returnWatch = none := by
  have settled : ((s.settledOn f b).chs.feeder g).faulty = (s.chs.feeder g).faulty ∧
      ((s.settledOn f b).chs.feeder g).returnWatch = none := by
    rw [settledOn_chs]
    cases g <;> exact ⟨rfl, rfl⟩
  by_cases safe : NotLost f s
  · rwa [enterSettled_safe safe]
  · obtain ⟨faulty, watch⟩ := forcedChangeover_feeder f g (s.settledOn f b)
    rw [enterSettled_lost safe]
    exact ⟨faulty.trans settled.1, watch settled.2⟩

end Sys2Proof.Machine
end

section
/-! The moves of the contactors (R121 to R124), and what the end of a collection leads to, by the claim's origin
(R117, R120, R126, R129, R130). -/

namespace Sys2Proof.Machine

open Sys2Proof.Claims

variable {s t u : State} {c : ClaimRec}

theorem live_core (h : t.fpc.core = s.fpc.core) (f : Feeder) : t.live f = s.live f := by
  cases f
  · exact congrArg (·.sample.liveA) h
  · exact congrArg (·.sample.liveB) h

/-! ### The CONFIRM's offer (R117) -/

theorem buildConfirm_length (c : ClaimRec) (s : State) :
    (buildConfirm c s).slc.queue.length ≤ s.slc.queue.length + 1 := by
  by_cases listed : c.pledges = []
  · rw [buildConfirm_none listed]
    exact Nat.le_succ _
  · rw [buildConfirm_offers listed]
    exact offer_length ..

/-- A CONFIRM that finds room tells no event. -/
theorem buildConfirm_evf (c : ClaimRec) (room : Room s) : (buildConfirm c s).evf = s.evf := by
  by_cases listed : c.pledges = []
  · rw [buildConfirm_none listed]
    rfl
  · rw [buildConfirm_offers listed]
    exact offer_evf rfl room

/-! ### OPENING (R121) -/

/-- OPENING entered with the OPEN pulse. -/
def State.opening (s : State) (f : Feeder) : State := setBoard .opening (pulseOpen f s)

theorem opening_chs (s : State) (f : Feeder) : (s.opening f).chs = { s.chs with
    state := .opening, topupTimer := none, openLimit := some ⟨f, s.now + 500 * millisecond⟩ } := by
  rw [State.opening, setBoard_chs, pulseOpen_chs]

@[simp] theorem opening_frame (s : State) (f : Feeder) : (s.opening f).clock = s.clock ∧ (s.opening f).hpt = s.hpt ∧
    (s.opening f).mtr = s.mtr ∧ (s.opening f).fpc = (pulseOpen f s).fpc := by
  unfold State.opening
  simp

theorem opening_core (s : State) (f : Feeder) :
    (s.opening f).fpc.core = s.fpc.core.drive f ⟨.openLine, s.now + 200 * millisecond⟩ := by
  have same : (s.opening f).fpc = (pulseOpen f s).fpc := by simp
  rw [same]
  exact askPulse_core f .openLine s

theorem opening_tells (s : State) (f : Feeder) : Tells s (s.opening f) := setBoard_tells (pulseOpen_tells (Tells.refl s))

theorem enterOpening_eq (c : ClaimRec) (s : State) : enterOpening c s =
    if s.closed (otherFeeder c.target) then s.opening (otherFeeder c.target) else enterDead (s.opening (otherFeeder c.target)) := by
  rw [← (driven_other (opening_core s (otherFeeder c.target))).2.2 (otherFeeder c.target)]
  rfl

/-- DEAD with the record confirmed (R122). -/
theorem goesDead (x : State) (chs : ∃ (l : Option OpenLimit) (st : BoardState) (tt : Option Nat),
      x.chs = { (collect c s).chs with openLimit := l, state := st, topupTimer := tt })
    (clock : x.clock = s.clock) (hpt : x.hpt = s.hpt) (mtr : x.mtr = (collect c s).mtr) (told : Tells (collect c s) x) :
    GoesDead c s (enterDead x) := by
  obtain ⟨l, st, tt, chs⟩ := chs
  have entered : (enterDead x).chs = { (collect c s).chs with
      state := .dead, active := none, openLimit := none, topupTimer := none
      deadTimer := some (s.now + s.cfg.deadTime * millisecond) } := by
    rw [enterDead_chs, chs, State.now, clock, State.cfg, hpt]
    rfl
  refine ⟨confirmed_of_collect ⟨_, _, _, _, _, _, _, _, entered⟩ (by simpa using mtr) (enterDead_tells told), ?_⟩
  rw [entered]
  exact ⟨rfl, rfl, rfl, rfl⟩

/-- The collection of a planned claim ends (R121). -/
theorem confirmClaim_planned (origin : c.origin = .changeover) (s : State) :
    let t := confirmClaim c s
    let old := otherFeeder c.target
    t.fpc.pulse old = some ⟨.openLine, s.now + 200 * millisecond⟩ ∧
    (s.closed old = true → Confirmed c s t ∧ t.chs.state = .opening ∧ t.chs.active = s.chs.active ∧
      t.chs.openLimit = some ⟨old, s.now + 500 * millisecond⟩) ∧
    (s.closed old = false → GoesDead c s t) := by
  intro t old
  have ended : t = enterOpening c.confirm (collect c s) := by
    simp only [t, confirmClaim, origin]
  have target : otherFeeder c.confirm.target = old := rfl
  have clock : (collect c s).clock = s.clock := by simp
  have now : (collect c s).now = s.now := congrArg (·.elapsed) clock
  have closed : (collect c s).closed old = s.closed old := closed_core (by simp) old
  have chs := opening_chs (collect c s) old
  rw [enterOpening_eq, target, closed] at ended
  refine ⟨?_, fun h => ?_, fun h => ?_⟩
  · have pulse := (driven_other (opening_core (collect c s) old)).1
    rw [← now, ended]
    split
    · exact pulse
    · simpa using pulse
  · rw [if_pos h] at ended
    rw [ended]
    refine ⟨confirmed_of_collect ⟨_, _, _, _, _, _, _, _, chs⟩ (by simp) (opening_tells ..), ?_⟩
    rw [chs, collect_chs, now]
    exact ⟨rfl, rfl, rfl⟩
  · rw [if_neg (by simp [h])] at ended
    rw [ended]
    exact goesDead _ ⟨_, _, _, chs⟩ (by simp) (by simp) (by simp) (opening_tells ..)

/-! ### The end of a forced claim's collection (R126) -/

/-- The FAULTY mark of a contactor that did not move in time. -/
theorem contactorTimeout_faulty (f : Feeder) (w : ContactorCause) (s : State) :
    ((contactorTimeout f w s).chs.feeder f).faulty = true := by
  cases f <;> simp [contactorTimeout, postContactor, changeFeeder, Chs.feeder]

/-- The record of a welded board ends, with its event where it was a forced claim's (R126, R130). -/
def State.weldEnds (s : State) : State :=
  match s.chs.claim with
  | some c => if c.origin = .loss then failClaim .failed .openFail s else endClaim .failed s
  | none => s

theorem welded_eq (f : Feeder) (s : State) :
    welded f s = enterIsolated .welded (contactorTimeout f .openTimeout s).weldEnds := rfl

theorem weldEnds_chs (s : State) : s.weldEnds.chs = { s.chs with claim := none } := by
  unfold State.weldEnds
  split
  · split <;> simp
  · rename_i empty
    rw [← empty]

theorem welded_isolates (f : Feeder) (s : State) : Isolates (welded f s) ∧ ((welded f s).chs.feeder f).faulty = true := by
  refine ⟨?_, ?_⟩
  · rw [welded_eq]
    exact enterIsolated_isolates _ (by rw [weldEnds_chs])
  · have kept : ((contactorTimeout f .openTimeout s).weldEnds.chs.feeder f).faulty = true := by
      rw [weldEnds_chs]
      exact (congrArg FeederRec.faulty (feeder_congr rfl rfl f)).trans (contactorTimeout_faulty f .openTimeout s)
    rw [welded_eq, enterIsolated_chs]
    refine (congrArg FeederRec.faulty ?_).trans ((stopTimers_faulty ..).trans kept)
    exact feeder_congr rfl rfl f

theorem leaveForced_spec (c : ClaimRec) (s : State) :
    let t := leaveForced (otherFeeder c.target) (collect c s)
    let old := otherFeeder c.target
    (s.closed old = false → GoesDead c s t) ∧
    (∀ l, s.closed old = true → s.chs.openLimit = some l → s.now < l.deadline →
      Confirmed c s t ∧ t.chs.state = .opening ∧ t.chs.openLimit = some l) ∧
    (s.closed old = true → (∀ l, s.chs.openLimit = some l → l.deadline ≤ s.now) →
      Isolates t ∧ (t.chs.feeder old).faulty = true) := by
  intro t old
  have now : (collect c s).now = s.now := by simp [State.now]
  have closed : (collect c s).closed old = s.closed old := closed_core (by simp) old
  have limit : (collect c s).chs.openLimit = s.chs.openLimit := by rw [collect_chs]
  have passed : openPassed (collect c s) = true ↔ ∀ l, s.chs.openLimit = some l → l.deadline ≤ s.now := by
    rw [openPassed_iff, limit, now]
  refine ⟨fun h => ?_, fun l h held soon => ?_, fun h late => ?_⟩
  · have dead : t = enterDead (collect c s) := leaveForced_opened (closed.trans h)
    rw [dead]
    exact goesDead _ ⟨_, _, _, rfl⟩ (by simp) (by simp) rfl (Tells.refl _)
  · have opening : t = setBoard .opening (collect c s) := by
      refine (leaveForced_closed (closed.trans h)).trans (if_neg fun all => ?_)
      have := passed.mp all l held
      omega
    rw [opening]
    refine ⟨confirmed_of_collect ⟨_, _, _, _, _, _, _, _, setBoard_chs ..⟩ (by simp) (setBoard_tells (Tells.refl _)), ?_⟩
    rw [setBoard_chs]
    exact ⟨rfl, limit.trans held⟩
  · have weld : t = welded old (setBoard .opening (collect c s)) :=
      (leaveForced_closed (closed.trans h)).trans (if_pos (passed.mpr late))
    rw [weld]
    exact welded_isolates ..

/-! ### CLOSING (R123) -/

/-- CLOSING entered, before the test of R109. -/
def State.closing (s : State) : State := setBoard .closing (s.withChs { s.chs with deadTimer := none })

@[simp] theorem closing_frame (s : State) : s.closing.clock = s.clock ∧ s.closing.hpt = s.hpt ∧ s.closing.mtr = s.mtr ∧
    s.closing.fpc = s.fpc := by
  unfold State.closing
  simp

@[simp] theorem closing_chs (s : State) :
    s.closing.chs = { s.chs with state := .closing, deadTimer := none, topupTimer := none } := by
  rw [State.closing, setBoard_chs]
  rfl

theorem enterClosing_eq (c : ClaimRec) (s : State) : enterClosing c s =
    if closeBlocked c.target s.closing then blockClose s.closing
    else if (pulseClose c.target s.closing).closed c.target then closure c (pulseClose c.target s.closing)
      else pulseClose c.target s.closing := rfl

theorem pulseClose_core (f : Feeder) (s : State) :
    (pulseClose f s).fpc.core = s.fpc.core.drive f ⟨.closeLine, s.now + 200 * millisecond⟩ := askPulse_core f .closeLine s

/-- A CLOSE pulse goes to its feeder, and every position reads as before. -/
theorem pulseClose_closed (f g : Feeder) (s : State) : (pulseClose f s).closed g = s.closed g :=
  (driven_other (pulseClose_core f s)).2.2 g

theorem pulseClose_pulse (f : Feeder) (s : State) :
    (pulseClose f s).fpc.pulse f = some ⟨.closeLine, s.now + 200 * millisecond⟩ := (driven_other (pulseClose_core f s)).1

theorem closing_allowed {f : Feeder} : closeBlocked f s.closing = true ↔ ¬CloseAllowed f s := by
  have same : CloseAllowed f s.closing ↔ CloseAllowed f s := closeAllowed_core (by simp)
  rw [← same, ← not_closeBlocked_iff, not_not]

theorem enterClosing_blocked (h : ¬CloseAllowed c.target s) : enterClosing c s = blockClose s.closing :=
  if_pos (closing_allowed.mpr h)

theorem enterClosing_pulsed (h : CloseAllowed c.target s) (opened : s.closed c.target = false) :
    enterClosing c s = pulseClose c.target s.closing := by
  have stays : ¬(pulseClose c.target s.closing).closed c.target = true := by
    rw [pulseClose_closed, closed_core (s := s) (by simp), opened]
    simp
  rw [enterClosing_eq, if_neg (mt closing_allowed.mp (not_not.mpr h)), if_neg stays]

theorem enterClosing_closed (h : CloseAllowed c.target s) (closed : s.closed c.target = true) :
    enterClosing c s = closure c (pulseClose c.target s.closing) := by
  have stays : (pulseClose c.target s.closing).closed c.target = true := by
    rw [pulseClose_closed, closed_core (s := s) (by simp), closed]
  rw [enterClosing_eq, if_neg (mt closing_allowed.mp (not_not.mpr h)), if_pos stays]

/-! ### The end of a return claim's collection (R130) -/

theorem confirmClaim_return (origin : c.origin = .fromDark) (s : State) :
    let t := confirmClaim c s
    (s.live c.target = true → CloseAllowed c.target s → s.closed c.target = false →
      Confirmed c s t ∧ t.chs.state = .closing ∧ t.chs.closeLimit = some (s.now + 500 * millisecond) ∧
      t.fpc.pulse c.target = some ⟨.closeLine, s.now + 200 * millisecond⟩) ∧
    (s.live c.target = true → ¬CloseAllowed c.target s → Isolates t) ∧
    (s.live c.target = false → t.chs.state = .dark ∧ t.chs.active = none ∧ t.chs.billing = none ∧
      t.chs.claim = none ∧
      (s.hpt.nodeState = .mute ∨ s.slc.queue.length < 15 → c.requested ≤ (c.pledges.map (·.kw)).sum →
        PostsFirst [(.changeoverFailed, ownClaim s c, 0, 6)] s t)) := by
  intro t
  have ended : t = leaveReturn c.confirm (collect c s) := by simp only [t, confirmClaim, origin]
  have core : (collect c s).fpc.core = s.fpc.core := by simp
  have target : c.confirm.target = c.target := rfl
  have now : (collect c s).now = s.now := by simp [State.now]
  have live : (collect c s).live c.target = s.live c.target := live_core core _
  have closes (h : s.live c.target = true) : t = enterClosing c.confirm (collect c s) :=
    ended.trans (if_pos (live.trans h))
  refine ⟨fun h allowed opened => ?_, fun h blocked => ?_, fun h => ?_⟩
  · have pulsed := enterClosing_pulsed (c := c.confirm) ((closeAllowed_core core).mpr allowed)
      ((closed_core core c.target).trans opened)
    have chs : (pulseClose c.target (collect c s).closing).chs = { (collect c s).chs with
        state := .closing, deadTimer := none, topupTimer := none
        closeLimit := some (s.now + 500 * millisecond) } := by
      simp [State.now]
    rw [closes h, pulsed, target]
    refine ⟨confirmed_of_collect ⟨_, _, _, _, _, _, _, _, chs⟩ (by simp) (pulseClose_tells (setBoard_tells (Tells.refl _))), ?_⟩
    refine ⟨by rw [chs], by rw [chs], ?_⟩
    rw [pulseClose_pulse]
    simp [State.now]
  · rw [closes h, enterClosing_blocked (c := c.confirm) (mt (closeAllowed_core core).mp blocked)]
    exact blockClose_isolates _
  · have dark : t = enterDark (failClaim .failed .targetDead (collect c s)) :=
      ended.trans (if_neg (by rw [target, live, h]; simp))
    rw [dark, enterDark_chs, failClaim_chs]
    refine ⟨rfl, rfl, rfl, rfl, fun room covered => ?_⟩
    have total : c.confirm.total = min c.requested ((c.pledges.map (·.kw)).sum) := takeWalk_sum ..
    have built : collect c s = buildConfirm c s :=
      shedCapacity_idle (.inr (by rw [total]; exact le_min le_rfl covered)) _
    have roomy : Room s := room.imp (by simp_all) (by omega)
    have evf : (collect c s).evf = s.evf := built ▸ buildConfirm_evf c roomy
    have roomy' : Room (collect c s) := by
      have length := buildConfirm_length c s
      exact room.imp (fun mute => by simp [mute]) fun few => by rw [built]; omega
    have held : (collect c s).chs.claim = some c.confirm := by rw [collect_chs]
    have wrote := (failClaim_wrote held .failed .targetDead roomy').of_start (u := s) (by rw [evf]) (by rw [evf]) (by simp)
    have told := wrote.first (enterDark_tells (Tells.refl (failClaim .failed .targetDead (collect c s))))
    simpa [ownClaim, State.eventId, ClaimRec.confirm, FailReason.code] using told

/-! ### The cover of a top-up claim (R129) -/

/-- The lowest level given back. -/
def State.givesBack (s : State) : State :=
  match s.chs.lowestShed with
  | some (n, _) => capacityRequest false [n] (s.withChs (s.chs.setShed n none))
  | none => s

@[simp] theorem givesBack_frame (s : State) : s.givesBack.clock = s.clock ∧ s.givesBack.hpt = s.hpt ∧
    s.givesBack.slc = s.slc ∧ s.givesBack.fpc.core = s.fpc.core := by
  unfold State.givesBack
  split <;> simp

/-- The levels apart, giving one back changes nothing of the sequencer. -/
theorem givesBack_chs (s : State) : s.givesBack.chs = { s.chs with
    shed1 := s.givesBack.chs.shed1, shed2 := s.givesBack.chs.shed2, shed3 := s.givesBack.chs.shed3 } := by
  unfold State.givesBack
  split
  · rename_i n p lowest
    simp only [capacityRequest_frame, State.withChs_chs]
    unfold Chs.setShed
    split <;> rfl
  · rfl

theorem givesBack_level {n p : Nat} (lowest : s.chs.lowestShed = some (n, p)) :
    s.givesBack.mtr.levels.get n = false ∧ ∀ m, s.givesBack.chs.shedOf m = if m = n then none else s.chs.shedOf m := by
  have level := lowestShed_level lowest
  have given : s.givesBack = capacityRequest false [n] (s.withChs (s.chs.setShed n none)) := by
    unfold State.givesBack
    rw [lowest]
  rw [given]
  refine ⟨capacityRequest_levels (by simpa using level) List.mem_cons_self _, fun m => ?_⟩
  rw [← shedOf_setShed level]
  simp

theorem confirmClaim_topup (origin : c.origin = .topup) (kind : c.kind = .topup) (s : State) :
    let t := confirmClaim c s
    Settles c.target s.chs.billing { s with fpc := t.fpc } t ∧
    (NotLost c.target s →
      (∀ n p, s.chs.lowestShed = some (n, p) → t.mtr.levels.get n = false ∧
        ∀ m, t.chs.shedOf m = if m = n then none else s.chs.shedOf m) ∧
      (s.hpt.nodeState = .run → s.slc.queue.length < 15 → Queued (.release c.serial .done) t)) := by
  intro t
  have built : collect c s = buildConfirm c s := shedCapacity_idle (.inl (by simp [ClaimRec.confirm, kind])) _
  have chs : (endClaim .done (buildConfirm c s).givesBack).chs = { s.chs with
      claim := none, shed1 := (buildConfirm c s).givesBack.chs.shed1, shed2 := (buildConfirm c s).givesBack.chs.shed2
      shed3 := (buildConfirm c s).givesBack.chs.shed3 } := by
    rw [endClaim_chs, givesBack_chs, buildConfirm_chs]
  have ended : t = enterSettled c.target false (endClaim .done (buildConfirm c s).givesBack) := by
    simp only [t, confirmClaim, origin, built]
    rfl
  have watch : ((endClaim .done (buildConfirm c s).givesBack).chs.feeder c.target).lossWatch =
      (s.chs.feeder c.target).lossWatch := by
    rw [chs]
    exact congrArg FeederRec.lossWatch (feeder_congr rfl rfl _)
  refine ⟨?_, fun safe => ⟨fun n p lowest => ?_, fun run few => ?_⟩⟩
  · have settles := enterSettled_settles (s := endClaim .done (buildConfirm c s).givesBack) (f := c.target) (b := false)
      (billing := s.chs.billing) (by simp) (by rw [chs]; rfl)
    rw [ended]
    exact Settles.of_start_any settles watch (by simp) (by simp)
  · have settled : t = (endClaim .done (buildConfirm c s).givesBack).settledOn c.target false :=
      ended.trans (enterSettled_safe ((notLost_congr watch (by simp) (by simp)).mpr safe) false)
    have lowest' : (buildConfirm c s).chs.lowestShed = some (n, p) := by
      rw [buildConfirm_chs]
      exact lowest
    obtain ⟨level, shed⟩ := givesBack_level lowest'
    rw [settled, settledOn_chs]
    refine ⟨by simpa using level, fun m => ?_⟩
    have same : s.chs.shedOf m = (buildConfirm c s).chs.shedOf m := by
      rw [buildConfirm_chs]
      rfl
    rw [same, ← shed m, endClaim_chs]
    rfl
  · have length := buildConfirm_length c s
    have held : (buildConfirm c s).givesBack.chs.claim = some c.confirm := by rw [givesBack_chs, buildConfirm_chs]
    rw [ended]
    exact (endClaim_queues held .done (by simpa using run) (by simp; omega)).stays rfl (enterSettled_tells (Tells.refl _))

/-! ### The collection of any claim -/

theorem confirmClaim_ends (c : ClaimRec) (s : State) : CollectionEnds c s (confirmClaim c s) := by
  refine ⟨fun origin => confirmClaim_planned origin s, fun origin => ?_, fun origin => confirmClaim_return origin s,
    fun origin kind => ?_⟩
  · have ended : confirmClaim c s = leaveForced (otherFeeder c.target) (collect c s) := by
      simp only [confirmClaim, origin]
    rw [ended]
    exact leaveForced_spec c s
  · obtain ⟨settles, kept⟩ := confirmClaim_topup origin kind s
    refine ⟨settles, fun safe => ?_⟩
    obtain ⟨levels, queued⟩ := kept safe
    refine ⟨fun p one => ?_, fun p one two => ?_, fun p one two three => ?_, queued⟩
    · obtain ⟨level, shed⟩ := levels 1 p (by simp [Chs.lowestShed, one])
      exact ⟨level, shed 1, shed 2, shed 3⟩
    · obtain ⟨level, shed⟩ := levels 2 p (by simp [Chs.lowestShed, one, two])
      exact ⟨level, (shed 1).trans one, shed 2, shed 3⟩
    · obtain ⟨level, shed⟩ := levels 3 p (by simp [Chs.lowestShed, one, two, three])
      exact ⟨level, (shed 1).trans one, (shed 2).trans two, shed 3⟩

/-- The record that is confirmed stands in the place of the one that was collected for. -/
theorem confirmClaim_record (c : ClaimRec) (x : Option ClaimRec) (s : State) :
    confirmClaim c (s.withChs { s.chs with claim := x }) = confirmClaim c s := rfl

end Sys2Proof.Machine
end

section
/-! The host's recovery (R131, R132), the planned claim (R113, R119, R120) and the pledge list (R115 to R118): O41,
O34 and O35. -/

namespace Sys2Proof.Machine

open Sys2Proof.Claims

variable {s t u : State} {c : ClaimRec}

/-! ### The gate of a board's commands (R189) -/

theorem takes_board (board : OnBoard s) : s.takes (some .board) [.run, .mute] = true := by
  obtain ⟨role, node⟩ := board
  cases state : s.hpt.nodeState with
  | config => exact absurd state node
  | run | mute => simp [State.takes, role, state]

theorem takes_board_run (role : s.hpt.role = some .board) (run : s.hpt.nodeState = .run) :
    s.takes (some .board) [.run] = true := by simp [State.takes, role, run]

theorem feederOf_name (f : Feeder) : feederOf (if f = .a then 0 else 1) = some f := by cases f <;> rfl

/-! ### RESTORE and CLEAR_FEEDER (R131, R132) -/

/-- A feeder's mark cleared. -/
def State.unmarked (s : State) (f : Feeder) : State := changeFeeder f (fun r => { r with faulty := false }) s

theorem unmarked_chs (s : State) (f : Feeder) : (s.unmarked f).chs = match f with
    | .a => { s.chs with feederA := { s.chs.feederA with faulty := false } }
    | .b => { s.chs with feederB := { s.chs.feederB with faulty := false } } := by
  cases f <;> rfl

@[simp] theorem unmarked_frame (s : State) (f : Feeder) : (s.unmarked f).clock = s.clock ∧ (s.unmarked f).hpt = s.hpt ∧
    (s.unmarked f).fpc = s.fpc := by
  unfold State.unmarked
  simp

/-- The board DARK with a mark cleared. -/
def State.restored (s : State) (f : Feeder) : State := enterDark (s.unmarked f)

@[simp] theorem restored_frame (s : State) (f : Feeder) : (s.restored f).clock = s.clock ∧ (s.restored f).hpt = s.hpt ∧
    (s.restored f).fpc = s.fpc := by
  unfold State.restored
  simp

theorem restored_chs (s : State) (f : Feeder) : (s.restored f).chs.state = .dark ∧ (s.restored f).chs.active = none ∧
    (s.restored f).chs.billing = none ∧ (s.restored f).chs.claim = s.chs.claim ∧
    ((s.restored f).chs.feeder f).faulty = false ∧
    ((s.restored f).chs.feeder (otherFeeder f)).faulty = (s.chs.feeder (otherFeeder f)).faulty ∧
    ∀ g, ((s.restored f).chs.feeder g).lossWatch = (s.chs.feeder g).lossWatch := by
  rw [State.restored, enterDark_chs, unmarked_chs]
  cases f
  · exact ⟨rfl, rfl, rfl, rfl, rfl, rfl, fun g => by cases g <;> rfl⟩
  · exact ⟨rfl, rfl, rfl, rfl, rfl, rfl, fun g => by cases g <;> rfl⟩

theorem restore_eq (f : Feeder) (s : State) : restore f s =
    if s.closed .a then enterSettled .a true (s.restored f)
    else if s.closed .b then enterSettled .b true (s.restored f) else s.restored f := by
  have closed (g : Feeder) : (s.restored f).closed g = s.closed g := closed_core (by simp) g
  rw [← closed .a, ← closed .b]
  rfl

theorem restore_closed {f g : Feeder} (closed : s.closed g = true) (opened : s.closed (otherFeeder g) = false) :
    restore f s = enterSettled g true (s.restored f) := by
  rw [restore_eq]
  cases g
  · exact if_pos closed
  · rw [if_neg (by simpa [otherFeeder] using opened), if_pos closed]

/-- Settles O41. -/
theorem hostRecovery : Obligations.HostRecovery := by
  intro s tag f board name
  have code : feederOf name = some f := feederOf_name f
  have restores : exec (.restore tag name) s = .next (if s.chs.state = .isolated ∧ !(s.closed .a && s.closed .b)
      then respond tag .ok [] (restore f s) else refuse tag .state s) := by
    simp only [exec, execRestore, gated_taken s (takes_board board), code]
  have clears : exec (.clearFeeder tag name) s = .next (if s.chs.state = .settled ∨ s.chs.state = .dark
      then respond tag .ok [] (s.unmarked f) else refuse tag .state s) := by
    simp only [exec, execClearFeeder, gated_taken s (takes_board board), code]
    rfl
  obtain ⟨dark, inactive, unbilled, claim, cleared, other, watch⟩ := restored_chs s f
  refine ⟨fun outside => ?_, fun isolated openA openB => ?_, fun g isolated closed opened => ?_, fun may => ?_,
    fun settled notDark => ?_⟩
  · rw [restores, if_neg]
    · rfl
    · rintro ⟨isolated, apart⟩
      rcases outside with away | ⟨closedA, closedB⟩
      · exact away isolated
      · simp [closedA, closedB] at apart
  · have done : restore f s = s.restored f := by rw [restore_eq, if_neg (by simp [openA]), if_neg (by simp [openB])]
    refine ⟨restore f s, restores.trans (congrArg Host.Outcome.next (if_pos ⟨isolated, by simp [openA]⟩)), ?_⟩
    rw [done]
    exact ⟨cleared, other, dark, inactive, unbilled, by simp⟩
  · have apart : (!(s.closed .a && s.closed .b)) = true := by
      cases g <;> simp_all [otherFeeder]
    refine ⟨restore f s, restores.trans (congrArg Host.Outcome.next (if_pos ⟨isolated, apart⟩)), ?_⟩
    rw [restore_closed closed opened]
    refine ⟨(enterSettled_feeder ..).1.trans cleared, fun free => ?_⟩
    exact Settles.of_start (enterSettled_settles (claim.trans free) rfl) (watch g) (by simp) (by simp) (by simp)
  · refine ⟨s.unmarked f, clears.trans (congrArg Host.Outcome.next (if_pos may)), keepsAllBut_of (by simp [State.unmarked]), ?_⟩
    exact unmarked_chs s f
  · rw [clears, if_neg (by simp [settled, notDark])]
    rfl

/-! ### The planned claim (R113, R119, R120) -/

theorem requestedKw_eq (load margin : Nat) : requestedKw load margin = asked load margin := by
  rw [requestedKw, asked, ceilDiv, Nat.add_sub_assoc (by decide)]

/-- An offer that is not URGENT takes nothing from the queue but a STATUS (R9, R10). -/
theorem offer_keeps {b : Bulletin} {cls : TxClass} (calm : cls ≠ .urgent) {x : TxEntry} (there : x ∈ s.slc.queue)
    (other : x.bulletin.isStatus = false) : x ∈ (offer b cls s).slc.queue := by
  have joined : x ∈ (offerNew b cls s).slc.queue := by
    simp only [offerNew, if_neg calm]
    split
    · exact mem_joinQueue.mpr (.inr there)
    · split
      · exact there
      · simpa using there
  unfold offer
  split
  · split
    · rename_i d replaced
      split at replaced
      · unfold replaceStatus at replaced
        repeat' split at replaced
        all_goals cases replaced
        · exact there
        · exact mem_spliceFirst_of_not there other
        · exact there
      · cases replaced
    · exact joined
  · exact there

theorem extraCause_keeps {x : TxEntry} (there : x ∈ s.slc.queue) (other : x.bulletin.isStatus = false) :
    x ∈ (extraCause s).slc.queue := by
  unfold extraCause offerExtra offerStatus
  repeat' split
  · exact there
  · exact there
  · exact there
  · exact offer_keeps (by decide) there other
  · exact there

/-- A claim that a board state collects for, made and its state entered (R113). -/
def State.claims (s : State) (st : BoardState) (f : Feeder) (k : ClaimKind) (n : Nat) (o : ClaimOrigin) (kw : Nat) :
    State := setBoard st (makeClaim f k n o kw s)

theorem claims_chs (s : State) (st : BoardState) (f : Feeder) (k : ClaimKind) (n : Nat) (o : ClaimOrigin) (kw : Nat) :
    (s.claims st f k n o kw).chs = { s.chs with
      state := st, topupTimer := none, serial := (s.chs.serial + 1) % 256, claim := some (s.newClaim f k n o kw) } := by
  rw [State.claims, setBoard_chs, makeClaim_chs]

theorem claims_keeps (s : State) (st : BoardState) (f : Feeder) (k : ClaimKind) (n : Nat) (o : ClaimOrigin) (kw : Nat) :
    KeepsAllBut [.chs, .slc, .evf, .pvt] s (s.claims st f k n o kw) := keepsAllBut_of (by simp [State.claims])

theorem claims_queues {st : BoardState} {f : Feeder} {k : ClaimKind} {n kw : Nat} {o : ClaimOrigin}
    (run : s.hpt.nodeState = .run) (room : s.slc.queue.length < 16) :
    ∃ e ∈ (s.claims st f k n o kw).slc.queue, e.cls = claimClass k ∧
      e.bulletin = .claim ((s.chs.serial + 1) % 256) (s.chs.feeder f).group k n kw := by
  let b : Bulletin := .claim ((s.chs.serial + 1) % 256) (s.chs.feeder f).group k n kw
  have joined : freshEntry b (claimClass k) ∈ (makeClaim f k n o kw s).slc.queue := by
    have offered : makeClaim f k n o kw s = _ := offer_joins (b := b) run rfl room
    rw [offered]
    exact mem_joinQueue.mpr (.inl rfl)
  exact ⟨_, extraCause_keeps joined rfl, rfl, rfl⟩

theorem mayChange_none {f : Feeder} (h : s.chs.state ≠ .settled ∨ s.chs.active = none ∨ s.chs.active = some f ∧
    (s.live (otherFeeder f) = false ∨ (s.chs.feeder (otherFeeder f)).faulty = true)) : mayChange s = none := by
  unfold mayChange
  split
  · rename_i g settled active
    rcases h with unsettled | inactive | ⟨active', unusable⟩
    · exact absurd settled unsettled
    · exact nomatch active.symm.trans inactive
    · obtain rfl := Option.some.inj (active.symm.trans active')
      refine if_neg ?_
      rcases unusable with dead | faulty
      · simp [usable, dead]
      · simp [usable, faulty]
  · rfl

theorem mayChange_some {f : Feeder} (settled : s.chs.state = .settled) (active : s.chs.active = some f)
    (live : s.live (otherFeeder f) = true) (sound : (s.chs.feeder (otherFeeder f)).faulty = false) :
    mayChange s = some (otherFeeder f) := by
  simp [mayChange, settled, active, usable, live, sound]

theorem exec_changeover (tag cls : Byte) (role : s.hpt.role = some .board) (run : s.hpt.nodeState = .run) :
    exec (.changeover tag cls) s = .next (if 7 < cls.toNat then badField tag 0 s else match mayChange s with
      | none => refuse tag .state s
      | some t =>
        let kw := requestedKw s.chs.snapLoad s.cfg.margin
        let s := s.claims .claiming t .planned cls.toNat .changeover kw
        respond tag .ok (byte s.chs.serial :: be16 kw) s) :=
  congrArg Host.Outcome.next (gated_taken s (takes_board_run role run))

theorem endClaim_feeder (why : ReleaseReason) (s : State) (f : Feeder) :
    (endClaim why s).chs.feeder f = s.chs.feeder f := by
  rw [endClaim_chs]
  exact feeder_congr rfl rfl f

theorem failClaim_feeder (why : ReleaseReason) (reason : FailReason) (s : State) (f : Feeder) :
    (failClaim why reason s).chs.feeder f = s.chs.feeder f := by
  rw [failClaim_chs]
  exact feeder_congr rfl rfl f

/-- A claim ended by the board itself leaves it SETTLED, told where its RELEASE pushes nothing out (R120). -/
theorem failClaim_settles {f : Feeder} (held : s.chs.claim = some c) (why : ReleaseReason) (reason : FailReason) :
    let t := enterSettled f false (failClaim why reason s)
    Settles f s.chs.billing s t ∧ (Room s → PostsFirst [(.changeoverFailed, ownClaim s c, 0, reason.code)] s t) := by
  refine ⟨Settles.of_start (enterSettled_settles (by simp) (by simp)) (by rw [failClaim_feeder]) (by simp) (by simp) (by simp),
    fun room => ?_⟩
  exact (failClaim_wrote held why reason room).first (enterSettled_tells (Tells.refl _))

/-- The same of a claim that ends without an event. -/
theorem endClaim_settles {f : Feeder} {b : Bool} (why : ReleaseReason) :
    Settles f (if b then some f else s.chs.billing) s (enterSettled f b (endClaim why s)) :=
  Settles.of_start (enterSettled_settles (by simp) (by simp)) (by rw [endClaim_feeder]) (by simp) (by simp) (by simp)

theorem exec_cancelChangeover (tag : Byte) (board : OnBoard s) : exec (.cancelChangeover tag) s =
    .next (match s.chs.state, s.chs.claim with
      | .claiming, some c =>
        if c.origin = .changeover then
          respond tag .ok [] (enterSettled (otherFeeder c.target) false (failClaim .aborted .cancelled s))
        else refuse tag .state s
      | _, _ => refuse tag .state s) := congrArg Host.Outcome.next (gated_taken s (takes_board board))

theorem claimDue_held (board : OnBoard s) (held : s.chs.claim = some c) (collects : c.confirmed = none)
    (due : c.deadline ≤ s.now) : claimDue s = some c := by
  simp [claimDue, boardWorks_iff.mpr board, held, collects, due]

theorem exec_claimDeadline_planned (due : claimDue s = some c) (origin : c.origin = .changeover) :
    exec .claimDeadline s = .next (enterSettled (otherFeeder c.target) false (failClaim .aborted .short s)) := by
  simp only [exec, execClaimDeadline, due, origin]

theorem exec_claimDeadline_topup (due : claimDue s = some c) (origin : c.origin = .topup) :
    exec .claimDeadline s = .next (enterSettled c.target false (endClaim .aborted s)) := by
  simp only [exec, execClaimDeadline, due, origin]

theorem exec_claimDeadline_forced (due : claimDue s = some c) (origin : c.origin = .loss ∨ c.origin = .fromDark) :
    exec .claimDeadline s = .next (confirmClaim c s) := by
  rcases origin with origin | origin <;> simp only [exec, execClaimDeadline, due, origin]

/-- Settles O34. -/
theorem plannedClaim : Obligations.PlannedClaim := by
  refine ⟨fun s tag cls f role run => ⟨fun big => ?_, fun small shut => ?_, fun small settled active live sound => ?_⟩,
    fun s tag board => ⟨fun other => ?_, fun c state held origin => ?_⟩,
    fun s c board held collects passed => ⟨fun origin => ?_, fun origin => ?_, fun origin => ?_⟩⟩
  · rw [exec_changeover tag cls role run, if_pos big]
    rfl
  · rw [exec_changeover tag cls role run, if_neg (by omega), mayChange_none shut]
    rfl
  · refine ⟨s.claims .claiming (otherFeeder f) .planned cls.toNat .changeover (asked s.chs.snapLoad s.cfg.margin), ?_,
      claims_keeps s _ _ _ _ _ _, claims_chs .., claims_queues run⟩
    rw [exec_changeover tag cls role run, if_neg (by omega), mayChange_some settled active live sound]
    simp only [requestedKw_eq, claims_chs]
    rfl
  · rw [exec_cancelChangeover tag board]
    split
    · rename_i c state held
      rw [if_neg (other.elim (absurd state) fun planned => planned c held)]
      rfl
    · rfl
  · refine ⟨_, ?_, failClaim_settles held .aborted .cancelled⟩
    rw [exec_cancelChangeover tag board]
    simp only [state, held, origin]
    rfl
  · exact ⟨_, exec_claimDeadline_planned (claimDue_held board held collects passed) origin,
      failClaim_settles held .aborted .short⟩
  · exact ⟨_, exec_claimDeadline_topup (claimDue_held board held collects passed) origin,
      endClaim_settles (b := false) .aborted⟩
  · exact ⟨_, exec_claimDeadline_forced (claimDue_held board held collects passed) origin, confirmClaim_ends c s⟩

/-! ### The pledge list (R115 to R118) -/

theorem namedClaim_own (board : OnBoard s) (held : s.chs.claim = some c) : namedClaim s.eventId c.serial s = some c := by
  simp [namedClaim, boardWorks_iff.mpr board, held]

theorem namedClaim_other {serial n : Nat} (held : s.chs.claim = some c) (other : n ≠ s.eventId ∨ serial ≠ c.serial) :
    namedClaim n serial s = none := by
  unfold namedClaim
  split
  · rename_i works
    have differs := other.resolve_left (not_not.mpr works.2)
    rw [held]
    exact if_neg (by simpa [eq_comm] using differs)
  · rfl

/-- The pledge list after a PLEDGE that is not ignored (R115). -/
def ClaimRec.listed (c : ClaimRec) (node kw : Nat) : List PledgeItem :=
  if c.pledges.any (fun e => e.node == node)
  then c.pledges.map (fun e => if e.node = node then { e with kw := kw } else e)
  else c.pledges ++ [⟨node, kw, none⟩]

theorem pledged_listed {node : Nat} (kw : Nat) (h : (∃ e ∈ c.pledges, e.node = node) ∨ c.pledges.length < 8) :
    c.pledged node kw = some { c with pledges := c.listed node kw } := by
  unfold ClaimRec.pledged ClaimRec.listed
  split
  · rfl
  · rename_i unknown
    have few : c.pledges.length < 8 := h.resolve_left fun ⟨e, there, is⟩ =>
      unknown (List.any_eq_true.mpr ⟨e, there, by simp [is]⟩)
    simp [few]

theorem pledged_ignored {node : Nat} (kw : Nat) (unknown : ¬∃ e ∈ c.pledges, e.node = node) (many : 8 ≤ c.pledges.length) :
    c.pledged node kw = none := by
  have other : ¬c.pledges.any (fun e => e.node == node) = true := fun known => by
    obtain ⟨e, there, is⟩ := List.any_eq_true.mp known
    exact unknown ⟨e, there, by simpa using is⟩
  unfold ClaimRec.pledged
  rw [if_neg other, if_neg (by omega)]

theorem takePledge_own (board : OnBoard s) (held : s.chs.claim = some c) (collects : c.confirmed = none) (node kw : Nat) :
    takePledge node s.eventId c.serial kw s = match c.pledged node kw with
      | none => s
      | some c' =>
        if c'.requested ≤ c'.sum then confirmClaim c' (s.withChs { s.chs with claim := some c' })
        else s.withChs { s.chs with claim := some c' } := by
  unfold takePledge
  rw [namedClaim_own board held]
  dsimp only
  rw [collects]
  rfl

/-- Settles O35. -/
theorem pledgesCollected : Obligations.PledgesCollected := by
  intro s c node kw board held
  refine ⟨fun serial other => ?_, fun n serial other => ?_, fun collects unknown many => ?_, fun collects known short => ?_,
    fun collects known covered => ?_, fun revoked confirmed => ?_, fun revoked collects => ?_, ?_⟩
  · by_cases named : serial = c.serial
    · have done := other.resolve_left (not_not.mpr named)
      unfold takePledge
      rw [named, namedClaim_own board held]
      exact if_pos done
    · unfold takePledge
      rw [namedClaim_other held (.inr named)]
  · unfold takePledge
    rw [namedClaim_other held (.inl other)]
  · rw [takePledge_own board held collects, pledged_ignored kw unknown many]
  · rw [takePledge_own board held collects, pledged_listed kw known]
    exact if_neg (Nat.not_le.mpr short)
  · have done : takePledge node s.eventId c.serial kw s = confirmClaim { c with pledges := c.listed node kw } s := by
      rw [takePledge_own board held collects, pledged_listed kw known]
      exact (if_pos covered).trans (confirmClaim_record ..)
    rw [done]
    exact confirmClaim_ends ..
  · have posted : takeRevoke node s.eventId c.serial revoked kw s =
        postEvent .pledgeLostAfterConfirm (s.claimSubject c) (pair16 revoked kw) node s := by
      unfold takeRevoke
      rw [namedClaim_own board held]
      exact if_pos confirmed
    rw [posted]
    exact ⟨keepsAllBut_of (by simp), (postEvent_wrote ..).posts⟩
  · unfold takeRevoke
    rw [namedClaim_own board held]
    exact if_neg (by simp [collects])
  · unfold boardPeerGone
    rw [held]
    rfl

end Sys2Proof.Machine
end

section
/-! The ends of the contactor limits (R109, R121 to R124, R126, R130): O38. -/

namespace Sys2Proof.Machine

open Sys2Proof.Claims

variable {s t u : State} {c : ClaimRec}

/-! ### A contactor that did not move in time (R121, R123) -/

@[simp] theorem contactorTimeout_slc (f : Feeder) (w : ContactorCause) (s : State) :
    (contactorTimeout f w s).slc = s.slc := by simp [contactorTimeout, postContactor]

/-- The mark apart, the sequencer's tables stand. -/
theorem contactorTimeout_chs (f : Feeder) (w : ContactorCause) (s : State) : (contactorTimeout f w s).chs =
    match f with
    | .a => { s.chs with feederA := { s.chs.feederA with faulty := true } }
    | .b => { s.chs with feederB := { s.chs.feederB with faulty := true } } := by
  cases f <;> simp [contactorTimeout, postContactor, changeFeeder]

theorem contactorTimeout_lossWatch (f g : Feeder) (w : ContactorCause) (s : State) :
    ((contactorTimeout f w s).chs.feeder g).lossWatch = (s.chs.feeder g).lossWatch := by
  rw [contactorTimeout_chs]
  cases f <;> cases g <;> rfl

theorem contactorTimeout_other (f : Feeder) (w : ContactorCause) (s : State) :
    (contactorTimeout f w s).chs.feeder (otherFeeder f) = s.chs.feeder (otherFeeder f) := by
  rw [contactorTimeout_chs]
  cases f <;> rfl

theorem contactorTimeout_billing (f : Feeder) (w : ContactorCause) (s : State) :
    (contactorTimeout f w s).chs.billing = s.chs.billing := by
  rw [contactorTimeout_chs]
  cases f <;> rfl

/-- Events, and then those of a fault's report. -/
theorem Wrote.then_fault {l : List (EventKind × Subject × Nat × Nat)} (h : Wrote l s t) (k : FaultKind) (c : List Byte)
    (clock : t.clock = s.clock) (hpt : t.hpt = s.hpt) (mask : t.evf.mask = s.evf.mask) (first : t.evf.first = s.evf.first) :
    Wrote (l ++ faultPosts k s) s (reportFault k c t) := by
  have same : faultPosts k t = faultPosts k s := by simp only [faultPosts, mask, first, State.eventId, hpt]
  exact h.trans (same ▸ reportFault_wrote k c t) clock

/-- The event of the contactor and the fault behind it. -/
theorem contactorTimeout_wrote (f : Feeder) (w : ContactorCause) (s : State) :
    Wrote ((.contactorFault, .node s.eventId, 0, feederMark (some f) * 256 + w.code) :: faultPosts .contactorTimeout s) s
      (contactorTimeout f w s) := by
  let marked := changeFeeder f (fun r => { r with faulty := true }) s
  have evf : marked.evf = s.evf := by simp [marked]
  have hpt : marked.hpt = s.hpt := by simp [marked]
  have clock : marked.clock = s.clock := by simp [marked]
  have id : marked.eventId = s.eventId := by rw [State.eventId, State.eventId, hpt]
  have posted : Wrote [(.contactorFault, .node s.eventId, 0, feederMark (some f) * 256 + w.code)] s
      (postContactor f w marked) := by
    unfold postContactor
    rw [id]
    exact postEvent_wrote_on _ _ _ _ _ (by rw [evf]) (by rw [evf]) clock
  refine posted.then_fault .contactorTimeout _ ?_ ?_ ?_ ?_
  · simpa [postContactor] using clock
  · simpa [postContactor] using hpt
  · simp [postContactor, evf]
  · simp [postContactor, evf]

theorem contactorTimeout_sticky (f : Feeder) (w : ContactorCause) (s : State) :
    FaultKind.contactorTimeout.inSet (contactorTimeout f w s).evf.sticky = true := by
  rw [contactorTimeout, reportFault_sticky]
  simp [FaultKind.inSet, FaultKind.bit, FaultKind.code]

/-! ### The welded path (R126, R130) -/

/-- What the end of a welded board's record tells (R126). -/
def weldPosts (s : State) (c : Option ClaimRec) : List (EventKind × Subject × Nat × Nat) :=
  match c with
  | some c => if c.origin = .loss then [(.changeoverFailed, ownClaim s c, 0, 4)] else []
  | none => []

theorem weldEnds_wrote (room : Room s) : Wrote (weldPosts s s.chs.claim) s s.weldEnds := by
  unfold weldPosts State.weldEnds
  cases held : s.chs.claim with
  | none => exact .of_eq rfl
  | some c =>
    dsimp only
    split
    · exact failClaim_wrote held .failed .openFail room
    · exact .of_eq (endClaim_evf .failed room)

theorem weldEnds_queues (held : s.chs.claim = some c) (run : s.hpt.nodeState = .run) (room : s.slc.queue.length < 16) :
    Queued (.release c.serial .failed) s.weldEnds := by
  unfold State.weldEnds
  rw [held]
  dsimp only
  split
  · exact failClaim_queues held .failed .openFail run room
  · exact endClaim_queues held .failed run room

@[simp] theorem weldEnds_frame (s : State) : s.weldEnds.clock = s.clock ∧ s.weldEnds.hpt = s.hpt ∧ s.weldEnds.fpc = s.fpc := by
  unfold State.weldEnds
  split
  · split <;> simp
  · simp

theorem enterIsolated_wrote (w : IsolateCause) (s : State) :
    PostsFirst [(.isolated, .node s.eventId, 0, w.code)] s (enterIsolated w s) :=
  Wrote.first (postEvent_wrote_on ..) (extraCause_tells (Tells.refl _))

/-- Events first, and then those of what follows. -/
theorem Wrote.then_first {l m : List (EventKind × Subject × Nat × Nat)} (h : Wrote l s t) (k : PostsFirst m t u)
    (clock : t.clock = s.clock) : PostsFirst (l ++ m) s u := by
  intro room
  rw [List.length_append] at room
  obtain ⟨ring, lost⟩ := h.written (by omega)
  have later := k (by rw [ring, List.length_append, stamped_length]; omega)
  rw [ring, stamped_congr clock, lost, List.append_assoc] at later
  rw [stamped_append]
  by_cases empty : m = []
  · subst empty
    simpa [stamped] using later
  · exact later

/-- The board welded: ISOLATED, the contactor FAULTY, and all of it told (R126, R130). -/
theorem welded_spec (f : Feeder) (s : State) : let t := welded f s
    Isolates t ∧ (t.chs.feeder f).faulty = true ∧ t.fpc = s.fpc ∧
    FaultKind.contactorTimeout.inSet t.evf.sticky = true ∧
    (Room s → PostsFirst ((.contactorFault, .node s.eventId, 0, feederMark (some f) * 256 + 1)
      :: faultPosts .contactorTimeout s ++ weldPosts s s.chs.claim ++ [(.isolated, .node s.eventId, 0, 3)]) s t) ∧
    (∀ x, s.chs.claim = some x → s.hpt.nodeState = .run → s.slc.queue.length < 16 → Queued (.release x.serial .failed) t) := by
  intro t
  obtain ⟨isolates, faulty⟩ := welded_isolates f s
  have claim : (contactorTimeout f .openTimeout s).chs.claim = s.chs.claim := (contactorTimeout_row f .openTimeout s).2.1
  have hpt : (contactorTimeout f .openTimeout s).hpt = s.hpt := by simp
  have clock : (contactorTimeout f .openTimeout s).clock = s.clock := by simp
  have slc : (contactorTimeout f .openTimeout s).slc = s.slc := by simp
  refine ⟨isolates, faulty, by simp [t], ?_, fun room => ?_, fun x held run room => ?_⟩
  · refine (enterIsolated_tells ?_ : Tells (contactorTimeout f .openTimeout s) _).sticky _ (contactorTimeout_sticky ..)
    split
    · exact .ite (failClaim_tells (Tells.refl _)) (endClaim_tells (Tells.refl _))
    · exact Tells.refl _
  · have ended : Wrote (weldPosts s s.chs.claim) (contactorTimeout f .openTimeout s)
        (contactorTimeout f .openTimeout s).weldEnds := by
      have wrote := weldEnds_wrote (s := contactorTimeout f .openTimeout s) (by rwa [Room, hpt, slc])
      rw [claim] at wrote
      have same : weldPosts (contactorTimeout f .openTimeout s) s.chs.claim = weldPosts s s.chs.claim := by
        simp only [weldPosts, ownClaim, State.eventId, hpt]
      exact same ▸ wrote
    have isolated := enterIsolated_wrote .welded (contactorTimeout f .openTimeout s).weldEnds
    have id : (contactorTimeout f .openTimeout s).weldEnds.eventId = s.eventId := by simp [State.eventId]
    rw [id] at isolated
    exact ((contactorTimeout_wrote f .openTimeout s).trans ended clock).then_first isolated (by simp)
  · exact (weldEnds_queues (claim.trans held) (by rwa [hpt]) (by rwa [slc])).stays rfl (enterIsolated_tells (Tells.refl _))

/-! ### FALLBACK (R124) -/

theorem closure_settles (c : ClaimRec) (s : State) : Settles c.target (some c.target) s (closure c s) := by
  refine Settles.of_start (enterSettled_settles (by simp) rfl) ?_ (by simp) (by simp) (by simp)
  rw [(postEvent_frame ..).2.2.2.2.2.2.1, endClaim_feeder]

theorem fallbackDone_settles (c : ClaimRec) (s : State) :
    Settles (otherFeeder c.target) s.chs.billing s (fallbackDone c s) :=
  Settles.of_start (enterSettled_settles (by simp) (by simp)) (by rw [failClaim_feeder]) (by simp) (by simp) (by simp)

/-- FALLBACK entered, before its source is looked at. -/
def State.fallsBack (s : State) (reason : FailReason) : State := setBoard .fallback (s.withChs { s.chs with
  fallbackReason := reason, deadTimer := none, closeLimit := none })

theorem fallsBack_chs (s : State) (r : FailReason) : (s.fallsBack r).chs = { s.chs with
    state := .fallback, fallbackReason := r, deadTimer := none, closeLimit := none, topupTimer := none } := by
  rw [State.fallsBack, setBoard_chs]
  rfl

@[simp] theorem fallsBack_frame (s : State) (r : FailReason) : (s.fallsBack r).clock = s.clock ∧
    (s.fallsBack r).hpt = s.hpt ∧ (s.fallsBack r).fpc = s.fpc := by
  unfold State.fallsBack
  simp

theorem enterFallback_eq (r : FailReason) (c : ClaimRec) (s : State) :
    let old := otherFeeder c.target
    enterFallback r c s = if s.live old = true ∧ (s.chs.feeder old).faulty = false then
        if closeBlocked old s then blockClose (s.fallsBack r)
        else if s.closed old then fallbackDone c (pulseClose old (s.fallsBack r)) else pulseClose old (s.fallsBack r)
      else fallbackFailed (s.fallsBack r) := by
  intro old
  have feeder : (s.fallsBack r).chs.feeder old = s.chs.feeder old := by
    rw [fallsBack_chs]
    exact feeder_congr rfl rfl old
  have can : usable old (s.fallsBack r) = true ↔ s.live old = true ∧ (s.chs.feeder old).faulty = false := by
    rw [usable, live_core (s := s) (by simp), feeder]
    simp
  have blocked : closeBlocked old (s.fallsBack r) = closeBlocked old s := by
    rw [closeBlocked, closeBlocked, closed_core (s := s) (by simp), pulsing_core (s := s) (by simp)]
  have closed : (pulseClose old (s.fallsBack r)).closed old = s.closed old := by
    rw [pulseClose_closed, closed_core (s := s) (by simp)]
  have entered : enterFallback r c s = if usable old (s.fallsBack r) then
      if closeBlocked old (s.fallsBack r) then blockClose (s.fallsBack r)
      else if (pulseClose old (s.fallsBack r)).closed old then fallbackDone c (pulseClose old (s.fallsBack r))
        else pulseClose old (s.fallsBack r)
      else fallbackFailed (s.fallsBack r) := rfl
  simp only [entered, can, blocked, closed]

/-- FALLBACK does what its rules say (R124). -/
theorem enterFallback_falls (r : FailReason) (c : ClaimRec) (s : State) : FallsBack c r s (enterFallback r c s) := by
  have entered := enterFallback_eq r c s
  dsimp only at entered
  refine ⟨fun live sound free opened => ?_, fun live sound free closed => ?_, fun stopped => ?_⟩
  · rw [entered, if_pos ⟨live, sound⟩, if_neg (not_closeBlocked_iff.mpr free), if_neg (by simp [opened]), pulseClose_chs, fallsBack_chs]
    refine ⟨rfl, rfl, rfl, by simp [State.now], ?_⟩
    rw [pulseClose_pulse]
    simp [State.now]
  · rw [entered, if_pos ⟨live, sound⟩, if_neg (not_closeBlocked_iff.mpr free), if_pos closed]
    have settles := fallbackDone_settles c (pulseClose (otherFeeder c.target) (s.fallsBack r))
    have billing : (pulseClose (otherFeeder c.target) (s.fallsBack r)).chs.billing = s.chs.billing := by
      rw [pulseClose_chs, fallsBack_chs]
    rw [billing] at settles
    refine Settles.of_start_any settles ?_ (by simp) (by simp)
    rw [pulseClose_chs, fallsBack_chs]
    exact congrArg FeederRec.lossWatch (feeder_congr rfl rfl _)
  · rw [entered]
    split
    · rename_i able
      have forbidden : ¬CloseAllowed (otherFeeder c.target) s := stopped.elim (fun dead => by simp [able.1] at dead)
        fun rest => rest.elim (fun faulty => by simp [able.2] at faulty) id
      rw [if_pos (not_not.mp (mt not_closeBlocked_iff.mp forbidden))]
      exact blockClose_isolates _
    · exact fallbackFailed_isolates _

/-- No feeder is marked FAULTY by the entry to FALLBACK. -/
theorem enterFallback_faulty (r : FailReason) (c : ClaimRec) (s : State) (f : Feeder) :
    ((enterFallback r c s).chs.feeder f).faulty = (s.chs.feeder f).faulty := by
  have entered : (s.fallsBack r).chs.feeder f = s.chs.feeder f := by
    rw [fallsBack_chs]
    exact feeder_congr rfl rfl f
  have pulsed : (pulseClose (otherFeeder c.target) (s.fallsBack r)).chs.feeder f = s.chs.feeder f := by
    rw [← entered, pulseClose_chs]
    exact feeder_congr rfl rfl f
  have isolated (w : IsolateCause) (x : State) (same : x.chs.feeder f = s.chs.feeder f) :
      ((enterIsolated w x).chs.feeder f).faulty = (s.chs.feeder f).faulty := by
    rw [← same, ← stopTimers_faulty x.chs f, enterIsolated_chs]
    cases f <;> rfl
  rw [enterFallback_eq]
  repeat' split
  · exact isolated _ _ (by rw [endClaim_feeder, entered])
  · rw [fallbackDone, (enterSettled_feeder ..).1, failClaim_feeder, pulsed]
  · rw [pulsed]
  · exact isolated _ _ (by rw [failClaim_feeder, entered])

/-- FALLBACK may be told of a state that differs where its rules do not look. -/
theorem FallsBack.of_start {r : FailReason} (h : FallsBack c r s t) (clock : s.clock = u.clock) (hpt : s.hpt = u.hpt)
    (fpc : s.fpc = u.fpc) (feeder : s.chs.feeder (otherFeeder c.target) = u.chs.feeder (otherFeeder c.target))
    (claim : s.chs.claim = u.chs.claim) (billing : s.chs.billing = u.chs.billing) : FallsBack c r u t := by
  have live (f : Feeder) : s.live f = u.live f := live_core (congrArg Fpc.core fpc) f
  have closed (f : Feeder) : s.closed f = u.closed f := closed_core (congrArg Fpc.core fpc) f
  have allowed (f : Feeder) : CloseAllowed f s ↔ CloseAllowed f u := closeAllowed_core (congrArg Fpc.core fpc)
  have now : s.now = u.now := congrArg Clock.elapsed clock
  obtain ⟨pulses, done, fails⟩ := h
  rw [live, feeder, closed, allowed] at pulses done
  rw [live, feeder, allowed] at fails
  refine ⟨fun a b c d => ?_, fun a b c d => ?_, fails⟩
  · rw [← claim, ← now]
    exact pulses a b c d
  · rw [← billing]
    exact Settles.of_start_any (done a b c d) (congrArg FeederRec.lossWatch feeder) clock hpt

/-! ### The ends of the limits -/

/-- The open limit stopped. -/
def State.limitEnded (s : State) : State := s.withChs { s.chs with openLimit := none }

theorem exec_openLimit {l : OpenLimit} (board : OnBoard s) (held : s.chs.openLimit = some l) (due : l.deadline ≤ s.now) :
    exec .openLimit s = .next (if s.closed l.feeder then openLimitPassed l.feeder s.limitEnded else s.limitEnded) := by
  have ends : openLimitDue s = some l.feeder := by simp [openLimitDue, held, boardWorks_iff.mpr board, due]
  have run : exec .openLimit s = execOpenLimit s := rfl
  rw [run, execOpenLimit, ends]
  rfl

/-- What is told first may be read off a state that differs in other parts. -/
theorem PostsFirst.of_start {l : List (EventKind × Subject × Nat × Nat)} (h : PostsFirst l s t)
    (evf : s.evf = u.evf) (clock : s.clock = u.clock) : PostsFirst l u t := by
  intro room
  rw [← evf] at room ⊢
  rw [stamped_congr clock.symm]
  exact h room

/-- A planned move whose old feeder did not open (R121). -/
theorem plannedOpenFailed (held : s.chs.claim = some c) (f : Feeder) :
    let t := enterSettled f false (failClaim .failed .openFail (contactorTimeout f .openTimeout s))
    (t.chs.feeder f).faulty = true ∧ Settles f s.chs.billing s t ∧
      FaultKind.contactorTimeout.inSet t.evf.sticky = true ∧
      PostsFirst ((.contactorFault, .node s.eventId, 0, feederMark (some f) * 256 + 1)
        :: faultPosts .contactorTimeout s) s t := by
  have told : Tells (contactorTimeout f .openTimeout s)
      (enterSettled f false (failClaim .failed .openFail (contactorTimeout f .openTimeout s))) :=
    enterSettled_tells (failClaim_tells (Tells.refl _))
  have claim : (contactorTimeout f .openTimeout s).chs.claim = some c :=
    (contactorTimeout_row f .openTimeout s).2.1.trans held
  refine ⟨?_, ?_, told.sticky _ (contactorTimeout_sticky ..), (contactorTimeout_wrote f .openTimeout s).first told⟩
  · rw [(enterSettled_feeder ..).1, failClaim_feeder, contactorTimeout_faulty]
  · have settles := (failClaim_settles claim .failed .openFail (f := f)).1
    rw [contactorTimeout_billing] at settles
    exact Settles.of_start settles (contactorTimeout_lossWatch ..) (by simp) (by simp) (by simp)

theorem exec_deadTimeEnd {due : Nat} (board : OnBoard s) (running : s.chs.deadTimer = some due) (passed : due ≤ s.now)
    (dead : s.chs.state = .dead) (held : s.chs.claim = some c) : exec .deadTimeEnd s =
    .next (let x := s.withChs { s.chs with deadTimer := none }
      if !s.live c.target then enterFallback .targetDead c x
      else if (s.chs.feeder c.target).faulty then enterFallback .closeFail c x else enterClosing c x) := by
  have ends : (s.boardWorks && reached s.now s.chs.deadTimer) = true := by
    simp [boardWorks_iff.mpr board, reached, running, passed]
  refine congrArg Host.Outcome.next ((if_pos ends).trans ?_)
  simp only [State.withChs_chs, dead, held]
  rfl

/-- The close limit stopped. -/
def State.closeEnded (s : State) : State := s.withChs { s.chs with closeLimit := none }

theorem exec_closeLimit {due : Nat} (board : OnBoard s) (running : s.chs.closeLimit = some due) (passed : due ≤ s.now)
    (held : s.chs.claim = some c) : exec .closeLimit s =
    .next (match s.chs.state with
      | .closing => closeFailed c s.closeEnded
      | .fallback => fallbackFailed (contactorTimeout (otherFeeder c.target) .closeTimeout s.closeEnded)
      | _ => s.closeEnded) := by
  have ends : (s.boardWorks && reached s.now s.chs.closeLimit) = true := by
    simp [boardWorks_iff.mpr board, reached, running, passed]
  have ran : exec .closeLimit s = .next (match s.closeEnded.chs.state, s.closeEnded.chs.claim with
      | .closing, some c => closeFailed c s.closeEnded
      | .fallback, some c => fallbackFailed (contactorTimeout (otherFeeder c.target) .closeTimeout s.closeEnded)
      | _, _ => s.closeEnded) := congrArg Host.Outcome.next (if_pos ends)
  have state : s.closeEnded.chs.state = s.chs.state := rfl
  have claim : s.closeEnded.chs.claim = some c := held
  rw [ran, state, claim]
  cases s.chs.state <;> rfl

theorem fallbackFailed_faulty (s : State) (f : Feeder) :
    ((fallbackFailed s).chs.feeder f).faulty = (s.chs.feeder f).faulty := by
  rw [fallbackFailed, enterIsolated_chs, failClaim_chs]
  cases f <;> rfl

/-- The end of the dead time (R122, R123). -/
theorem deadTimeEnd_closes (x : State) (clock : x.clock = s.clock) (hpt : x.hpt = s.hpt) (fpc : x.fpc = s.fpc)
    (claim : x.chs.claim = s.chs.claim) (billing : x.chs.billing = s.chs.billing)
    (watch : (x.chs.feeder c.target).lossWatch = (s.chs.feeder c.target).lossWatch) :
    let t := enterClosing c x
    (CloseAllowed c.target s → s.closed c.target = false → t.chs.state = .closing ∧
      t.chs.claim = s.chs.claim ∧ t.chs.deadTimer = none ∧ t.chs.billing = s.chs.billing ∧
      t.chs.closeLimit = some (s.now + 500 * millisecond) ∧
      t.fpc.pulse c.target = some ⟨.closeLine, s.now + 200 * millisecond⟩) ∧
    (CloseAllowed c.target s → s.closed c.target = true → Settles c.target (some c.target) { s with fpc := t.fpc } t) ∧
    (¬CloseAllowed c.target s → Isolates t ∧ t.fpc = s.fpc) := by
  intro t
  have core := congrArg Fpc.core fpc
  have now : x.now = s.now := congrArg Clock.elapsed clock
  have entered : x.closing.now = s.now := by simp [State.now, clock]
  have allowed : CloseAllowed c.target x ↔ CloseAllowed c.target s := closeAllowed_core core
  have closed : x.closed c.target = s.closed c.target := closed_core core _
  refine ⟨fun free opened => ?_, fun free shut => ?_, fun blocked => ?_⟩
  · have pulsed : t = pulseClose c.target x.closing := enterClosing_pulsed (allowed.mpr free) (closed.trans opened)
    rw [pulsed, pulseClose_pulse, pulseClose_chs, closing_chs, entered]
    exact ⟨rfl, claim, rfl, billing, rfl, rfl⟩
  · have shuts : t = closure c (pulseClose c.target x.closing) := enterClosing_closed (allowed.mpr free) (closed.trans shut)
    rw [shuts]
    refine Settles.of_start_any (closure_settles c _) ?_ (by simp [clock]) (by simp [hpt])
    rw [← watch, pulseClose_chs, closing_chs]
    exact congrArg FeederRec.lossWatch (feeder_congr rfl rfl _)
  · have blocks : t = blockClose x.closing := enterClosing_blocked (mt allowed.mp blocked)
    rw [blocks]
    exact ⟨blockClose_isolates _, by simp [fpc]⟩

/-- Settles O38. -/
theorem contactorLimits : Obligations.ContactorLimits := by
  refine ⟨fun s c l board limit due => ⟨fun opened => ?_, fun closed state held origin => ?_⟩,
    fun s l board limit due closed => ⟨fun c held origin state => ?_, fun free state => ?_⟩,
    fun s c due board running passed dead held => ?_, fun s c due board running passed held => ?_⟩
  · rw [exec_openLimit board limit due, if_neg (by simp [opened])]
    rfl
  · obtain ⟨faulty, settles, sticky, told⟩ := plannedOpenFailed (s := s.limitEnded) held l.feeder
    refine ⟨_, ?_, faulty, Settles.of_start settles rfl rfl rfl rfl, sticky, PostsFirst.of_start told rfl rfl⟩
    rw [exec_openLimit board limit due, if_pos closed]
    unfold openLimitPassed
    have state' : s.limitEnded.chs.state = .opening := state
    have held' : s.limitEnded.chs.claim = some c := held
    rw [state', held']
    exact congrArg Host.Outcome.next (if_pos origin)
  · obtain ⟨isolates, faulty, fpc, sticky, told, queued⟩ := welded_spec l.feeder s.limitEnded
    have held' : s.limitEnded.chs.claim = some c := held
    rw [held'] at told
    refine ⟨_, ?_, isolates, faulty, fpc, sticky,
      fun room => PostsFirst.of_start (told room) rfl rfl, fun x is => queued x (held.trans is)⟩
    rw [exec_openLimit board limit due, if_pos closed]
    unfold openLimitPassed
    rcases state with state | state
    · have state' : s.limitEnded.chs.state = .opening := state
      rw [state', held']
      exact congrArg Host.Outcome.next (if_neg origin)
    · have state' : s.limitEnded.chs.state = .claiming := state
      rw [state', held']
      exact congrArg Host.Outcome.next (if_neg origin)
  · obtain ⟨isolates, faulty, fpc, sticky, told, -⟩ := welded_spec l.feeder s.limitEnded
    have free' : s.limitEnded.chs.claim = none := free
    rw [free'] at told
    refine ⟨_, ?_, isolates, faulty, fpc, sticky,
      fun room => PostsFirst.of_start (told room) rfl rfl, fun x is => nomatch is⟩
    rw [exec_openLimit board limit due, if_pos closed]
    unfold openLimitPassed
    have state' : s.limitEnded.chs.state = .dark := state
    rw [state']
  · let x := s.withChs { s.chs with deadTimer := none }
    have run := exec_deadTimeEnd board running passed dead held
    have same : x.chs.feeder (otherFeeder c.target) = s.chs.feeder (otherFeeder c.target) := feeder_congr rfl rfl _
    have watch : (x.chs.feeder c.target).lossWatch = (s.chs.feeder c.target).lossWatch :=
      congrArg FeederRec.lossWatch (feeder_congr rfl rfl _)
    have falls (r : FailReason) : FallsBack c r s (enterFallback r c x) :=
      FallsBack.of_start (enterFallback_falls r c x) rfl rfl rfl same rfl rfl
    have closes (live : s.live c.target = true) (sound : (s.chs.feeder c.target).faulty = false) :
        exec .deadTimeEnd s = .next (enterClosing c x) := by
      simpa [live, sound] using run
    obtain ⟨pulses, settles, blocks⟩ := deadTimeEnd_closes (s := s) (c := c) x rfl rfl rfl rfl rfl watch
    rw [held] at pulses
    exact ⟨fun live sound free opened => ⟨_, closes live sound, pulses free opened⟩,
      fun live sound free closed => ⟨_, closes live sound, settles free closed⟩,
      fun live sound blocked => ⟨_, closes live sound, blocks blocked⟩,
      fun gone => ⟨_, by simpa [gone] using run, falls .targetDead⟩,
      fun live faulty => ⟨_, by simpa [live, faulty] using run, falls .closeFail⟩⟩
  · have run := exec_closeLimit board running passed held
    have fpc : (contactorTimeout c.target .closeTimeout s.closeEnded).fpc = s.fpc := by simp [State.closeEnded]
    refine ⟨fun state origin => ⟨closeFailed c s.closeEnded, run.trans (by rw [state]), ?_⟩,
      fun state origin => ⟨closeFailed c s.closeEnded, run.trans (by rw [state]), ?_⟩,
      fun state => ⟨_, run.trans (by rw [state]), ?_, fallbackFailed_isolates _, by simp [fallbackFailed, State.closeEnded]⟩⟩
    · have failed : closeFailed c s.closeEnded = enterFallback .closeFail c (contactorTimeout c.target .closeTimeout s.closeEnded) := by
        unfold closeFailed ClaimRec.oldFeeder
        rcases origin with origin | origin <;> simp [origin]
      rw [failed, enterFallback_faulty, contactorTimeout_faulty]
      refine ⟨rfl, FallsBack.of_start (enterFallback_falls ..) (by simp [State.closeEnded]) (by simp [State.closeEnded]) fpc ?_ ?_ ?_⟩
      · exact (contactorTimeout_other ..).trans (feeder_congr rfl rfl _)
      · exact (contactorTimeout_row c.target .closeTimeout s.closeEnded).2.1
      · exact contactorTimeout_billing ..
    · have failed : closeFailed c s.closeEnded =
          enterDark (failClaim .failed .closeFail (contactorTimeout c.target .closeTimeout s.closeEnded)) := by
        simp [closeFailed, ClaimRec.oldFeeder, origin]
      have faulty := contactorTimeout_faulty c.target .closeTimeout s.closeEnded
      rw [failed, enterDark_chs, failClaim_chs]
      refine ⟨?_, rfl, rfl, rfl, rfl, by simp [State.closeEnded]⟩
      rw [← faulty, ← clearReturns_faulty]
      cases c.target <;> rfl
    · rw [fallbackFailed_faulty, contactorTimeout_faulty]

end Sys2Proof.Machine
end

section
/-! Position changes (R111, R112, R121, R123, R124): O39. -/

namespace Sys2Proof.Machine

open Sys2Proof.Claims

variable {s t u : State} {c : ClaimRec}

/-- A change that does not leave both feeders CLOSED is the board state's to take (R112, R121, R123, R124). -/
theorem positionChange_apart (board : OnBoard s) (apart : s.closed .a = false ∨ s.closed .b = false) (f : Feeder)
    (level : Bool) : positionChange f level s = match s.chs.state, s.chs.claim, level with
      | .opening, some c, false => if f = (otherFeeder c.target) then enterDead s else s
      | .closing, some c, true => if f = c.target then closure c s else s
      | .fallback, some c, true => if f = (otherFeeder c.target) then fallbackDone c s else s
      | .claiming, some c, false =>
        if c.origin = .changeover ∧ s.chs.active = some f then uncommandedOpen f s else s
      | .claiming, some c, true => if c.origin = .fromDark then closedByHand f s else s
      | .settled, _, false => if s.chs.active = some f then uncommandedOpen f s else s
      | .topupClaiming, _, false => if s.chs.active = some f then uncommandedOpen f s else s
      | .dark, _, true => closedByHand f s
      | _, _, _ => s := by
  have works : ¬(!s.boardWorks) = true := by simp [boardWorks_iff.mpr board]
  have notBoth : ¬(s.closed .a = true ∧ s.closed .b = true) := by
    rintro ⟨closedA, closedB⟩
    rcases apart with opened | opened <;> simp_all
  exact (if_neg works).trans (if_neg notBoth)

/-! ### Both CLOSED (R111) -/

theorem feedbackConflict_spec (s : State) : let t := feedbackConflict s
    FaultKind.feedbackConflict.inSet t.evf.sticky = true ∧ t.fpc = s.fpc ∧
      PostsFirst (faultPosts .feedbackConflict s) s t ∧ (s.chs.state ≠ .isolated → Isolates t) := by
  intro t
  have told : Tells (reportFault .feedbackConflict [byte s.eventId] s) t :=
    .ite (Tells.refl _) (enterIsolated_tells (endClaim_tells (Tells.refl _)))
  have marked : FaultKind.feedbackConflict.inSet (reportFault .feedbackConflict [byte s.eventId] s).evf.sticky = true := by
    rw [reportFault_sticky]
    simp [FaultKind.inSet, FaultKind.bit, FaultKind.code]
  refine ⟨told.sticky _ marked, by simp [t], (reportFault_wrote ..).first told, fun free => ?_⟩
  have entered : t = enterIsolated .feedbackConflict (endClaim .failed (reportFault .feedbackConflict [byte s.eventId] s)) :=
    if_neg (by simpa using free)
  rw [entered]
  exact enterIsolated_isolates _ (by simp)

/-! ### The target closes, or the old feeder again (R123, R124) -/

theorem shedMask_eq (c : Chs) : c.shedMask = (if c.shed1.isSome then 1 else 0) + (if c.shed2.isSome then 2 else 0) +
    (if c.shed3.isSome then 4 else 0) := by
  unfold Chs.shedMask
  cases c.shed1.isSome <;> cases c.shed2.isSome <;> cases c.shed3.isSome <;> rfl

theorem oldFeeder_mark (c : ClaimRec) : feederMark c.oldFeeder =
    if c.origin = .fromDark ∨ c.origin = .topup then 0 else feederMark (some (otherFeeder c.target)) := by
  unfold ClaimRec.oldFeeder
  cases c.origin <;> rfl

theorem closure_posts (room : Room s) : PostsFirst [(.changeoverDone, ownClaim s c,
    pair16 (c.confirmed.getD 0) ((if s.chs.shed1.isSome then 1 else 0) + (if s.chs.shed2.isSome then 2 else 0) +
      (if s.chs.shed3.isSome then 4 else 0)),
    (if c.origin = .fromDark ∨ c.origin = .topup then 0 else feederMark (some (otherFeeder c.target))) * 256
      + feederMark (some c.target))] s (closure c s) := by
  have evf := endClaim_evf .done room
  have subject : (endClaim .done s).claimSubject c = ownClaim s c := by simp [State.claimSubject, ownClaim, State.eventId]
  have mask : (endClaim .done s).chs.shedMask = s.chs.shedMask := by
    rw [endClaim_chs]
    rfl
  rw [← shedMask_eq, ← oldFeeder_mark, ← mask, ← subject]
  refine Wrote.first ?_ (enterSettled_tells (Tells.refl _))
  exact postEvent_wrote_on _ _ _ _ _ (by rw [evf]) (by rw [evf]) (by simp)

/-! ### Not commanded (R112) -/

theorem postContactor_wrote (f : Feeder) (s : State) :
    Wrote [(.contactorFault, .node s.eventId, 0, feederMark (some f) * 256)] s (postContactor f .uncommandedOpen s) := by
  rw [← Nat.add_zero (feederMark (some f) * 256)]
  exact postEvent_wrote ..

/-- The record of a board whose feeder opened ends (R112). -/
def State.abandoned (s : State) : State :=
  match s.chs.claim with
  | some c => if c.origin = .changeover then failClaim .aborted .uncommandedOpen s else endClaim .aborted s
  | none => s

theorem abandoned_tells (s : State) : Tells s s.abandoned := by
  unfold State.abandoned
  split
  · exact .ite (failClaim_tells (Tells.refl _)) (endClaim_tells (Tells.refl _))
  · exact Tells.refl _

theorem abandoned_chs (s : State) : s.abandoned.chs = { s.chs with claim := none } := by
  unfold State.abandoned
  split
  · split <;> simp
  · rename_i free
    rw [← free]

@[simp] theorem abandoned_fpc (s : State) : s.abandoned.fpc = s.fpc := by
  unfold State.abandoned
  split
  · split <;> simp
  · rfl

theorem uncommandedOpen_eq (f : Feeder) (s : State) :
    uncommandedOpen f s = enterDark (postContactor f .uncommandedOpen s).abandoned := rfl

theorem uncommandedOpen_chs (f : Feeder) (s : State) : (uncommandedOpen f s).chs = { s.chs.clearReturns with
    state := .dark, active := none, billing := none, claim := none, deadTimer := none, closeLimit := none
    topupTimer := none } := by
  rw [uncommandedOpen_eq, enterDark_chs, abandoned_chs, postContactor, (postEvent_frame ..).2.2.2.2.2.2.1]
  rfl

/-- The active feeder opens, not commanded: DARK, and told (R112). -/
theorem uncommandedOpen_spec (f : Feeder) (s : State) : let t := uncommandedOpen f s
    t.chs.state = .dark ∧ t.chs.active = none ∧ t.chs.billing = none ∧ t.chs.claim = none ∧ t.fpc = s.fpc ∧
      (∀ g, (t.chs.feeder g).faulty = (s.chs.feeder g).faulty) ∧
      PostsFirst [(.contactorFault, .node s.eventId, 0, feederMark (some f) * 256)] s t := by
  intro t
  have chs : t.chs = _ := uncommandedOpen_chs f s
  rw [chs]
  refine ⟨rfl, rfl, rfl, rfl, by simp [t, uncommandedOpen_eq, postContactor], fun g => ?_, ?_⟩
  · cases g <;> rfl
  · exact (postContactor_wrote f s).first ((abandoned_tells _).trans (enterDark_tells (Tells.refl _)))

/-- The claim of a board whose feeder opened (R112, R120). -/
theorem uncommandedOpen_claim (held : s.chs.claim = some c) (f : Feeder) : let t := uncommandedOpen f s
    (c.origin = .changeover → Room s → PostsFirst [(.contactorFault, .node s.eventId, 0, feederMark (some f) * 256),
      (.changeoverFailed, ownClaim s c, 0, 7)] s t) ∧
    (s.hpt.nodeState = .run → s.slc.queue.length < 16 → Queued (.release c.serial .aborted) t) := by
  intro t
  let x := postContactor f .uncommandedOpen s
  have slc : x.slc = s.slc := by simp [x, postContactor]
  have hpt : x.hpt = s.hpt := by simp [x, postContactor]
  have clock : x.clock = s.clock := by simp [x, postContactor]
  have claim : x.chs.claim = some c := by simpa [x, postContactor] using held
  have ended : x.abandoned = if c.origin = .changeover then failClaim .aborted .uncommandedOpen x else endClaim .aborted x := by
    unfold State.abandoned
    rw [claim]
  have told : Tells x.abandoned t := enterDark_tells (Tells.refl _)
  refine ⟨fun planned room => ?_, fun run room => ?_⟩
  · have failed := failClaim_wrote claim .aborted .uncommandedOpen (by rwa [Room, hpt, slc])
    have subject : ownClaim x c = ownClaim s c := by simp only [ownClaim, State.eventId, hpt]
    rw [subject] at failed
    rw [if_pos planned] at ended
    exact ((postContactor_wrote f s).trans failed clock).first (ended ▸ told)
  · refine Queued.stays ?_ rfl told
    rw [ended]
    split
    · exact failClaim_queues claim .aborted .uncommandedOpen (by rwa [hpt]) (by rwa [slc])
    · exact endClaim_queues claim .aborted (by rwa [hpt]) (by rwa [slc])

theorem closedByHand_settles (f : Feeder) (s : State) : Settles f (some f) s (closedByHand f s) :=
  endClaim_settles (b := true) .aborted

/-- Settles O39. -/
theorem positionChanges : Obligations.PositionChanges := by
  refine ⟨fun s f level board closedA closedB => ?_, fun s c board apart held => ⟨fun state => ?_, fun state => ?_,
    fun state reason => ?_, fun f active state => ?_, fun f state origin => ?_⟩,
    fun s f board apart free => ⟨fun state active => ?_, fun state => ?_⟩⟩
  · have both : positionChange f level s = feedbackConflict s := by
      unfold positionChange
      rw [if_neg (by simp [boardWorks_iff.mpr board]), if_pos ⟨closedA, closedB⟩]
    rw [both]
    exact feedbackConflict_spec s
  · have moved : positionChange (otherFeeder c.target) false s = enterDead s := by
      rw [positionChange_apart board apart, state, held]
      exact if_pos rfl
    rw [moved, enterDead_chs]
  · have moved : positionChange c.target true s = closure c s := by
      rw [positionChange_apart board apart, state, held]
      exact if_pos rfl
    rw [moved]
    exact ⟨closure_settles c s, closure_posts⟩
  · have moved : positionChange (otherFeeder c.target) true s = fallbackDone c s := by
      rw [positionChange_apart board apart, state, held]
      exact if_pos rfl
    have code : s.chs.fallbackReason.code = if s.chs.fallbackReason = .closeFail then 5 else 6 := by
      rcases reason with reason | reason <;> rw [reason] <;> rfl
    rw [moved, ← code]
    exact failClaim_settles held .failed s.chs.fallbackReason
  · have moved : positionChange f false s = uncommandedOpen f s := by
      rw [positionChange_apart board apart]
      rcases state with ⟨state, origin⟩ | state
      · rw [state, held]
        exact if_pos ⟨origin, active⟩
      · rw [state]
        exact if_pos active
    obtain ⟨dark, inactive, unbilled, ended, fpc, faulty, told⟩ := uncommandedOpen_spec f s
    obtain ⟨fails, queues⟩ := uncommandedOpen_claim held f
    rw [moved]
    exact ⟨dark, inactive, unbilled, ended, fpc, faulty, told, fails, queues⟩
  · have moved : positionChange f true s = closedByHand f s := by
      rw [positionChange_apart board apart, state, held]
      exact if_pos origin
    rw [moved]
    exact ⟨closedByHand_settles f s, fun run room =>
      (endClaim_queues held .aborted run room).stays rfl (enterSettled_tells (Tells.refl _))⟩
  · have moved : positionChange f false s = uncommandedOpen f s := by
      rw [positionChange_apart board apart, state]
      exact if_pos active
    obtain ⟨dark, inactive, unbilled, -, fpc, faulty, told⟩ := uncommandedOpen_spec f s
    rw [moved]
    exact ⟨dark, inactive, unbilled, fpc, faulty, told⟩
  · have moved : positionChange f true s = closedByHand f s := by
      rw [positionChange_apart board apart, state]
    rw [moved]
    exact closedByHand_settles f s

end Sys2Proof.Machine
end

section
/-! Lost and returning sources, and the top-up (R114, R120, R125 to R127, R129, R130): O40. -/

namespace Sys2Proof.Machine

open Sys2Proof.Claims

variable {s t u : State} {c : ClaimRec}

/-! ### A sample at the board (R114, R130) -/

/-- The state with the sizing snapshot of this sample, where it is due. -/
def State.snapped (s : State) : State :=
  if snapshotDue s then s.withChs { s.chs with snapLoad := s.fpc.sample.p, snapPowers := s.fpc.sample.powers } else s

/-- The loss watches after a sample, but of an ISOLATED board. -/
def State.lossWatched (s : State) : State :=
  if s.chs.state = .isolated then s else
    changeFeeder .a (lossWatchAfter (s.live .a) s.now) (changeFeeder .b (lossWatchAfter (s.live .b) s.now) s)

/-- The return watches after a sample in DARK. -/
def State.returnWatched (s : State) : State :=
  if s.chs.state = .dark then
    changeFeeder .a (returnWatchAfter (s.live .a) s.now) (changeFeeder .b (returnWatchAfter (s.live .b) s.now) s)
  else s

theorem boardSample_eq (board : OnBoard s) : boardSample s = s.snapped.lossWatched.returnWatched :=
  if_neg (by simp [boardWorks_iff.mpr board])

theorem watched_isolated (state : s.chs.state = .isolated) (f : Feeder) : watched f s = s.chs.feeder f := by
  simp [watched, state]

theorem watched_dark (state : s.chs.state = .dark) (f : Feeder) : watched f s =
    returnWatchAfter (s.live f) s.now (lossWatchAfter (s.live f) s.now (s.chs.feeder f)) := by
  cases faulty : (s.chs.feeder f).faulty <;> simp [watched, returnWatchAfter, lossWatchAfter, state, faulty]

theorem watched_other (notIsolated : ¬s.chs.state = .isolated) (notDark : ¬s.chs.state = .dark) (f : Feeder) :
    watched f s = lossWatchAfter (s.live f) s.now (s.chs.feeder f) := by
  simp [watched, lossWatchAfter, notIsolated, notDark]

/-- Both feeder records after the watches of a sample. -/
theorem watches_eq (s : State) : s.lossWatched.returnWatched =
    { s with chs := { s.chs with feederA := watched .a s, feederB := watched .b s } } := by
  by_cases isolated : s.chs.state = .isolated
  · have loss : s.lossWatched = s := if_pos isolated
    rw [loss, watched_isolated isolated, watched_isolated isolated]
    exact if_neg (by simp [isolated])
  · have loss : s.lossWatched =
        changeFeeder .a (lossWatchAfter (s.live .a) s.now) (changeFeeder .b (lossWatchAfter (s.live .b) s.now) s) :=
      if_neg isolated
    rw [loss]
    by_cases dark : s.chs.state = .dark
    · rw [watched_dark dark, watched_dark dark]
      exact if_pos dark
    · rw [watched_other isolated dark, watched_other isolated dark]
      exact if_neg dark

theorem snapped_due (h : (s.chs.state = .settled ∨ s.chs.state = .topupClaiming) ∧ ∃ f, s.chs.active = some f ∧ s.live f = true) :
    s.snapped = s.withChs { s.chs with snapLoad := s.fpc.sample.p, snapPowers := s.fpc.sample.powers } := by
  obtain ⟨state, f, active, live⟩ := h
  refine if_pos ?_
  rcases state with state | state <;> simp [snapshotDue, state, active, live]

theorem snapped_idle (h : ¬((s.chs.state = .settled ∨ s.chs.state = .topupClaiming) ∧ ∃ f, s.chs.active = some f ∧ s.live f = true)) :
    s.snapped = s := by
  refine if_neg fun due => h ?_
  unfold snapshotDue at due
  rw [Bool.and_eq_true, Bool.or_eq_true, decide_eq_true_eq, decide_eq_true_eq] at due
  obtain ⟨state, live⟩ := due
  refine ⟨state, ?_⟩
  split at live
  · rename_i f active
    exact ⟨f, active, live⟩
  · cases live

/-! ### A collection may be told of another state -/

theorem Confirmed.of_start (h : Confirmed c s t) (same : SameShed u s) (billing : s.chs.billing = u.chs.billing)
    (mute : u.hpt.nodeState ≠ .run) : Confirmed c u t := by
  obtain ⟨claim, bills, mtr, shed1, shed2, shed3, -⟩ := h
  obtain ⟨mtr', shed1', shed2', shed3'⟩ := same.shedCapacity c.confirm
  exact ⟨claim, bills.trans billing, mtr.trans mtr', shed1.trans shed1', shed2.trans shed2', shed3.trans shed3',
    fun run => absurd run mute⟩

theorem GoesDead.of_start (h : GoesDead c s t) (same : SameShed u s) (billing : s.chs.billing = u.chs.billing)
    (mute : u.hpt.nodeState ≠ .run) (clock : s.clock = u.clock) : GoesDead c u t := by
  obtain ⟨confirmed, state, active, limit, dead⟩ := h
  refine ⟨Confirmed.of_start confirmed same billing mute, state, active, limit, ?_⟩
  rw [dead, State.now, State.now, State.cfg, State.cfg, clock, same.hpt]

/-! ### A confirmed loss (R125) -/

/-- A state in which the loss of feeder `f` acts as in `s`. -/
structure SameLoss (f : Feeder) (s t : State) : Prop where
  clock : t.clock = s.clock
  fpc : t.fpc = s.fpc
  shed : SameShed s t
  serial : t.chs.serial = s.chs.serial
  billing : t.chs.billing = s.chs.billing
  other : ∃ w, t.chs.feeder (otherFeeder f) = { s.chs.feeder (otherFeeder f) with lossWatch := w }

theorem SameLoss.usable {f : Feeder} (h : SameLoss f s t) : usable (otherFeeder f) (t.opened f) = true ↔
    s.live (otherFeeder f) = true ∧ (s.chs.feeder (otherFeeder f)).faulty = false := by
  obtain ⟨w, other⟩ := h.other
  have live : (t.opened f).live (otherFeeder f) = s.live (otherFeeder f) := by
    have same : s.live (otherFeeder f) = t.live (otherFeeder f) := live_core (congrArg Fpc.core h.fpc.symm) _
    rw [same]
    cases f <;> rfl
  have faulty : ((t.opened f).chs.feeder (otherFeeder f)).faulty = (s.chs.feeder (otherFeeder f)).faulty := by
    have same : (t.opened f).chs.feeder (otherFeeder f) = t.chs.feeder (otherFeeder f) := by
      rw [opened_chs]
      exact feeder_congr rfl rfl _
    rw [same, other]
  rw [Machine.usable, live, faulty]
  simp

theorem SameLoss.record {f : Feeder} (h : SameLoss f s t) : t.lossClaim f = forcedRecord (otherFeeder f) .loss s := by
  obtain ⟨w, other⟩ := h.other
  have group : ((t.opened f).chs.feeder (otherFeeder f)).group = (s.chs.feeder (otherFeeder f)).group := by
    have same : (t.opened f).chs.feeder (otherFeeder f) = t.chs.feeder (otherFeeder f) := by
      rw [opened_chs]
      exact feeder_congr rfl rfl _
    rw [same, other]
  have serial : (t.opened f).chs.serial = s.chs.serial := by rw [opened_chs, ← h.serial]
  have now : (t.opened f).now = s.now := by simp [State.now, h.clock]
  have cfg : t.cfg = s.cfg := by rw [State.cfg, State.cfg, h.shed.hpt]
  rw [State.lossClaim, State.newClaim, group, serial, now, h.shed.load, cfg, requestedKw_eq]
  rfl

theorem claimsOther_sameShed (s : State) (f : Feeder) : SameShed s (s.claimsOther f) := by
  refine ⟨by simp, by simp, ?_, ?_, ?_, ?_, ?_⟩ <;> rw [claimsOther_chs]

theorem SameShed.trans (h : SameShed s t) (k : SameShed t u) : SameShed s u :=
  ⟨k.mtr.trans h.mtr, k.hpt.trans h.hpt, k.load.trans h.load, k.powers.trans h.powers, k.shed1.trans h.shed1,
    k.shed2.trans h.shed2, k.shed3.trans h.shed3⟩

/-- The forced changeover away from feeder `f`, begun in a state that differs where its rules do not look (R125 to
R127). -/
theorem forcedChangeover_spec {f : Feeder} (h : SameLoss f s u) :
    let t := forcedChangeover f u
    let c := forcedRecord (otherFeeder f) .loss s
    let limit : OpenLimit := ⟨f, s.now + 500 * millisecond⟩
    let usable := s.live (otherFeeder f) = true ∧ (s.chs.feeder (otherFeeder f)).faulty = false
    t.fpc.pulse f = some ⟨.openLine, s.now + 200 * millisecond⟩ ∧ t.chs.active = none ∧
    (s.hpt.nodeState = .run → t.chs.openLimit = some limit) ∧
    (s.hpt.nodeState = .run → usable → t.chs.state = .claiming ∧ t.chs.billing = s.chs.billing ∧ t.chs.claim = some c) ∧
    (s.hpt.nodeState = .mute → usable → CollectionEnds c { s with chs := { s.chs with openLimit := some limit } } t) ∧
    (¬usable → t.chs.state = .dark ∧ t.chs.billing = none ∧ t.chs.claim = u.chs.claim) := by
  intro t c limit able
  have now : u.now = s.now := congrArg Clock.elapsed h.clock
  have hpt : u.hpt = s.hpt := h.shed.hpt
  have can : Machine.usable (otherFeeder f) (u.opened f) = true ↔ able := h.usable
  have pulse : t.fpc.pulse f = some ⟨.openLine, s.now + 200 * millisecond⟩ := by
    rw [← now]
    exact forcedChangeover_pulse f u
  have dark (unable : ¬able) : t = enterDark (u.opened f) := forcedChangeover_dark (mt can.mp unable)
  have claims (run : s.hpt.nodeState ≠ .mute) (ok : able) : t = u.claimsOther f :=
    forcedChangeover_run (can.mpr ok) (by rwa [hpt])
  have muted (mute : s.hpt.nodeState = .mute) (ok : able) : t = leaveForced f (collect c (u.claimsOther f)) ∧
      openPassed (collect c (u.claimsOther f)) = false := by
    rw [show c = u.lossClaim f from h.record.symm]
    exact forcedChangeover_mute (can.mpr ok) (by rwa [hpt])
  have limited : (⟨f, u.now + 500 * millisecond⟩ : OpenLimit) = limit := by rw [now]
  refine ⟨pulse, ?_, fun run => ?_, fun run ok => ?_, fun mute ok => ?_, fun unable => ?_⟩
  · by_cases ok : able
    · by_cases mute : s.hpt.nodeState = .mute
      · obtain ⟨left, soon⟩ := muted mute ok
        rw [left]
        by_cases closed : (collect c (u.claimsOther f)).closed f = true
        · rw [leaveForced_closed closed, soon, if_neg (by simp), setBoard_chs, collect_chs, claimsOther_chs]
        · rw [leaveForced_opened (by simpa using closed), enterDead_chs]
      · rw [claims mute ok, claimsOther_chs]
    · rw [dark ok, enterDark_chs]
  · by_cases ok : able
    · rw [claims (by simp [run]) ok, claimsOther_chs, limited]
    · rw [dark ok, enterDark_chs, opened_chs, limited]
      rfl
  · rw [claims (by simp [run]) ok, claimsOther_chs, h.record]
    exact ⟨rfl, h.billing, rfl⟩
  · have left := (muted mute ok).1
    have target : otherFeeder c.target = f := otherFeeder_other f
    have spec := leaveForced_spec c (u.claimsOther f)
    have notRun : s.hpt.nodeState ≠ .run := by simp [mute]
    let x : State := { s with chs := { s.chs with openLimit := some limit } }
    have same : SameShed x (u.claimsOther f) :=
      SameShed.trans ⟨h.shed.mtr, h.shed.hpt, h.shed.load, h.shed.powers, h.shed.shed1, h.shed.shed2, h.shed.shed3⟩
        (claimsOther_sameShed u f)
    have billing : (u.claimsOther f).chs.billing = x.chs.billing := by
      rw [claimsOther_chs]
      exact h.billing
    have closed : (u.claimsOther f).closed f = x.closed f := by
      have moved : (u.claimsOther f).closed f = (u.opened f).closed f := closed_core (by simp) f
      rw [moved, (driven_other (opened_core u f)).2.2, closed_core (congrArg Fpc.core h.fpc)]
      rfl
    have clock : (u.claimsOther f).clock = x.clock := by simp [h.clock, x]
    have held : (u.claimsOther f).chs.openLimit = x.chs.openLimit := by rw [claimsOther_chs, limited]
    have later : (u.claimsOther f).now = x.now := congrArg Clock.elapsed clock
    dsimp only at spec
    rw [target, ← left, closed, held, later] at spec
    obtain ⟨dead, opening, weld⟩ := spec
    have origin : c.origin = .loss := rfl
    refine ⟨fun is => absurd (origin.symm.trans is) (by decide), fun _ => ?_, fun is => absurd (origin.symm.trans is) (by decide),
      fun is => absurd (origin.symm.trans is) (by decide)⟩
    rw [target]
    refine ⟨fun opened => GoesDead.of_start (dead opened) same billing notRun clock, fun l shut is soon => ?_, weld⟩
    obtain ⟨confirmed, rest⟩ := opening l shut is soon
    exact ⟨Confirmed.of_start confirmed same billing notRun, rest⟩
  · rw [dark unable, enterDark_chs, opened_chs]
    exact ⟨rfl, rfl, rfl⟩

/-- The moment of a feeder's loss watch taken. -/
def State.lossTaken (s : State) (f : Feeder) : State :=
  changeFeeder f (fun r => { r with lossWatch := r.lossWatch.map fun w => { w with taken := true } }) s

theorem exec_sourceLossConfirmed {f : Feeder} {w : LossWatch} (board : OnBoard s)
    (watch : (s.chs.feeder f).lossWatch = some w) (fresh : w.taken = false)
    (due : w.since + s.cfg.lossConfirm * millisecond ≤ s.now) :
    exec (.sourceLossConfirmed f) s = .next (sourceLost f (s.lossTaken f)) := by
  have ends : lossDue f s = true := by simp [lossDue, lossConfirmed, boardWorks_iff.mpr board, watch, fresh, due]
  exact congrArg Host.Outcome.next (if_pos ends)

@[simp] theorem lossTaken_frame (s : State) (f : Feeder) : (s.lossTaken f).clock = s.clock ∧ (s.lossTaken f).slc = s.slc ∧
    (s.lossTaken f).pvt = s.pvt ∧ (s.lossTaken f).setc = s.setc ∧ (s.lossTaken f).fau = s.fau ∧
    (s.lossTaken f).plu = s.plu ∧ (s.lossTaken f).fpc = s.fpc ∧ (s.lossTaken f).mtr = s.mtr ∧
    (s.lossTaken f).bil = s.bil ∧ (s.lossTaken f).hpt = s.hpt ∧ (s.lossTaken f).evf = s.evf ∧
    (s.lossTaken f).pending = s.pending ∧ (s.lossTaken f).choices = s.choices := by
  unfold State.lossTaken
  simp

theorem lossTaken_row (s : State) (f : Feeder) : (s.lossTaken f).chs.state = s.chs.state ∧
    (s.lossTaken f).chs.claim = s.chs.claim ∧ (s.lossTaken f).chs.active = s.chs.active ∧
    (s.lossTaken f).chs.billing = s.chs.billing := by
  cases f <;> exact ⟨rfl, rfl, rfl, rfl⟩

theorem lossTaken_other (s : State) (f : Feeder) :
    (s.lossTaken f).chs.feeder (otherFeeder f) = s.chs.feeder (otherFeeder f) := by
  cases f <;> rfl

theorem lossTaken_sameLoss (s : State) (f : Feeder) : SameLoss f s (s.lossTaken f) := by
  refine ⟨by simp, by simp, ⟨by simp, by simp, ?_, ?_, ?_, ?_, ?_⟩, ?_, (lossTaken_row s f).2.2.2, ⟨_, lossTaken_other s f⟩⟩
  all_goals cases f <;> rfl

theorem endClaim_sameLoss {f : Feeder} (h : SameLoss f s t) (why : ReleaseReason) : SameLoss f s (endClaim why t) := by
  refine ⟨by simp [h.clock], by simp [h.fpc], ?_, ?_, ?_, ?_⟩
  · refine h.shed.trans ⟨by simp, by simp, ?_, ?_, ?_, ?_, ?_⟩ <;> rw [endClaim_chs]
  · rw [endClaim_chs]
    exact h.serial
  · rw [endClaim_chs]
    exact h.billing
  · rw [endClaim_feeder]
    exact h.other

/-- A planned claim becomes forced at the loss of its old feeder (R125). -/
theorem convertClaim_spec (f : Feeder) (c : ClaimRec) (s : State) : let t := convertClaim c f (s.lossTaken f)
    KeepsAllBut [.chs, .fpc] s t ∧ t.fpc.pulse f = some ⟨.openLine, s.now + 200 * millisecond⟩ ∧
      t.chs.state = s.chs.state ∧ t.chs.active = none ∧ t.chs.billing = s.chs.billing ∧
      t.chs.openLimit = some ⟨f, s.now + 500 * millisecond⟩ ∧
      t.chs.claim = some { c with
        kind := .forced, origin := .loss, deadline := min c.deadline (s.now + 1500 * millisecond) } := by
  obtain ⟨state, -, -, billing⟩ := lossTaken_row s f
  have now : (s.lossTaken f).now = s.now := by simp [State.now]
  have later : (pulseOpen f (s.lossTaken f)).now = s.now := by simp [State.now]
  have core : (convertClaim c f (s.lossTaken f)).fpc.core =
      (s.lossTaken f).fpc.core.drive f ⟨.openLine, (s.lossTaken f).now + 200 * millisecond⟩ :=
    askPulse_core f .openLine (s.lossTaken f)
  refine ⟨keepsAllBut_of (by simp [convertClaim]), ?_, ?_⟩
  · rw [← now]
    exact (driven_other core).1
  · unfold convertClaim
    dsimp only
    rw [State.withChs_chs, pulseOpen_chs, now, later]
    exact ⟨state, rfl, billing, rfl, rfl⟩

/-- The target of a claim is lost (R120, R126, R130). -/
theorem targetLost_spec {f : Feeder} (held : s.chs.claim = some c) :
    let x := failClaim .aborted .sourceLost (s.lossTaken f)
    let t := if c.origin = .changeover then enterSettled (otherFeeder f) false x else enterDark x
    (Room s → PostsFirst [(.changeoverFailed, ownClaim s c, 0, 2)] s t) ∧
      (c.origin = .changeover → Settles (otherFeeder f) s.chs.billing s t) ∧
      (c.origin ≠ .changeover → t.chs.state = .dark ∧ t.chs.active = none ∧ t.chs.billing = none ∧
        t.chs.claim = none ∧ t.fpc = s.fpc) := by
  intro x t
  obtain ⟨-, claim, -, billing⟩ := lossTaken_row s f
  refine ⟨fun room => ?_, fun planned => ?_, fun other => ?_⟩
  · have roomy : Room (s.lossTaken f) := by simpa [Room] using room
    have wrote := (failClaim_wrote (claim.trans held) .aborted .sourceLost roomy).of_start (u := s) (by simp) (by simp) (by simp)
    have subject : ownClaim (s.lossTaken f) c = ownClaim s c := by simp [ownClaim, State.eventId]
    rw [subject] at wrote
    exact wrote.first (.ite (enterSettled_tells (Tells.refl _)) (enterDark_tells (Tells.refl _)))
  · have settled : t = enterSettled (otherFeeder f) false x := if_pos planned
    rw [settled, ← billing]
    exact Settles.of_start (failClaim_settles (claim.trans held) .aborted .sourceLost).1
      (congrArg FeederRec.lossWatch (lossTaken_other s f)) (by simp) (by simp) (by simp)
  · have dark : t = enterDark x := if_neg other
    rw [dark, enterDark_chs, failClaim_chs]
    exact ⟨rfl, rfl, rfl, rfl, by simp [x]⟩

/-! ### A source back in DARK (R130) -/

/-- The claim of a return begun. -/
def State.returns (s : State) (f : Feeder) : State :=
  (s.withChs s.chs.clearReturns).claims .claiming f .forced 0 .fromDark (requestedKw s.chs.snapLoad s.cfg.margin)

theorem returns_chs (s : State) (f : Feeder) : (s.returns f).chs = { s.chs.clearReturns with
    state := .claiming, topupTimer := none, serial := (s.chs.serial + 1) % 256
    claim := some (forcedRecord f .fromDark s) } := by
  have record : (s.withChs s.chs.clearReturns).newClaim f .forced 0 .fromDark (requestedKw s.chs.snapLoad s.cfg.margin) =
      forcedRecord f .fromDark s := by
    rw [requestedKw_eq]
    cases f <;> rfl
  rw [State.returns, claims_chs, record]
  rfl

@[simp] theorem returns_frame (s : State) (f : Feeder) : (s.returns f).clock = s.clock ∧ (s.returns f).hpt = s.hpt ∧
    (s.returns f).mtr = s.mtr ∧ (s.returns f).fpc = s.fpc := by
  unfold State.returns State.claims
  simp

theorem returns_watches (s : State) (f g : Feeder) : ((s.returns f).chs.feeder g).returnWatch = none := by
  rw [returns_chs]
  cases g <;> rfl

theorem exec_returnConfirmed {f : Feeder} {since : Nat} (board : OnBoard s) (dark : s.chs.state = .dark)
    (sound : (s.chs.feeder f).faulty = false) (watch : (s.chs.feeder f).returnWatch = some since)
    (due : since + s.cfg.returnConfirm * second ≤ s.now) : exec (.returnConfirmed f) s =
    .next (if s.hpt.nodeState = .mute then confirmClaim (forcedRecord f .fromDark s) (s.returns f) else s.returns f) := by
  have ends : returnDue f s = true := by
    simp [returnDue, boardWorks_iff.mpr board, dark, sound, watch, due, reached]
  have held : (s.returns f).chs.claim = some (forcedRecord f .fromDark s) := by rw [returns_chs]
  have hpt : (s.returns f).hpt = s.hpt := by simp
  have began : beginReturn f s = match (s.returns f).chs.claim with
      | some c => if (s.returns f).hpt.nodeState = .mute then confirmClaim c (s.returns f) else s.returns f
      | none => s.returns f := rfl
  refine congrArg Host.Outcome.next ((if_pos ends).trans ?_)
  rw [began, held, hpt]

/-- The end of a return claim's collection sets no return watch. -/
theorem leaveReturn_watches (h : ∀ g, (s.chs.feeder g).returnWatch = none) (c : ClaimRec) (g : Feeder) :
    ((leaveReturn c s).chs.feeder g).returnWatch = none := by
  have entered : (s.closing.chs.feeder g).returnWatch = none := by
    rw [← h g, closing_chs]
    cases g <;> rfl
  unfold leaveReturn
  split
  · rw [enterClosing_eq]
    repeat' split
    · rw [blockClose, enterIsolated_chs, endClaim_chs]
      cases g <;> rfl
    · exact (enterSettled_feeder ..).2
    · rw [← entered, pulseClose_chs]
      cases g <;> rfl
  · rw [enterDark_chs, failClaim_chs]
    cases g <;> rfl

theorem asked_pos (load margin : Nat) : 0 < asked load margin := by
  unfold asked
  omega

/-- In MUTE the collection of a return claim ends at once, with an empty list (R127, R130). -/
theorem returns_ends (f : Feeder) (mute : s.hpt.nodeState = .mute) :
    CollectionEnds (forcedRecord f .fromDark s) s (confirmClaim (forcedRecord f .fromDark s) (s.returns f)) := by
  have spec := confirmClaim_return (c := forcedRecord f .fromDark s) rfl (s.returns f)
  have core : (s.returns f).fpc.core = s.fpc.core := by simp
  have live : (s.returns f).live f = s.live f := live_core core f
  have closed : (s.returns f).closed f = s.closed f := closed_core core f
  have allowed : CloseAllowed f (s.returns f) ↔ CloseAllowed f s := closeAllowed_core core
  have now : (s.returns f).now = s.now := by simp [State.now]
  have same : SameShed s (s.returns f) := by
    refine ⟨by simp, by simp, ?_, ?_, ?_, ?_, ?_⟩ <;> rw [returns_chs] <;> rfl
  have billing : (s.returns f).chs.billing = s.chs.billing := by
    rw [returns_chs]
    rfl
  have target : (forcedRecord f .fromDark s).target = f := rfl
  dsimp only at spec
  rw [target, live, closed, allowed, now] at spec
  obtain ⟨closes, blocks, dead⟩ := spec
  have origin : (forcedRecord f .fromDark s).origin = .fromDark := rfl
  refine ⟨fun is => absurd (origin.symm.trans is) (by decide), fun is => absurd (origin.symm.trans is) (by decide), fun _ => ?_,
    fun is => absurd (origin.symm.trans is) (by decide)⟩
  rw [target]
  refine ⟨fun a b c => ?_, blocks, fun gone => ?_⟩
  · obtain ⟨confirmed, rest⟩ := closes a b c
    exact ⟨Confirmed.of_start confirmed same billing (by simp [mute]), rest⟩
  · obtain ⟨state, active, unbilled, claim, -⟩ := dead gone
    refine ⟨state, active, unbilled, claim, fun _ covered => absurd covered (Nat.not_le.mpr ?_)⟩
    exact asked_pos s.chs.snapLoad s.cfg.margin

/-! ### The end of the top-up timer (R129) -/

theorem exec_topupTimer {due : Nat} (board : OnBoard s) (running : s.chs.topupTimer = some due) (passed : due ≤ s.now)
    (settled : s.chs.state = .settled) : exec .topupTimer s = .next (topUp s) := by
  refine congrArg Host.Outcome.next (if_pos ?_)
  simp [boardWorks_iff.mpr board, reached, running, passed, settled]

theorem topUp_eq {f : Feeder} {n p : Nat} (active : s.chs.active = some f) (lowest : s.chs.lowestShed = some (n, p)) :
    topUp s = if s.hpt.nodeState = .run then s.claims .topupClaiming f .topup 7 .topup (asked p s.cfg.margin)
      else s.withChs { s.chs with topupTimer := some (s.now + topupTime) } := by
  unfold topUp
  rw [active, lowest]
  dsimp only
  rw [requestedKw_eq]
  rfl

/-- Settles O40. -/
theorem lossReturnAndTopUp : Obligations.LossReturnAndTopUp := by
  refine ⟨fun s => ⟨fun off => ?_, fun board => ⟨fun carries => ?_, fun idle => ?_⟩⟩,
    fun s f w board watch fresh due => ⟨_, exec_sourceLossConfirmed board watch fresh due, fun state active => ?_,
      fun c state held origin target => ?_, fun c state held target => ?_⟩,
    fun s f since board dark sound watch due => ⟨_, exec_returnConfirmed board dark sound watch due, fun g => ?_, fun run => ?_,
      fun mute => ?_⟩, fun s f due n p board running passed settled active lowest => ⟨fun mute => ?_, fun run => ?_⟩⟩
  · have idle : s.boardWorks = false := Bool.eq_false_iff.mpr (mt boardWorks_iff.mp off)
    exact if_pos (by simp [idle])
  · rw [boardSample_eq board, watches_eq, snapped_due carries]
    rfl
  · rw [boardSample_eq board, watches_eq, snapped_idle idle]
  · obtain ⟨state', claim', active', -⟩ := lossTaken_row s f
    have same := lossTaken_sameLoss s f
    rcases state with state | state
    · have lost : sourceLost f (s.lossTaken f) = forcedChangeover f (s.lossTaken f) := by
        unfold sourceLost
        rw [state', state]
        exact if_pos (active'.trans active)
      obtain ⟨pulse, inactive, limit, claims, ends, dark⟩ := forcedChangeover_spec same
      rw [lost]
      refine ⟨pulse, inactive, limit, claims, ends, fun unable => ?_⟩
      obtain ⟨isDark, unbilled, claim⟩ := dark unable
      exact ⟨isDark, unbilled, fun _ => claim.trans claim', fun topup => absurd (state.symm.trans topup) (by decide)⟩
    · have lost : sourceLost f (s.lossTaken f) = forcedChangeover f (endClaim .aborted (s.lossTaken f)) := by
        unfold sourceLost
        rw [state', state]
        exact if_pos (active'.trans active)
      obtain ⟨pulse, inactive, limit, claims, ends, dark⟩ := forcedChangeover_spec (endClaim_sameLoss same .aborted)
      rw [lost]
      refine ⟨pulse, inactive, limit, claims, ends, fun unable => ?_⟩
      obtain ⟨isDark, unbilled, claim⟩ := dark unable
      exact ⟨isDark, unbilled, fun settled => absurd (state.symm.trans settled) (by decide),
        fun _ => claim.trans (by rw [endClaim_chs])⟩
  · obtain ⟨state', claim', -, -⟩ := lossTaken_row s f
    have lost : sourceLost f (s.lossTaken f) = convertClaim c f (s.lossTaken f) := by
      have other : ¬c.target = f := by
        rw [target]
        cases f <;> decide
      unfold sourceLost
      rw [state', state, claim', held]
      exact (if_neg other).trans (if_pos origin)
    obtain ⟨keeps, pulse, isState, rest⟩ := convertClaim_spec f c s
    rw [lost]
    exact ⟨keeps, pulse, isState.trans state, rest⟩
  · obtain ⟨state', claim', -, -⟩ := lossTaken_row s f
    have lost : sourceLost f (s.lossTaken f) = if c.origin = .changeover
        then enterSettled (otherFeeder f) false (failClaim .aborted .sourceLost (s.lossTaken f))
        else enterDark (failClaim .aborted .sourceLost (s.lossTaken f)) := by
      unfold sourceLost
      rw [state', state, claim', held]
      exact if_pos target
    rw [lost]
    exact targetLost_spec held
  · split
    · rw [confirmClaim]
      refine leaveReturn_watches (fun g => ?_) _ g
      rw [← returns_watches s f g, collect_chs]
      cases g <;> rfl
    · exact returns_watches s f g
  · rw [if_neg (by simp [run]), returns_chs]
    exact ⟨rfl, by simp, rfl⟩
  · rw [if_pos mute]
    exact returns_ends f mute
  all_goals
    have low : s.chs.lowestShed = some (n, p) := by
      rcases lowest with ⟨rfl, one⟩ | ⟨rfl, one, two⟩ | ⟨rfl, one, two, three⟩
      · simp [Chs.lowestShed, one]
      · simp [Chs.lowestShed, one, two]
      · simp [Chs.lowestShed, one, two, three]
    have ran := exec_topupTimer board running passed settled
    rw [topUp_eq active low] at ran
  · rw [ran, if_neg (by simp [mute])]
    rfl
  · exact ⟨_, ran.trans (congrArg Host.Outcome.next (if_pos run)), claims_keeps s _ _ _ _ _ _, claims_chs ..⟩

end Sys2Proof.Machine
end

section
/-! A complete frame at the receiver (R4 to R7, R18, R32 to R34): O10. -/

namespace Sys2Proof.Machine

open Sys2Proof.Claims

variable {s t u : State} {c : ClaimRec}

/-! ### Outside RUN nothing is offered (R8, R28) -/

theorem setBoard_quiet (quiet : s.hpt.nodeState ≠ .run) (st : BoardState) :
    (setBoard st s).slc = s.slc ∧ (setBoard st s).pvt = s.pvt := by
  have still : setBoard st s = s.withChs { s.chs with state := st, topupTimer := none } := if_pos quiet
  rw [still]
  exact ⟨rfl, rfl⟩

theorem enterDead_quiet (quiet : s.hpt.nodeState ≠ .run) : (enterDead s).slc = s.slc ∧ (enterDead s).pvt = s.pvt :=
  setBoard_quiet (s := s.withChs { s.chs with
    active := none, openLimit := none, deadTimer := some (s.now + s.cfg.deadTime * millisecond) }) quiet .dead

theorem enterDark_quiet (quiet : s.hpt.nodeState ≠ .run) : (enterDark s).slc = s.slc ∧ (enterDark s).pvt = s.pvt :=
  setBoard_quiet (s := s.withChs { s.chs.clearReturns with
    active := none, billing := none, deadTimer := none, closeLimit := none }) quiet .dark

theorem claimsOther_quiet (quiet : s.hpt.nodeState ≠ .run) (f : Feeder) :
    (s.claimsOther f).slc = s.slc ∧ (s.claimsOther f).pvt = s.pvt := by
  have made (x : State) (h : x.hpt.nodeState ≠ .run) (f : Feeder) (k : ClaimKind) (n : Nat) (o : ClaimOrigin) (kw : Nat) :
      (makeClaim f k n o kw x).slc = x.slc ∧ (makeClaim f k n o kw x).pvt = x.pvt := by
    unfold makeClaim
    dsimp only
    rw [offer_silent _ _ _ (by simpa using h)]
    exact ⟨rfl, rfl⟩
  obtain ⟨slc, pvt⟩ := setBoard_quiet (s := makeClaim (otherFeeder f) .forced 0 .loss
    (requestedKw (s.opened f).chs.snapLoad (s.opened f).cfg.margin) (s.opened f)) (by simpa using quiet) .claiming
  obtain ⟨slc', pvt'⟩ := made (s.opened f) (by simpa using quiet) (otherFeeder f) .forced 0 .loss
    (requestedKw (s.opened f).chs.snapLoad (s.opened f).cfg.margin)
  exact ⟨slc.trans (slc'.trans (by simp)), pvt.trans (pvt'.trans (by simp))⟩

theorem collect_quiet (quiet : s.hpt.nodeState ≠ .run) (c : ClaimRec) :
    (collect c s).slc = s.slc ∧ (collect c s).pvt = s.pvt := by
  have built : (buildConfirm c s).slc = s.slc ∧ (buildConfirm c s).pvt = s.pvt := by
    unfold buildConfirm
    dsimp only
    split
    · exact ⟨rfl, rfl⟩
    · rw [offer_silent _ _ _ (by simpa using quiet)]
      exact ⟨rfl, rfl⟩
  simpa [collect] using built

theorem forcedChangeover_quiet (quiet : s.hpt.nodeState ≠ .run) (f : Feeder) :
    (forcedChangeover f s).slc = s.slc ∧ (forcedChangeover f s).pvt = s.pvt := by
  by_cases can : usable (otherFeeder f) (s.opened f) = true
  · obtain ⟨slc, pvt⟩ := claimsOther_quiet quiet f
    by_cases mute : s.hpt.nodeState = .mute
    · obtain ⟨left, soon⟩ := forcedChangeover_mute can mute
      obtain ⟨slc', pvt'⟩ := collect_quiet (s := s.claimsOther f) (by simpa using quiet) (s.lossClaim f)
      have quiet' : (collect (s.lossClaim f) (s.claimsOther f)).hpt.nodeState ≠ .run := by simpa using quiet
      have left' : (leaveForced f (collect (s.lossClaim f) (s.claimsOther f))).slc =
            (collect (s.lossClaim f) (s.claimsOther f)).slc ∧
          (leaveForced f (collect (s.lossClaim f) (s.claimsOther f))).pvt =
            (collect (s.lossClaim f) (s.claimsOther f)).pvt := by
        by_cases closed : (collect (s.lossClaim f) (s.claimsOther f)).closed f = true
        · rw [leaveForced_closed closed, soon, if_neg (by simp)]
          exact setBoard_quiet quiet' _
        · rw [leaveForced_opened (by simpa using closed)]
          exact enterDead_quiet quiet'
      rw [left]
      exact ⟨left'.1.trans (slc'.trans slc), left'.2.trans (pvt'.trans pvt)⟩
    · rw [forcedChangeover_run can mute]
      exact ⟨slc, pvt⟩
  · rw [forcedChangeover_dark can]
    obtain ⟨slc, pvt⟩ := enterDark_quiet (s := s.opened f) (by simpa using quiet)
    exact ⟨slc.trans (by simp), pvt.trans (by simp)⟩

theorem enterSettled_quiet (quiet : s.hpt.nodeState ≠ .run) (f : Feeder) (b : Bool) :
    (enterSettled f b s).slc = s.slc ∧ (enterSettled f b s).pvt = s.pvt := by
  have settled : (s.settledOn f b).slc = s.slc ∧ (s.settledOn f b).pvt = s.pvt := by
    obtain ⟨slc, pvt⟩ := setBoard_quiet (s := s.withChs { s.chs.clearReturns with
      active := some f, billing := if b then some f else s.chs.billing, deadTimer := none, closeLimit := none }) quiet .settled
    have started (x : State) : (startTopup x).slc = x.slc ∧ (startTopup x).pvt = x.pvt := by simp
    exact ⟨(started _).1.trans slc, (started _).2.trans pvt⟩
  by_cases safe : NotLost f s
  · rwa [enterSettled_safe safe]
  · obtain ⟨slc, pvt⟩ := forcedChangeover_quiet (s := s.settledOn f b) (by simpa using quiet) f
    rw [enterSettled_lost safe]
    exact ⟨slc.trans settled.1, pvt.trans settled.2⟩

theorem endClaim_quiet (quiet : s.hpt.nodeState ≠ .run) (why : ReleaseReason) : (endClaim why s).slc = s.slc := by
  unfold endClaim
  split
  · rfl
  · rw [offer_silent _ _ _ quiet]
    rfl

theorem failClaim_quiet (quiet : s.hpt.nodeState ≠ .run) (why : ReleaseReason) (reason : FailReason) :
    (failClaim why reason s).slc = s.slc := by
  unfold failClaim
  split
  · rfl
  · simpa using endClaim_quiet quiet why

/-! ### MUTE entered (R18) -/

/-- The node in MUTE, before its board ends a planned claim. -/
def State.muted (s : State) : State := { s with
  hpt := { s.hpt with nodeState := .mute }
  slc := s.slc.emptied
  pvt := { s.pvt with extraDue := false }
  plu := { s.plu with headroom := 0 } }

theorem enterMute_eq (s : State) : enterMute s = if s.muted.boardWorks then muteBoard s.muted else s.muted := by
  let x : State := ((s.withHpt { s.hpt with nodeState := .mute }).withSlc s.slc.emptied).withPvt { s.pvt with extraDue := false }
  have silent : offeredHeadroom x = 0 := if_neg fun ⟨_, run, _⟩ => nomatch run
  have same : refreshHeadroom x = s.muted := by
    rw [refreshHeadroom, silent]
    rfl
  have entered : enterMute s = if (refreshHeadroom x).boardWorks then muteBoard (refreshHeadroom x) else refreshHeadroom x := rfl
  rw [entered, same]

/-- The claim that MUTE ends is a planned one that collects (R120). -/
def Planned (s : State) (c : ClaimRec) : Prop :=
  s.hpt.role = some .board ∧ s.chs.state = .claiming ∧ s.chs.claim = some c ∧ c.origin = .changeover

theorem enterMute_idle (h : ∀ c, ¬Planned s c) : enterMute s = s.muted := by
  rw [enterMute_eq]
  split
  · rename_i works
    have role : s.hpt.role = some .board := (boardWorks_iff.mp works).1
    unfold muteBoard
    split
    · rename_i c state held
      exact if_neg fun origin => h c ⟨role, state, held, origin⟩
    · rfl
  · rfl

theorem enterMute_ends (h : Planned s c) :
    enterMute s = enterSettled (otherFeeder c.target) false (failClaim .aborted .muted s.muted) := by
  obtain ⟨role, state, held, origin⟩ := h
  have works : s.muted.boardWorks = true := boardWorks_iff.mpr ⟨role, nofun⟩
  have state' : s.muted.chs.state = .claiming := state
  have held' : s.muted.chs.claim = some c := held
  rw [enterMute_eq, if_pos works, muteBoard, state', held']
  exact if_pos origin

theorem enterMute_parts (s : State) : (enterMute s).hpt = s.muted.hpt ∧ (enterMute s).slc = s.muted.slc ∧
    (enterMute s).pvt = s.muted.pvt ∧ (enterMute s).plu = s.muted.plu ∧ Tells s.muted (enterMute s) := by
  by_cases planned : ∃ c, Planned s c
  · obtain ⟨c, planned⟩ := planned
    have quiet : s.muted.hpt.nodeState ≠ .run := nofun
    have quiet' : (failClaim .aborted .muted s.muted).hpt.nodeState ≠ .run := by simpa using quiet
    obtain ⟨slc, pvt⟩ := enterSettled_quiet quiet' (otherFeeder c.target) false
    rw [enterMute_ends planned]
    exact ⟨by simp, slc.trans (failClaim_quiet quiet ..), pvt.trans (by simp), by simp,
      enterSettled_tells (failClaim_tells (Tells.refl _))⟩
  · rw [enterMute_idle (not_exists.mp planned)]
    exact ⟨rfl, rfl, rfl, rfl, Tells.refl _⟩

/-! ### A STATUS with the own id (R34) -/

/-- The duplicate reported and told. -/
def State.duplicated (s : State) (capture : List Byte) : State :=
  postEvent .dupId (.node s.eventId) 0 0 (reportFault .dupId capture s)

@[simp] theorem duplicated_frame (s : State) (capture : List Byte) :
    (s.duplicated capture).clock = s.clock ∧ (s.duplicated capture).slc = s.slc ∧
    (s.duplicated capture).pvt = s.pvt ∧ (s.duplicated capture).setc = s.setc ∧
    (s.duplicated capture).fau = s.fau ∧ (s.duplicated capture).plu = s.plu ∧
    (s.duplicated capture).chs = s.chs ∧ (s.duplicated capture).fpc = s.fpc ∧
    (s.duplicated capture).mtr = s.mtr ∧ (s.duplicated capture).bil = s.bil ∧
    (s.duplicated capture).hpt = s.hpt ∧ (s.duplicated capture).pending = s.pending ∧
    (s.duplicated capture).choices = s.choices := by
  unfold State.duplicated
  simp

theorem duplicated_wrote (s : State) (capture : List Byte) :
    Wrote (faultPosts .dupId s ++ [(.dupId, .node s.eventId, 0, 0)]) s (s.duplicated capture) :=
  (reportFault_wrote .dupId capture s).trans (postEvent_wrote ..) (by simp)

theorem duplicated_sticky (s : State) (capture : List Byte) :
    FaultKind.dupId.inSet (s.duplicated capture).evf.sticky = true := by
  have told : Tells (reportFault .dupId capture s) (s.duplicated capture) := postEvent_tells (Tells.refl _)
  refine told.sticky _ ?_
  rw [reportFault_sticky]
  simp [FaultKind.inSet, FaultKind.bit, FaultKind.code]

theorem duplicateId_run (run : s.hpt.nodeState = .run) (capture : List Byte) :
    duplicateId capture s = enterMute (s.duplicated capture) := if_pos run

theorem duplicateId_spec (run : s.hpt.nodeState = .run) (capture : List Byte) : let t := duplicateId capture s
    t.hpt = { s.hpt with nodeState := .mute } ∧ t.slc = s.slc.emptied ∧ t.pvt = { s.pvt with extraDue := false } ∧
    t.plu = { s.plu with headroom := 0 } ∧ FaultKind.dupId.inSet t.evf.sticky = true ∧
    PostsFirst (faultPosts .dupId s ++ [(.dupId, .node s.eventId, 0, 0)]) s t ∧
    ((∀ c, ¬Planned s c) → KeepsAllBut [.slc, .evf, .pvt, .plu, .hpt] s t) ∧
    (∀ c, Planned s c → Settles (otherFeeder c.target) s.chs.billing s t ∧
      PostsFirst (faultPosts .dupId s ++ [(.dupId, .node s.eventId, 0, 0), (.changeoverFailed, ownClaim s c, 0, 3)]) s t) := by
  intro t
  have entered : t = enterMute (s.duplicated capture) := duplicateId_run run capture
  obtain ⟨hpt, slc, pvt, plu, told⟩ := enterMute_parts (s.duplicated capture)
  have same (c : ClaimRec) : Planned (s.duplicated capture) c ↔ Planned s c := by simp [Planned]
  have wrote : Wrote (faultPosts .dupId s ++ [(.dupId, .node s.eventId, 0, 0)]) s (s.duplicated capture).muted :=
    (duplicated_wrote s capture).of_end rfl rfl
  rw [entered]
  refine ⟨hpt.trans ?_, slc.trans ?_, pvt.trans ?_, plu.trans ?_, told.sticky _ (duplicated_sticky s capture),
    wrote.first told, fun idle => ?_, fun c planned => ?_⟩
  · simp [State.muted]
  · simp [State.muted]
  · simp [State.muted]
  · simp [State.muted]
  · rw [enterMute_idle fun c => mt (same c).mp (idle c)]
    exact keepsAllBut_of (by simp [State.muted])
  · have held : (s.duplicated capture).muted.chs.claim = some c := by simpa [State.muted] using planned.2.2.1
    obtain ⟨settles, -⟩ := failClaim_settles (f := otherFeeder c.target) held .aborted .muted
    have billing : (s.duplicated capture).muted.chs.billing = s.chs.billing := by simp [State.muted]
    have failed := failClaim_wrote held .aborted .muted (.inl nofun)
    have subject : ownClaim (s.duplicated capture).muted c = ownClaim s c := by
      simp [ownClaim, State.muted, State.eventId]
    rw [billing] at settles
    rw [subject] at failed
    rw [enterMute_ends ((same c).mpr planned)]
    refine ⟨?_, ?_⟩
    · exact Settles.of_cfg settles (by simp [State.muted]) (by simp [State.muted]) (by simp [State.muted, State.cfg])
        (by simp [State.muted])
    · have all := wrote.trans failed (by simp [State.muted])
      rw [List.append_assoc] at all
      exact all.first (enterSettled_tells (Tells.refl _))

/-! ### The receiver (R4 to R7) -/

theorem heard_keeps (lineIdle : Bool) (s : State) : KeepsAllBut [.slc] s (heard lineIdle s) :=
  keepsAllBut_of (by simp [heard])

/-- What is told may be read off a state that differs in other parts. -/
theorem posts_of_start {l : List (EventKind × Subject × Nat × Nat)} (h : Posts l s t) (evf : s.evf = u.evf)
    (clock : s.clock = u.clock) : Posts l u t := by
  intro room
  rw [← evf] at room ⊢
  rw [stamped_congr clock.symm]
  exact h room

theorem frameEnded_eq (lineIdle : Bool) (s : State) : frameEnded lineIdle s = heard lineIdle s := by
  cases lineIdle <;> rfl

theorem refreshPeer_eq (n : Nat) (s : State) : refreshPeer n s = refreshed n s := by
  have one (p : Peer) : (if p.node = n then Peer.refreshed s.stamp p else p) =
      if p.node = n ∧ p.freshness ≠ .lost then { p with lastHeard := s.siteMillis, freshness := .fresh } else p := by
    by_cases known : p.node = n
    · unfold Peer.refreshed
      cases p.freshness <;> simp [known, State.stamp]
    · simp [known]
  simp only [refreshPeer, changePeer, one]
  rfl

theorem takePledge_away (away : ¬OnBoard s) (node board serial kw : Nat) : takePledge node board serial kw s = s := by
  have named : namedClaim board serial s = none := if_neg fun h => away (boardWorks_iff.mp h.1)
  unfold takePledge
  rw [named]

theorem takeRevoke_away (away : ¬OnBoard s) (node board serial a b : Nat) : takeRevoke node board serial a b s = s := by
  have named : namedClaim board serial s = none := if_neg fun h => away (boardWorks_iff.mp h.1)
  unfold takeRevoke
  rw [named]

theorem takeIntent_away (away : ¬Running s) (n g : Nat) (k : IntentKind) (key : Nat) : takeIntent n g k key s = s :=
  if_neg fun h => away (gensetWorks_iff.mp h.1)

/-- A valid bulletin other than a STATUS reaches the block that its kind, the node state and the role name (R7). -/
theorem deliverOther_eq (src : Nat) (b : Bulletin) (capture : List Byte) (s : State) :
    deliverOther src b capture s = reaches src b capture s := by
  by_cases config : s.hpt.nodeState = .config
  · have idle : ¬Running s := fun h => h.2 config
    have off : ¬s.gensetWorks = true := mt gensetWorks_iff.mp idle
    have away : ¬OnBoard s := fun h => h.2 config
    unfold reaches
    rw [if_pos config]
    unfold deliverOther
    split
    · rfl
    · exact takeIntent_away idle ..
    · exact if_neg off
    · exact if_neg off
    · exact if_neg off
    · exact takePledge_away away ..
    · exact takeRevoke_away away ..
  · unfold reaches
    rw [if_neg config]
    by_cases genset : s.hpt.role = some .genset
    · have on : s.gensetWorks = true := gensetWorks_iff.mpr ⟨genset, config⟩
      have away : ¬OnBoard s := fun h => nomatch genset.symm.trans h.1
      rw [genset]
      unfold deliverOther
      cases b with
      | status _ => rfl
      | intent group kind key _ => rfl
      | claim serial group kind cls kw => exact if_pos on
      | confirm serial entries => exact if_pos on
      | release serial why => exact if_pos on
      | pledge board serial kw => exact takePledge_away away ..
      | revoke board serial revoked remaining => exact takeRevoke_away away ..
    · have idle : ¬Running s := fun h => genset h.1
      have off : ¬s.gensetWorks = true := mt gensetWorks_iff.mp idle
      by_cases board : s.hpt.role = some .board
      · rw [board]
        unfold deliverOther
        cases b with
        | status _ => rfl
        | intent group kind key _ => exact takeIntent_away idle ..
        | claim serial group kind cls kw => exact if_neg off
        | confirm serial entries => exact if_neg off
        | release serial why => exact if_neg off
        | pledge board serial kw => rfl
        | revoke board serial revoked remaining => rfl
      · have none : s.hpt.role = none := by
          cases role : s.hpt.role with
          | none => rfl
          | some r => cases r <;> simp_all
        have away : ¬OnBoard s := fun h => board h.1
        rw [none]
        unfold deliverOther
        cases b with
        | status _ => rfl
        | intent group kind key _ => exact takeIntent_away idle ..
        | claim serial group kind cls kw => exact if_neg off
        | confirm serial entries => exact if_neg off
        | release serial why => exact if_neg off
        | pledge board serial kw => exact takePledge_away away ..
        | revoke board serial revoked remaining => exact takeRevoke_away away ..

theorem deliver_other {b : Bulletin} (other : b.isStatus = false) (src : Nat) (capture : List Byte) (s : State) :
    deliver src b capture s = reaches src b capture (refreshed src s) := by
  rw [← deliverOther_eq, ← refreshPeer_eq]
  cases b with
  | status _ => cases other
  | _ => rfl

theorem capture_eq (src kind len : Byte) (payload : List Byte) :
    [src, kind, len] ++ padTo 5 payload = ([src, kind, len] ++ payload ++ List.replicate 5 0).take 8 := by
  simp [padTo]

theorem padTo_capture (src kind len : Byte) (payload : List Byte) :
    padTo 8 ([src, kind, len] ++ padTo 5 payload) = [src, kind, len] ++ padTo 5 payload := by
  have five : (padTo 5 payload).length = 5 := by simp [padTo]
  rw [padTo, List.take_append_of_le_length (by simp [five]), List.take_of_length_le (by simp [five])]

/-- A frame complete at the receiver (R4 to R7). -/
theorem exec_frameReceived {own : Bool} {src kind len : Byte} {rest : List Byte} (lineIdle : Bool)
    (rx : s.slc.rx = .frame own src kind len) (length : rest.length = len.toNat + 2) :
    exec (.frameReceived rest lineIdle) s = .next (if own then heard lineIdle s
      else match checkFrame src kind len (rest.take len.toNat) (rest.drop len.toNat) with
        | .dropped k => reportFault k ([src, kind, len] ++ padTo 5 (rest.take len.toNat)) (heard lineIdle s)
        | .valid b => deliver src.toNat b ([src, kind, len] ++ padTo 5 (rest.take len.toNat)) (heard lineIdle s)) := by
  have run : exec (.frameReceived rest lineIdle) s = .next (frameReceived rest lineIdle s) := rfl
  rw [run, ← frameEnded_eq]
  refine congrArg Host.Outcome.next ?_
  unfold frameReceived
  rw [rx]
  exact if_pos length

/-- Settles O10. -/
theorem framesReceived : Obligations.FramesReceived := by
  intro s own src kind len rest lineIdle rx length u found capture
  have run := exec_frameReceived lineIdle rx length
  have same : [src, kind, len] ++ padTo 5 (rest.take len.toNat) = capture := capture_eq ..
  have padded : padTo 8 capture = capture := same ▸ padTo_capture ..
  rw [same] at run
  cases own with
  | true =>
    exact ⟨u, run, fun _ => rfl, fun _ no => absurd no (by decide), fun _ no => absurd no (by decide),
      fun _ no => absurd no (by decide), fun _ no => absurd no (by decide)⟩
  | false =>
    refine ⟨_, run, nofun, fun k _ is => ?_, fun b _ is other => ?_, fun body _ is notOwn => ?_, fun body _ is isOwn => ?_⟩
    all_goals
      have checked : checkFrame src kind len (rest.take len.toNat) (rest.drop len.toNat) = _ := is
      rw [if_neg (by decide), checked]
      dsimp only
    · refine ⟨keepsAllBut_of (by simp [heard]), reportFault_reports_on k capture rfl rfl rfl, by simp [u], fun empty unmasked => ?_⟩
      rw [reportFault_first (s := heard lineIdle s) capture unmasked (by simp [heard, empty]), padded]
      rfl
    · exact deliver_other other ..
    · have delivered : deliver src.toNat (.status body) capture u = takeStatus src.toNat body u := if_neg notOwn
      rw [delivered]
      refine ⟨rfl, fun unknown room => ?_⟩
      obtain ⟨joins, -, -⟩ := takeStatus_new_spec (s := u) body unknown
      obtain ⟨keeps, posts, pvt⟩ := joins room
      have moved : KeepsAllBut [.slc] s u := heard_keeps lineIdle s
      exact ⟨(moved.mono (by simp)).trans (keeps.mono (by simp)), keeps.slc, pvt, posts_of_start posts rfl rfl⟩
    · have delivered : deliver src.toNat (.status body) capture u = duplicateId capture u := if_pos isOwn
      rw [delivered]
      refine ⟨fun silent => if_neg silent, fun run => ?_⟩
      obtain ⟨hpt, slc, pvt, plu, sticky, told, idle, ends⟩ := duplicateId_spec (s := u) run capture
      have moved : KeepsAllBut [.slc] s u := heard_keeps lineIdle s
      refine ⟨hpt, slc, pvt, plu, sticky, PostsFirst.of_start told rfl rfl, fun none => ?_, fun c planned => ?_⟩
      · exact (moved.mono (by simp)).trans (idle none)
      · obtain ⟨settles, failed⟩ := ends c planned
        exact ⟨Settles.of_start settles rfl rfl rfl rfl, PostsFirst.of_start failed rfl rfl⟩

end Sys2Proof.Machine
end

section
/-! The field port's own events (R136, R144, R148): O44. -/

namespace Sys2Proof.Machine

open Sys2Proof.Claims

variable {s t u : State}

theorem filter_setFilter (f : Fpc) (line : FieldLine) (x : Filter) : (f.setFilter line x).filter line = x ∧
    (∀ other, other ≠ line → (f.setFilter line x).filter other = f.filter other) ∧
    (f.setFilter line x).sample = f.sample ∧ (f.setFilter line x).window = f.window ∧
    (f.setFilter line x).relays = f.relays ∧ (f.setFilter line x).pulseA = f.pulseA ∧
    (f.setFilter line x).pulseB = f.pulseB ∧ (f.setFilter line x).runRequest = f.runRequest ∧
    (f.setFilter line x).loadEnable = f.loadEnable := by
  cases line
  all_goals exact ⟨rfl, fun other => by cases other <;> simp [Fpc.setFilter, Fpc.filter], rfl, rfl, rfl, rfl, rfl, rfl, rfl⟩

theorem setFilter_same (f : Fpc) (line : FieldLine) : f.setFilter line (f.filter line) = f := by cases line <;> rfl

/-- Settles O44. -/
theorem fieldEvents : Obligations.FieldEvents := by
  refine ⟨fun s due => congrArg Host.Outcome.next (if_neg (Nat.not_lt.mpr due)), fun s line level => ⟨fun same => ?_, fun differs => ?_⟩,
    fun s f level stable => ?_, fun s line early => ?_, fun s f p running due => ?_⟩
  · have still : (s.fpc.filter line).rawChange level s.now = s.fpc.filter line := if_pos same
    have run : exec (.rawLevelChange line level) s =
        .next (s.withFpc (s.fpc.setFilter line ((s.fpc.filter line).rawChange level s.now))) := rfl
    rw [run, still, setFilter_same]
    rfl
  · have moved : (s.fpc.filter line).rawChange level s.now =
        ⟨level, (s.fpc.filter line).level, if level = (s.fpc.filter line).level then none else some s.now⟩ := if_neg differs
    refine ⟨_, rfl, keepsAllBut_of (by simp), ?_⟩
    rw [moved]
    exact filter_setFilter ..
  · rw [exec_filteredLevelChange_of_stable stable]
    cases f <;> rfl
  · refine congrArg Host.Outcome.next (if_neg ?_)
    unfold Filter.stable reached
    cases since : (s.fpc.filter line).since with
    | none => simp
    | some d => simpa using early d since
  · have ended : s.fpc.pulseOver f s.now = true := by simp [Fpc.pulseOver, running, reached, due]
    refine ⟨_, congrArg Host.Outcome.next (if_pos ended), keepsAllBut_of (by simp), ?_⟩
    cases f <;> exact ⟨rfl, rfl⟩

end Sys2Proof.Machine
end

section
/-! The front end's answer as R207 lays it out, and the handling of a poll (R136 to R143): O45 and O46. -/

namespace Sys2Proof.Machine

open Sys2Proof.Claims

variable {s t u : State}

/-! ### Numbers in runs of bytes (R206) -/

theorem fieldAt_append {a b c : List Byte} {offset width : Nat} (before : a.length = offset) (here : b.length = width) :
    fieldAt (a ++ (b ++ c)) offset width = ofBytes b := by
  rw [fieldAt, ← before, List.drop_left, ← here, List.take_left]

theorem ofBytes_be16 {n : Nat} (small : n < 65536) : ofBytes (be16 n) = n := by
  simp only [ofBytes, be16, List.foldl_cons, List.foldl_nil, byte_toNat_mod]
  omega

theorem ofBytes_be32 {n : Nat} (small : n < 2 ^ 32) : ofBytes (be32 n) = n := by
  simp only [ofBytes, be32, List.foldl_cons, List.foldl_nil, byte_toNat_mod]
  omega

theorem ofBytes_one (b : Byte) : ofBytes [b] = b.toNat := by simp [ofBytes]

/-- The chunk of one element in a run of chunks of one width. -/
theorem fieldAt_chunk {f : Nat → List Byte} {w : Nat} (one : ∀ n, (f n).length = w) (a c : List Byte) {l : List Nat} {i : Nat}
    (inside : i < l.length) : fieldAt (a ++ ((l.map f).flatten ++ c)) (a.length + w * i) w = ofBytes (f l[i]) := by
  have parts : (l.map f).flatten = ((l.take i).map f).flatten ++ (f l[i] ++ ((l.drop (i + 1)).map f).flatten) := by
    have divided : l = l.take i ++ l[i] :: l.drop (i + 1) := by
      rw [← List.drop_eq_getElem_cons inside, List.take_append_drop]
    calc (l.map f).flatten = ((l.take i ++ l[i] :: l.drop (i + 1)).map f).flatten := by rw [← divided]
      _ = _ := by rw [List.map_append, List.map_cons, List.flatten_append, List.flatten_cons]
  have before : (a ++ ((l.take i).map f).flatten).length = a.length + w * i := by
    rw [List.length_append, flatten_length one, List.length_take, Nat.min_eq_left inside.le]
  rw [parts]
  simp only [List.append_assoc]
  rw [← List.append_assoc]
  exact fieldAt_append before (one _)

/-! ### The answer's layout (R207) -/

section

variable {seq live : Byte} {p setEnergy tank : Nat} {powers energies : List Nat}

/-- The fields of an answer, behind each other. -/
theorem answerBytes_eq : answerBytes seq p powers energies setEnergy tank live =
    [seq] ++ (be16 p ++ ((powers.map be16).flatten ++ ((energies.map be32).flatten ++ (be32 setEnergy ++
      (be32 tank ++ ([live] ++ [-((seq :: be16 p ++ (powers.map be16).flatten ++ (energies.map be32).flatten ++
        be32 setEnergy ++ be32 tank ++ [live]).foldl (· + ·) 0)])))))) := by
  simp [answerBytes]

theorem be16_length (n : Nat) : (be16 n).length = 2 := rfl

theorem be32_length (n : Nat) : (be32 n).length = 4 := rfl

/-- What the receiver reads of an answer (R207). -/
structure Reads (bytes : List Byte) (seq live : Byte) (p setEnergy tank : Nat) (powers energies : List Nat) : Prop where
  length : bytes.length = 109
  sum : byteSum bytes = 0
  seq : answerSeq bytes = seq.toNat
  power : fieldAt bytes 1 2 = p
  powers : ∀ i, i < 16 → fieldAt bytes (3 + 2 * i) 2 = powers.getD i 0
  energies : ∀ i, i < 16 → fieldAt bytes (35 + 4 * i) 4 = energies.getD i 0
  setEnergy : fieldAt bytes 99 4 = setEnergy
  tank : fieldAt bytes 103 4 = tank
  live : fieldAt bytes 107 1 = live.toNat

theorem answerBytes_sum : byteSum (answerBytes seq p powers energies setEnergy tank live) = 0 := by
  unfold answerBytes byteSum
  dsimp only
  rw [List.foldl_append]
  exact add_neg_cancel _

theorem answerBytes_reads (hp : powers.length = 16) (he : energies.length = 16) (smallP : p < 65536)
    (smallSet : setEnergy < 2 ^ 32) (smallTank : tank < 2 ^ 32) (smallPowers : ∀ x ∈ powers, x < 65536)
    (smallEnergies : ∀ x ∈ energies, x < 2 ^ 32) :
    Reads (answerBytes seq p powers energies setEnergy tank live) seq live p setEnergy tank powers energies := by
  have powersLength : ((powers.map be16).flatten).length = 32 := by rw [flatten_length be16_length, hp]
  have energiesLength : ((energies.map be32).flatten).length = 64 := by rw [flatten_length be32_length, he]
  have sum : byteSum (answerBytes seq p powers energies setEnergy tank live) = 0 := answerBytes_sum
  rw [answerBytes_eq] at sum
  rw [answerBytes_eq]
  refine ⟨?_, sum, ?_, ?_, fun i hi => ?_, fun i hi => ?_, ?_, ?_, ?_⟩
  · simp [powersLength, energiesLength, be16_length, be32_length]
  · exact (fieldAt_append (a := []) rfl rfl).trans (ofBytes_one seq)
  · exact (fieldAt_append rfl rfl).trans (ofBytes_be16 smallP)
  · have inside : i < powers.length := hp ▸ hi
    rw [← List.append_assoc]
    refine (fieldAt_chunk be16_length ([seq] ++ be16 p) _ inside).trans ?_
    rw [ofBytes_be16 (smallPowers _ (List.getElem_mem inside)), List.getD_eq_getElem _ _ inside]
  · have inside : i < energies.length := he ▸ hi
    have before : ([seq] ++ be16 p ++ (powers.map be16).flatten).length = 35 := by simp [powersLength, be16_length]
    rw [← List.append_assoc, ← List.append_assoc, ← before]
    refine (fieldAt_chunk be32_length ([seq] ++ be16 p ++ (powers.map be16).flatten) _ inside).trans ?_
    rw [ofBytes_be32 (smallEnergies _ (List.getElem_mem inside)), List.getD_eq_getElem _ _ inside]
  · rw [← List.append_assoc, ← List.append_assoc, ← List.append_assoc]
    refine (fieldAt_append ?_ rfl).trans (ofBytes_be32 smallSet)
    simp [powersLength, energiesLength, be16_length]
  · rw [← List.append_assoc, ← List.append_assoc, ← List.append_assoc, ← List.append_assoc]
    refine (fieldAt_append ?_ rfl).trans (ofBytes_be32 smallTank)
    simp [powersLength, energiesLength, be16_length, be32_length]
  · rw [← List.append_assoc, ← List.append_assoc, ← List.append_assoc, ← List.append_assoc, ← List.append_assoc]
    refine (fieldAt_append ?_ rfl).trans (ofBytes_one live)
    simp [powersLength, energiesLength, be16_length, be32_length]

end

/-! ### The handling of a poll ends (R136, R143) -/

/-- The port with its window closed. -/
def Fpc.closed (f : Fpc) : Fpc := { f with window := none }

theorem endPoll_core (s : State) : (endPoll s).fpc.core = s.fpc.closed.core := by
  have delivered (x : State) : (deliverSample x).fpc.core = x.fpc.core := by simp [deliverSample]
  exact delivered _

/-- Two ports that differ in the relays and the set's lines alone. -/
theorem core_poll {f g : Fpc} (h : f.core = g.core) : f.window = g.window ∧ f.lost = g.lost ∧ f.missCount = g.missCount ∧
    f.misses = g.misses ∧ f.answers = g.answers ∧ f.lastSeq = g.lastSeq ∧ f.nextPoll = g.nextPoll ∧ f.sample = g.sample ∧
    f.channels = g.channels ∧ f.set = g.set ∧ f.setTotal = g.setTotal :=
  ⟨congrArg (·.window) h, congrArg (·.lost) h, congrArg (·.missCount) h, congrArg (·.misses) h, congrArg (·.answers) h,
    congrArg (·.lastSeq) h, congrArg (·.nextPoll) h, congrArg (·.sample) h, congrArg (·.channels) h, congrArg (·.set) h,
    congrArg (·.setTotal) h⟩

theorem endPoll_delivers (h : KeepsAllBut [.fpc, .evf] s t) : Delivers s (endPoll t) := by
  obtain ⟨-, lost, -, -, -, -, -, sample, channels, set', -⟩ := core_poll (endPoll_core t)
  have keeps : KeepsAllBut [.fpc, .evf] t (t.withFpc t.fpc.closed) := keepsAllBut_of (by simp)
  have delivered : endPoll t = deliverSample (t.withFpc t.fpc.closed) := rfl
  exact ⟨t.withFpc t.fpc.closed, h.trans keeps, rfl, sample.symm, lost.symm, channels.symm, set'.symm, delivered⟩

/-! ### A good answer (R139, R142) -/

theorem gapIsOne_iff {last : Option Nat} {seq : Nat} :
    gapIsOne last seq = true ↔ ∃ l, last = some l ∧ (seq + 256 - l) % 256 = 1 := by
  unfold gapIsOne
  cases last <;> simp

theorem getD_range {α : Type} {n i : Nat} (inside : i < n) (f : Nat → α) (d : α) : ((List.range n).map f).getD i d = f i := by
  rw [List.getD_eq_getElem _ _ (by simpa using inside)]
  simp

theorem goodAnswer_fpc (bytes : List Byte) (s : State) :
    (goodAnswer bytes s).fpc = { s.fpc.goodAnswer bytes with lost := false, lostPolls := 0 } := by
  unfold goodAnswer
  dsimp only
  split <;> simp

theorem goodAnswer_keeps (bytes : List Byte) (s : State) : KeepsAllBut [.fpc, .evf] s (goodAnswer bytes s) :=
  keepsAllBut_of (by simp)

theorem goodAnswer_posts (bytes : List Byte) (lost : s.fpc.lost = true) (fits : s.fpc.lostPolls + 1 < 2 ^ 32) :
    Wrote [(.frontEndBack, .node s.eventId, s.fpc.lostPolls + 1, 0)] s (goodAnswer bytes s) := by
  have value : fit32 (s.fpc.lostPolls + 1) = s.fpc.lostPolls + 1 := if_pos fits
  unfold goodAnswer
  dsimp only
  rw [if_pos lost, value]
  exact postEvent_wrote_on ..

section

variable {bytes : List Byte} {seq live : Byte} {p setEnergy tank : Nat} {powers energies : List Nat}

/-- The sample that a good answer gives (R138). -/
theorem answerSample_read (reads : Reads bytes seq live p setEnergy tank powers energies) (hp : powers.length = 16) (f : Fpc) :
    (answerSample f bytes).seq = seq.toNat ∧ (answerSample f bytes).p = p ∧ (answerSample f bytes).powers = powers ∧
    (answerSample f bytes).tank = tank ∧ (answerSample f bytes).liveA = live.getLsbD 0 ∧
    (answerSample f bytes).liveB = live.getLsbD 1 := by
  have lights : byte (fieldAt bytes 107 1) = live := by rw [reads.live, byte, BitVec.ofNat_toNat, BitVec.setWidth_eq]
  refine ⟨reads.seq, reads.power, ?_, reads.tank, congrArg (·.getLsbD 0) lights, congrArg (·.getLsbD 1) lights⟩
  refine List.ext_getElem (by simp [answerSample, hp]) fun i h1 h2 => ?_
  have inside : i < 16 := hp ▸ h2
  have read := reads.powers i inside
  rw [List.getD_eq_getElem _ _ h2] at read
  simpa [answerSample] using read

/-- Each energy settled against its balance, with a gap of 1 alone (R139). -/
theorem settled_read (reads : Reads bytes seq live p setEnergy tank powers energies) (f : Fpc) {i : Nat} (inside : i < 16) :
    let one := ∃ l, f.lastSeq = some l ∧ (seq.toNat + 256 - l) % 256 = 1
    let e := energies.getD i 0
    let b := (f.channels.getD i ⟨0, 0⟩).balance
    (one → (f.goodAnswer bytes).sample.energies.getD i 0 = e - b ∧ (f.goodAnswer bytes).channels.getD i ⟨0, 0⟩ = ⟨0, b - e⟩) ∧
    (¬one → (f.goodAnswer bytes).sample.energies.getD i 0 = e ∧ (f.goodAnswer bytes).channels.getD i ⟨0, 0⟩ = ⟨0, 0⟩) := by
  have energy : (f.goodAnswer bytes).sample.energies.getD i 0 = (settleBalance (gapIsOne f.lastSeq (answerSeq bytes))
      (nth ⟨0, 0⟩ f.channels i).balance (fieldAt bytes (35 + 4 * i) 4)).1 :=
    getD_range inside (fun i => (settleBalance (gapIsOne f.lastSeq (answerSeq bytes)) (nth ⟨0, 0⟩ f.channels i).balance
      (fieldAt bytes (35 + 4 * i) 4)).1) 0
  have balance : (f.goodAnswer bytes).channels.getD i ⟨0, 0⟩ = ⟨0, (settleBalance (gapIsOne f.lastSeq (answerSeq bytes))
      (nth ⟨0, 0⟩ f.channels i).balance (fieldAt bytes (35 + 4 * i) 4)).2⟩ :=
    getD_range inside (fun i => (⟨0, (settleBalance (gapIsOne f.lastSeq (answerSeq bytes)) (nth ⟨0, 0⟩ f.channels i).balance
      (fieldAt bytes (35 + 4 * i) 4)).2⟩ : Estimate)) ⟨0, 0⟩
  intro one e b
  have gap : gapIsOne f.lastSeq (answerSeq bytes) = true ↔ one := by
    rw [reads.seq]
    exact gapIsOne_iff
  rw [energy, balance, reads.energies i inside, settleBalance]
  exact ⟨fun is => by rw [if_pos (gap.mpr is)]; exact ⟨rfl, rfl⟩, fun no => by rw [if_neg (mt gap.mp no)]; exact ⟨rfl, rfl⟩⟩

theorem settledSet_read (reads : Reads bytes seq live p setEnergy tank powers energies) (f : Fpc) :
    let one := ∃ l, f.lastSeq = some l ∧ (seq.toNat + 256 - l) % 256 = 1
    (one → (f.goodAnswer bytes).sample.setEnergy = setEnergy - f.set.balance ∧
      (f.goodAnswer bytes).set = ⟨0, f.set.balance - setEnergy⟩) ∧
    (¬one → (f.goodAnswer bytes).sample.setEnergy = setEnergy ∧ (f.goodAnswer bytes).set = ⟨0, 0⟩) := by
  have energy : (f.goodAnswer bytes).sample.setEnergy = (settleBalance (gapIsOne f.lastSeq (answerSeq bytes))
      f.set.balance (fieldAt bytes 99 4)).1 := rfl
  have balance : (f.goodAnswer bytes).set = ⟨0, (settleBalance (gapIsOne f.lastSeq (answerSeq bytes))
      f.set.balance (fieldAt bytes 99 4)).2⟩ := rfl
  intro one
  have gap : gapIsOne f.lastSeq (answerSeq bytes) = true ↔ one := by
    rw [reads.seq]
    exact gapIsOne_iff
  rw [energy, balance, reads.setEnergy, settleBalance]
  exact ⟨fun is => by rw [if_pos (gap.mpr is)]; exact ⟨rfl, rfl⟩, fun no => by rw [if_neg (mt gap.mp no)]; exact ⟨rfl, rfl⟩⟩

/-- A good answer taken and delivered (R138, R139, R142, R143). -/
theorem takeAnswer_taken (reads : Reads bytes seq live p setEnergy tank powers energies) (hp : powers.length = 16)
    (fresh : s.fpc.lastSeq ≠ some seq.toNat) : Taken seq live p setEnergy tank powers energies s (takeAnswer bytes s) := by
  have good : answerGood s.fpc.lastSeq bytes = true := by
    simp [answerGood, reads.length, reads.sum, reads.seq, fresh, answerLength]
  have took : takeAnswer bytes s = endPoll (goodAnswer bytes s) := congrArg endPoll (if_pos good)
  have core : (takeAnswer bytes s).fpc.core =
      Fpc.core { s.fpc.goodAnswer bytes with lost := false, lostPolls := 0, window := none } := by
    rw [took, endPoll_core, goodAnswer_fpc]
    rfl
  obtain ⟨window, lost, missCount, misses, answers, lastSeq, nextPoll, sample, channels, set', total⟩ := core_poll core
  obtain ⟨isSeq, isP, isPowers, isTank, isA, isB⟩ := answerSample_read reads hp s.fpc
  unfold Taken
  rw [sample, channels, set', total]
  refine ⟨window, lost, missCount, misses, answers, lastSeq.trans (congrArg some reads.seq), nextPoll,
    isSeq, isP, isPowers, isTank, isA, isB, rfl, rfl, rfl, fun i inside => settled_read reads s.fpc inside,
    (settledSet_read reads s.fpc).1, (settledSet_read reads s.fpc).2, fun room => if_pos room, fun lost small => ?_, ?_⟩
  · rw [took]
    exact (goodAnswer_posts bytes lost small).first (endPoll_tells (Tells.refl _))
  · rw [took]
    exact endPoll_delivers (goodAnswer_keeps bytes s)

end

/-! ### What is told does not touch the port -/

theorem postEvent_withFpc (k : EventKind) (a : Subject) (v q : Nat) (f : Fpc) (s : State) :
    postEvent k a v q (s.withFpc f) = (postEvent k a v q s).withFpc f := by
  by_cases room : s.evf.ring.length < 64
  · have moved : postEvent k a v q (s.withFpc f) = _ := if_pos room
    have stood : postEvent k a v q s = _ := if_pos room
    rw [moved, stood]
    rfl
  · have moved : postEvent k a v q (s.withFpc f) = _ := if_neg room
    have stood : postEvent k a v q s = _ := if_neg room
    rw [moved, stood]
    rfl

theorem reportFault_withFpc (k : FaultKind) (c : List Byte) (f : Fpc) (s : State) :
    reportFault k c (s.withFpc f) = (reportFault k c s).withFpc f := by
  have told : (s.withFpc f).faulted k = (s.faulted k).withFpc f :=
    postEvent_withFpc .fault (.node s.eventId) (if s.evf.first.kind.isNone then 1 else 0) k.code f (s.marked k)
  by_cases masked : k.inSet s.evf.mask = true
  · rw [reportFault_masked c masked, reportFault_masked (s := s.withFpc f) c masked]
    rfl
  · rw [Bool.not_eq_true] at masked
    by_cases empty : s.evf.first.kind.isNone = true
    · rw [reportFault_first c masked empty, reportFault_first (s := s.withFpc f) c masked empty, told]
      rfl
    · rw [reportFault_later c masked empty, reportFault_later (s := s.withFpc f) c masked empty, told]

theorem ite_withFpc {c : Prop} [Decidable c] {a b a' b' : State} {f : Fpc} (one : a = a'.withFpc f) (two : b = b'.withFpc f) :
    (if c then a else b) = (if c then a' else b').withFpc f := by
  rw [one, two]
  split <;> rfl

/-- The end of LOST told (R142). -/
def State.toldBack (s : State) : State :=
  if s.fpc.lost then postEvent .frontEndBack (.node s.eventId) (fit32 (s.fpc.lostPolls + 1)) 0 s else s

theorem goodAnswer_eq (bytes : List Byte) (s : State) : goodAnswer bytes s =
    s.toldBack.withFpc { s.fpc.goodAnswer bytes with lost := false, lostPolls := 0 } := by
  have answered : goodAnswer bytes s = if s.fpc.lost
      then postEvent .frontEndBack (.node s.eventId) (fit32 (s.fpc.lostPolls + 1)) 0
        (s.withFpc { s.fpc.goodAnswer bytes with lost := false, lostPolls := 0 })
      else s.withFpc { s.fpc.goodAnswer bytes with lost := false, lostPolls := 0 } := rfl
  rw [answered, postEvent_withFpc, State.toldBack]
  split <;> rfl

/-! ### A miss (R140, R141) -/

/-- The miss counted (R140). -/
def Fpc.missCounted (f : Fpc) : Fpc := { f with missCount := min (f.missCount + 1) 5, misses := sat32 (f.misses + 1) }

/-- The energies of the miss formed (R140). -/
def Fpc.missFormed (f : Fpc) : Fpc := if f.lost then f.missCounted.silent else f.missCounted.estimated

/-- The miss is the fifth in a row, while NORMAL (R141). -/
def Fpc.fifthMiss (f : Fpc) : Bool := !f.lost && decide (min (f.missCount + 1) 5 = 5)

/-- LOST entered with the fifth miss (R141). -/
def Fpc.missEntered (f : Fpc) : Fpc := if f.fifthMiss then { f.missFormed with lost := true, lostPolls := 0 } else f.missFormed

/-- The port after a miss, its sample marked (R140, R141). -/
def Fpc.missed (f : Fpc) : Fpc := { f.missEntered with sample := { f.missEntered.sample with
  answered := false, estimated := true, lostMark := f.missEntered.lost } }

/-- The fault of a miss reported, while NORMAL (R140). -/
def State.missReported (s : State) (kind : FaultKind) (bytes : List Byte) : State :=
  if s.fpc.lost then s else reportFault kind (byte s.eventId :: bytes.take 7) s

/-- A miss told (R140, R141). -/
def State.missTold (s : State) (kind : FaultKind) (bytes : List Byte) : State :=
  if s.fpc.fifthMiss then postEvent .frontEndLost (.node s.eventId) 0 kind.code (s.missReported kind bytes)
  else s.missReported kind bytes

/-- A miss in its four stages (R140, R141). -/
theorem miss_stages (kind : FaultKind) (bytes : List Byte) (s : State) {counted reported formed entered : State}
    (h1 : counted = s.withFpc s.fpc.missCounted)
    (h2 : reported = if s.fpc.lost then counted else reportFault kind (byte counted.eventId :: bytes.take 7) counted)
    (h3 : formed = reported.withFpc (if s.fpc.lost then reported.fpc.silent else reported.fpc.estimated))
    (h4 : entered = if !s.fpc.lost && decide (formed.fpc.missCount = 5) then
        postEvent .frontEndLost (.node formed.eventId) 0 kind.code (formed.withFpc { formed.fpc with lost := true, lostPolls := 0 })
      else formed) : miss kind bytes s = entered.withFpc { entered.fpc with
        sample := { entered.fpc.sample with answered := false, estimated := true, lostMark := entered.fpc.lost } } := by
  subst h1 h2 h3 h4
  rfl

theorem missFormed_count (f : Fpc) : f.missFormed.missCount = min (f.missCount + 1) 5 := by
  unfold Fpc.missFormed
  split <;> rfl

/-- What is told and what the port becomes do not meet. -/
theorem miss_eq (kind : FaultKind) (bytes : List Byte) (s : State) :
    miss kind bytes s = (s.missTold kind bytes).withFpc s.fpc.missed := by
  have reported : (s.missReported kind bytes).withFpc s.fpc.missCounted = if s.fpc.lost then s.withFpc s.fpc.missCounted
      else reportFault kind (byte (s.withFpc s.fpc.missCounted).eventId :: bytes.take 7) (s.withFpc s.fpc.missCounted) := by
    rw [reportFault_withFpc, State.missReported]
    split <;> rfl
  have hpt : (s.missReported kind bytes).hpt = s.hpt := by
    unfold State.missReported
    split <;> simp
  have id : ((s.missReported kind bytes).withFpc s.fpc.missFormed).eventId = s.eventId := by
    simp only [State.eventId, State.withFpc_hpt, hpt]
  have entered : (s.missTold kind bytes).withFpc s.fpc.missEntered =
      if !s.fpc.lost && decide (((s.missReported kind bytes).withFpc s.fpc.missFormed).fpc.missCount = 5) then
        postEvent .frontEndLost (.node ((s.missReported kind bytes).withFpc s.fpc.missFormed).eventId) 0 kind.code
          (((s.missReported kind bytes).withFpc s.fpc.missFormed).withFpc
            { ((s.missReported kind bytes).withFpc s.fpc.missFormed).fpc with lost := true, lostPolls := 0 })
      else (s.missReported kind bytes).withFpc s.fpc.missFormed := by
    have fifth : (!s.fpc.lost && decide (((s.missReported kind bytes).withFpc s.fpc.missFormed).fpc.missCount = 5)) =
        s.fpc.fifthMiss := by
      rw [Fpc.fifthMiss, State.withFpc_fpc, missFormed_count]
    rw [fifth, id, State.missTold, Fpc.missEntered, postEvent_withFpc, postEvent_withFpc]
    split <;> rfl
  exact miss_stages kind bytes s rfl reported (formed := (s.missReported kind bytes).withFpc s.fpc.missFormed) rfl entered

/-- A miss while NORMAL: the energies estimated, and LOST with the fifth (R140, R141). -/
theorem missed_normal {f : Fpc} (normal : f.lost = false) : f.missed =
    { f.missCounted.estimated with
      lost := decide (min (f.missCount + 1) 5 = 5)
      lostPolls := if min (f.missCount + 1) 5 = 5 then 0 else f.lostPolls
      sample := { f.missCounted.estimated.sample with
        answered := false, estimated := true, lostMark := decide (min (f.missCount + 1) 5 = 5) } } := by
  have formed : f.missFormed = f.missCounted.estimated := if_neg (by simp [normal])
  by_cases fifth : min (f.missCount + 1) 5 = 5
  · have entered : f.missEntered = { f.missFormed with lost := true, lostPolls := 0 } :=
      if_pos (by simp [Fpc.fifthMiss, normal, fifth])
    rw [Fpc.missed, entered, formed, if_pos fifth, decide_eq_true fifth]
  · have entered : f.missEntered = f.missFormed := if_neg (by simp [Fpc.fifthMiss, fifth])
    have still : f.missCounted.estimated.lost = false := normal
    rw [Fpc.missed, entered, formed, if_neg fifth, decide_eq_false fifth, still, ← still]
    rfl

/-- A miss while LOST: no energy (R140). -/
theorem missed_lost {f : Fpc} (lost : f.lost = true) : f.missed = { f.missCounted.silent with
    sample := { f.missCounted.silent.sample with answered := false, estimated := true, lostMark := true } } := by
  have entered : f.missEntered = f.missCounted.silent := (if_neg (by simp [Fpc.fifthMiss, lost])).trans (if_pos lost)
  rw [Fpc.missed, entered]
  exact congrArg (fun mark => { f.missCounted.silent with
    sample := { f.missCounted.silent.sample with answered := false, estimated := true, lostMark := mark } }) lost

/-- The energies of a miss while NORMAL (R140). -/
theorem estimated_read (f : Fpc) {i : Nat} (inside : i < 16) :
    let e := f.channels.getD i ⟨0, 0⟩
    let carry := e.carry + f.sample.powers.getD i 0
    f.estimated.sample.energies.getD i 0 = carry / 36 ∧
    f.estimated.channels.getD i ⟨0, 0⟩ = ⟨carry % 36, min (e.balance + carry / 36) (2 ^ 32 - 1)⟩ :=
  ⟨getD_range inside (fun i => (estimate (nth 0 f.sample.powers i) (nth ⟨0, 0⟩ f.channels i)).1) 0,
    getD_range inside (fun i => (estimate (nth 0 f.sample.powers i) (nth ⟨0, 0⟩ f.channels i)).2) ⟨0, 0⟩⟩

theorem silent_energy (i : Nat) : (List.replicate 16 0).getD i 0 = 0 := by
  rw [List.getD_eq_getElem?_getD, List.getElem?_replicate]
  split <;> rfl

theorem reportFault_inSet (k : FaultKind) (c : List Byte) (s : State) : k.inSet (reportFault k c s).evf.sticky = true := by
  rw [reportFault_sticky]
  cases k <;> simp [FaultKind.inSet, FaultKind.bit, FaultKind.code]

/-- What a miss while NORMAL tells (R140, R141). -/
theorem missTold_normal (kind : FaultKind) (bytes : List Byte) (normal : s.fpc.lost = false) :
    kind.inSet (s.missTold kind bytes).evf.sticky = true ∧
    Wrote (faultPosts kind s ++ if min (s.fpc.missCount + 1) 5 = 5 then [(.frontEndLost, .node s.eventId, 0, kind.code)] else [])
      s (s.missTold kind bytes) := by
  have reported : s.missReported kind bytes = reportFault kind (byte s.eventId :: bytes.take 7) s := if_neg (by simp [normal])
  have wrote := reportFault_wrote kind (byte s.eventId :: bytes.take 7) s
  have sticky := reportFault_inSet kind (byte s.eventId :: bytes.take 7) s
  by_cases fifth : min (s.fpc.missCount + 1) 5 = 5
  · have told : s.missTold kind bytes = postEvent .frontEndLost (.node s.eventId) 0 kind.code (s.missReported kind bytes) :=
      if_pos (by simp [Fpc.fifthMiss, normal, fifth])
    rw [told, reported, if_pos fifth]
    exact ⟨(postEvent_tells (Tells.refl _)).sticky kind sticky, wrote.trans (postEvent_wrote ..) (by simp)⟩
  · have told : s.missTold kind bytes = s.missReported kind bytes := if_neg (by simp [Fpc.fifthMiss, fifth])
    rw [told, reported, if_neg fifth, List.append_nil]
    exact ⟨sticky, wrote⟩

theorem missTold_keeps (kind : FaultKind) (bytes : List Byte) (s : State) : KeepsAllBut [.evf] s (s.missTold kind bytes) := by
  have reported : KeepsAllBut [.evf] s (s.missReported kind bytes) := by
    unfold State.missReported
    split
    · exact keepsAllBut_of (by simp)
    · exact keepsAllBut_of (by simp)
  unfold State.missTold
  split
  · exact reported.trans (keepsAllBut_of (by simp))
  · exact reported

/-- A poll missed and delivered (R140, R141, R143). -/
theorem miss_missed (kind : FaultKind) (bytes : List Byte) (s : State) : Missed kind s (endPoll (miss kind bytes s)) := by
  have keeps : KeepsAllBut [.fpc, .evf] s (miss kind bytes s) := by
    rw [miss_eq]
    exact ((missTold_keeps kind bytes s).mono (by simp)).trans (keepsAllBut_of (by simp))
  have core : (endPoll (miss kind bytes s)).fpc.core = s.fpc.missed.closed.core := by
    rw [endPoll_core, miss_eq]
    rfl
  have tells : Tells (s.missTold kind bytes) (endPoll (miss kind bytes s)) := by
    rw [miss_eq]
    exact endPoll_tells (Tells.refl _)
  obtain ⟨window, lost, missCount, misses, answers, lastSeq, -, sample, channels, set', total⟩ := core_poll core
  have delivers := endPoll_delivers keeps
  unfold Missed
  rw [window, lost, missCount, misses, answers, lastSeq, sample, channels, set', total]
  cases was : s.fpc.lost with
  | false =>
    obtain ⟨sticky, wrote⟩ := missTold_normal kind bytes was
    rw [Fpc.closed, missed_normal was]
    exact ⟨rfl, rfl, rfl, (Bool.false_or _).symm, rfl, rfl, rfl, rfl, rfl, rfl, rfl, rfl, rfl, (Bool.false_or _).symm,
      fun _ => ⟨fun i inside => estimated_read s.fpc.missCounted inside, rfl, rfl, tells.sticky kind sticky, wrote.first tells⟩,
      nofun, delivers⟩
  | true =>
    rw [Fpc.closed, missed_lost was]
    refine ⟨rfl, rfl, rfl, was.trans (Bool.true_or _).symm, rfl, rfl, rfl, rfl, rfl, rfl, rfl, rfl, rfl, (Bool.true_or _).symm,
      nofun, fun _ => ⟨fun i => silent_energy i, rfl, rfl, rfl, rfl⟩, delivers⟩

/-! ### The answer clocked in (R136, R137, R207) -/

/-- An answer is taken as its checks say, whatever the window has clocked in. -/
theorem takeAnswer_window (bytes : List Byte) (w : Option Window) (s : State) :
    takeAnswer bytes (s.withFpc { s.fpc with window := w }) = takeAnswer bytes s := by
  by_cases good : answerGood s.fpc.lastSeq bytes = true
  · have here : takeAnswer bytes s = endPoll (goodAnswer bytes s) := congrArg endPoll (if_pos good)
    have there : takeAnswer bytes (s.withFpc { s.fpc with window := w }) =
        endPoll (goodAnswer bytes (s.withFpc { s.fpc with window := w })) := congrArg endPoll (if_pos good)
    have told : (s.withFpc { s.fpc with window := w }).toldBack = s.toldBack.withFpc { s.fpc with window := w } :=
      ite_withFpc (postEvent_withFpc ..) rfl
    rw [here, there, goodAnswer_eq, goodAnswer_eq, told]
    rfl
  · have here : takeAnswer bytes s = endPoll (miss .feBadCheck bytes s) := congrArg endPoll (if_neg good)
    have there : takeAnswer bytes (s.withFpc { s.fpc with window := w }) =
        endPoll (miss .feBadCheck bytes (s.withFpc { s.fpc with window := w })) := congrArg endPoll (if_neg good)
    have reported : (s.withFpc { s.fpc with window := w }).missReported .feBadCheck bytes =
        (s.missReported .feBadCheck bytes).withFpc { s.fpc with window := w } :=
      ite_withFpc rfl (reportFault_withFpc ..)
    have told : (s.withFpc { s.fpc with window := w }).missTold .feBadCheck bytes =
        (s.missTold .feBadCheck bytes).withFpc { s.fpc with window := w } := by
      unfold State.missTold
      rw [reported]
      exact ite_withFpc (postEvent_withFpc ..) rfl
    have port : { s.fpc with window := w }.missed.closed = s.fpc.missed.closed := by
      cases was : s.fpc.lost with
      | false => rw [missed_normal was, missed_normal (f := { s.fpc with window := w }) was]; rfl
      | true => rw [missed_lost was, missed_lost (f := { s.fpc with window := w }) was]; rfl
    rw [here, there, miss_eq, miss_eq, told]
    exact congrArg (fun f => deliverSample ((s.missTold .feBadCheck bytes).withFpc f)) port

theorem exec_frontEndAnswer_ends {w : Window} {bytes : List Byte} {ended : Bool} (opened : s.fpc.window = some w)
    (idle : w.clocked = none) (short : bytes.length ≤ 109) (ends : ended = true ∨ bytes.length = 109) :
    exec (.frontEndAnswer bytes ended) s = .next (takeAnswer bytes s) := by
  have whole : bytes.take answerLength = bytes := List.take_of_length_le short
  have complete : (ended || decide ((bytes.take answerLength).length = answerLength)) = true := by
    rw [whole]
    simpa using ends
  have run : exec (.frontEndAnswer bytes ended) s = .next (readyRises bytes ended s) := rfl
  rw [run, readyRises, opened]
  simp only [idle]
  exact congrArg Host.Outcome.next ((if_pos complete).trans (congrArg (takeAnswer · s) whole))

theorem exec_frontEndAnswer_part {w : Window} {first : List Byte} (opened : s.fpc.window = some w)
    (idle : w.clocked = none) (short : first.length < 109) : exec (.frontEndAnswer first false) s =
      .next (s.withFpc { s.fpc with window := some { w with clocked := some first } }) := by
  have whole : first.take answerLength = first := List.take_of_length_le short.le
  have more : ¬(false || decide ((first.take answerLength).length = answerLength)) = true := by
    rw [whole]
    simpa using short.ne
  have run : exec (.frontEndAnswer first false) s = .next (readyRises first false s) := rfl
  rw [run, readyRises, opened]
  simp only [idle]
  exact congrArg Host.Outcome.next ((if_neg more).trans (congrArg (fun got =>
    s.withFpc { s.fpc with window := Option.some { w with clocked := Option.some got } }) whole))

theorem exec_answerClockedIn {w : Window} {first rest : List Byte} (opened : s.fpc.window = some w)
    (begun : w.clocked = some first) :
    exec (.answerClockedIn rest) s = .next (takeAnswer ((first ++ rest).take answerLength) s) := by
  have run : exec (.answerClockedIn rest) s = .next (clockedIn rest s) := rfl
  rw [run, clockedIn, opened]
  simp only [begun]

/-- Settles O45. -/
theorem goodAnswer_holds : Obligations.GoodAnswer := by
  refine ⟨fun s w seq live p setEnergy tank powers energies opened hp he smallP smallSet smallTank smallPowers smallEnergies
    fresh => ?_, fun s w first rest opened idle short => ?_⟩
  · have reads := answerBytes_reads (seq := seq) (live := live) hp he smallP smallSet smallTank smallPowers smallEnergies
    have taken := takeAnswer_taken reads hp fresh
    refine ⟨fun ended idle => ⟨_, exec_frontEndAnswer_ends opened idle reads.length.le (.inr reads.length), taken⟩,
      fun first rest begun joined => ⟨_, exec_answerClockedIn opened begun, ?_⟩⟩
    rw [joined, List.take_of_length_le reads.length.le]
    exact taken
  · refine ⟨_, exec_frontEndAnswer_part opened idle short, rfl, ?_⟩
    have begun := exec_answerClockedIn (s := s.withFpc { s.fpc with window := some { w with clocked := some first } })
      (rest := rest) rfl rfl
    have run : exec (.frontEndAnswer (first ++ rest) true) s = .next (readyRises (first ++ rest) true s) := rfl
    rw [begun, run, readyRises, opened, takeAnswer_window]
    simp only [idle, Bool.true_or, if_pos]

/-- Settles O46. -/
theorem missesEstimate : Obligations.MissesEstimate := by
  refine ⟨fun s w opened due => ?_, fun s w opened early => ?_, fun s w bytes opened short wrong => ?_, fun s bytes ended shut => ?_⟩
  · have run : exec .answerWindowClose s = .next (closeWindow s) := rfl
    rw [run, closeWindow, opened]
    simp only [if_neg (Nat.not_lt.mpr due)]
    cases w.clocked with
    | none => exact ⟨_, rfl, miss_missed ..⟩
    | some first => exact ⟨_, rfl, miss_missed ..⟩
  · have run : exec .answerWindowClose s = .next (closeWindow s) := rfl
    rw [run, closeWindow, opened]
    simp only [if_pos early]
  · have bad : ¬answerGood s.fpc.lastSeq bytes = true := by
      intro good
      simp only [answerGood, Bool.and_eq_true, decide_eq_true_eq] at good
      obtain ⟨⟨length, sum⟩, fresh⟩ := good
      rcases wrong with wrong | wrong | wrong
      · exact wrong length
      · exact wrong sum
      · refine fresh (wrong.trans (congrArg some ?_))
        cases bytes with
        | nil => rfl
        | cons b rest => exact (ofBytes_one b).symm
    have missed : Missed .feBadCheck s (takeAnswer bytes s) := by
      have took : takeAnswer bytes s = endPoll (miss .feBadCheck bytes s) := congrArg endPoll (if_neg bad)
      rw [took]
      exact miss_missed ..
    refine ⟨fun idle => ⟨_, exec_frontEndAnswer_ends opened idle short (.inl rfl), missed⟩,
      fun first rest begun joined => ⟨_, exec_answerClockedIn opened begun, ?_⟩⟩
    rw [joined, List.take_of_length_le short]
    exact missed
  · have ready : exec (.frontEndAnswer bytes ended) s = .next (readyRises bytes ended s) := rfl
    have clocked : exec (.answerClockedIn bytes) s = .next (clockedIn bytes s) := rfl
    rw [ready, clocked, readyRises, clockedIn, shut]
    exact ⟨rfl, rfl⟩

end Sys2Proof.Machine
end

section
/-! The channel commands (R151 to R154, R156): O47. -/

namespace Sys2Proof.Machine

open Sys2Proof.Claims

variable {s t u x : State}

/-! ### One channel under the relay rule (R153) -/

theorem reasons_eq (c : Channel) :
    c.reasons = (if c.credit then 1 else 0) + (if c.capacity then 2 else 0) + (if c.host then 4 else 0) := by
  unfold Channel.reasons maskNat
  cases c.credit <;> cases c.capacity <;> cases c.host <;> rfl

/-- One channel written, and the relay rule on it. -/
theorem applyRelay_becomes {i : Nat} {c : Channel} (inside : i < 16) (relays : s.fpc.relays.length = 16)
    (own : x.channel i = c) (others : ∀ j, j ≠ i → x.channel j = s.channel j) (shed : c.shed = (s.channel i).shed)
    (fpc : x.fpc = s.fpc) (evf : x.evf = s.evf) (clock : x.clock = s.clock)
    (mtr : x.mtr = { s.mtr with channels := x.mtr.channels, pendings := x.mtr.pendings }) :
    ChannelBecomes i c s (applyRelay i x) ∧ (applyRelay i x).mtr.pendings = x.mtr.pendings := by
  have rest := (applyRelays_mtr [i] x).1
  have mtr' : (applyRelay i x).mtr = { x.mtr with channels := (applyRelay i x).mtr.channels } := rest
  have tariffs : (applyRelay i x).mtr.tariffs = s.mtr.tariffs := by rw [mtr', mtr]
  have levels : (applyRelay i x).mtr.levels = s.mtr.levels := by rw [mtr', mtr]
  have heldCis : (applyRelay i x).mtr.heldCis = s.mtr.heldCis := by rw [mtr', mtr]
  have channel : (applyRelay i x).channel i = { c with shed := relayWanted c } := by
    rw [applyRelay_channel, if_pos rfl, own]
    rfl
  have other (j : Nat) (hj : j ≠ i) : (applyRelay i x).channel j = s.channel j := by
    rw [applyRelay_channel, if_neg hj, others j hj]
  refine ⟨?_, by rw [mtr']⟩
  by_cases settled : relayWanted c = (s.channel i).shed
  · have still : applyRelay i x = x := if_pos (by rw [own, shed]; exact settled)
    refine ⟨channel, other, ?_, fun j => ?_, tariffs, levels, heldCis, fun _ => by rw [still, evf], fun moved => absurd settled moved⟩
    · rw [still, fpc]
    · rw [if_neg (fun h => h.2 settled), still, fpc]
  · have told : (relayWanted c = (x.channel i).shed) = False := by rw [own, shed]; exact eq_false settled
    have moved : applyRelay i x = postEvent .shedChange (.channel i) c.reasons (if relayWanted c then 0 else 1)
        ((changeChannel i (fun c' => { c' with shed := relayWanted c }) x).withFpc
          { x.fpc with relays := adjust (fun _ => relayWanted c) i x.fpc.relays }) := by
      subst own
      exact if_neg (fun h => told.mp h)
    have port : (applyRelay i x).fpc = { s.fpc with relays := adjust (fun _ => relayWanted c) i s.fpc.relays } := by
      rw [moved, ← fpc]
      simp
    refine ⟨channel, other, ?_, fun j => ?_, tariffs, levels, heldCis, fun same => absurd same settled, fun _ => ?_⟩
    · rw [port]
    · have read := nth_adjust false (fun _ => relayWanted c) i j s.fpc.relays
      rw [nth, nth] at read
      rw [port]
      refine read.trans ?_
      by_cases here : j = i
      · rw [if_pos ⟨here.symm, here ▸ relays ▸ inside⟩, if_pos ⟨here, settled⟩]
      · rw [if_neg (fun h => here h.1.symm), if_neg (fun h => here h.1)]
    · rw [moved, ← reasons_eq]
      refine Wrote.posts (Wrote.of_start (postEvent_wrote ..) ?_ ?_ clock)
      · exact congrArg (·.ring) evf
      · exact congrArg (·.lost) evf

/-! ### Pending records reserved and freed (R152, R156) -/

theorem pendingOf_isSome_iff {m : Mtr} {a n : Nat} : (m.pendingOf a n).isSome = true ↔
    ∃ r, some r ∈ m.pendings ∧ r.account = a ∧ r.tariff = n := by
  unfold Mtr.pendingOf
  rw [List.find?_isSome]
  simp [PendingRec.isFor]

theorem mem_freePlaces {m : Mtr} {i : Nat} : i ∈ m.freePlaces ↔ i < m.pendings.length ∧ nth none m.pendings i = none := by
  simp [Mtr.freePlaces]

theorem freePlaces_isEmpty_iff {m : Mtr} : m.freePlaces.isEmpty = true ↔ none ∉ m.pendings := by
  rw [List.isEmpty_iff, List.eq_nil_iff_forall_not_mem]
  constructor
  · intro taken free
    obtain ⟨i, inside, found⟩ := List.mem_iff_getElem.mp free
    refine taken i (mem_freePlaces.mpr ⟨inside, ?_⟩)
    rw [nth, List.getD_eq_getElem _ _ inside, found]
  · intro taken i free
    obtain ⟨inside, empty⟩ := mem_freePlaces.mp free
    rw [nth, List.getD_eq_getElem _ _ inside] at empty
    exact taken (empty ▸ List.getElem_mem inside)

/-- A channel holds its pair alone, and its tariff is a REFERENCE: leaving it may free the pair's record (R152). -/
def State.Leaves (s : State) (i a n : Nat) : Prop :=
  (s.channel i).mapping = some (a, n) ∧ (s.tariff n).isReference = true ∧
    ∀ j, j < 16 → j ≠ i → (s.channel j).mapping ≠ some (a, n)

theorem leavePair_leaves {i a n : Nat} (h : s.Leaves i a n) (r : PendingRec) :
    some r ∈ (leavePair i s).mtr.pendings ↔ some r ∈ s.mtr.pendings ∧ ¬(r.account = a ∧ r.tariff = n ∧ r.energy = 0) := by
  obtain ⟨mapping, reference, alone⟩ := h
  have others : ((List.range 16).any fun j => j != i && decide ((s.channel j).mapping = some (a, n))) = false := by
    rw [List.any_eq_false]
    intro j hj
    simp only [Bool.and_eq_true, bne_iff_ne, decide_eq_true_eq, not_and]
    exact alone j (List.mem_range.mp hj)
  unfold leavePair
  rw [mapping]
  dsimp only
  rw [others, reference]
  simp only [Bool.not_false, Bool.and_self, if_true, State.withMtr_mtr, List.mem_map]
  constructor
  · rintro ⟨p, member, made⟩
    cases p with
    | none => cases made
    | some p =>
      dsimp only at made
      split at made
      · cases made
      · rename_i kept
        cases made
        exact ⟨member, fun ⟨account, tariff, energy⟩ => kept (by simp [PendingRec.isFor, account, tariff, energy])⟩
  · rintro ⟨member, kept⟩
    refine ⟨some r, member, if_neg ?_⟩
    simpa [PendingRec.isFor, and_assoc] using kept

theorem leavePair_stays {i : Nat} (h : ∀ a n, ¬s.Leaves i a n) : leavePair i s = s := by
  unfold leavePair
  split
  · rfl
  · rename_i a n mapping
    dsimp only
    split
    · rename_i goes
      simp only [Bool.and_eq_true, Bool.not_eq_true', List.any_eq_false, bne_iff_ne, decide_eq_true_eq, not_and,
        List.mem_range] at goes
      exact absurd ⟨mapping, goes.1, goes.2⟩ (h a n)
    · rfl

theorem leavePair_mtr (i : Nat) (s : State) :
    (leavePair i s).mtr = { s.mtr with pendings := (leavePair i s).mtr.pendings } := by
  unfold leavePair
  split
  · rfl
  · dsimp only
    split <;> rfl

/-- A record that has energy, or is of another pair than the channel's, stays. -/
theorem leavePair_keeps {i : Nat} {r : PendingRec} (member : some r ∈ s.mtr.pendings)
    (kept : r.energy ≠ 0 ∨ some (r.account, r.tariff) ≠ (s.channel i).mapping) : some r ∈ (leavePair i s).mtr.pendings := by
  by_cases goes : ∃ a n, s.Leaves i a n
  · obtain ⟨a, n, goes⟩ := goes
    refine (leavePair_leaves goes r).mpr ⟨member, fun ⟨account, tariff, energy⟩ => ?_⟩
    rcases kept with kept | kept
    · exact kept energy
    · exact kept (by rw [goes.1, account, tariff])
  · rw [leavePair_stays fun a n h => goes ⟨a, n, h⟩]
    exact member

theorem leavePair_none {i : Nat} (free : none ∈ s.mtr.pendings) : none ∈ (leavePair i s).mtr.pendings := by
  unfold leavePair
  split
  · exact free
  · dsimp only
    split
    · exact List.mem_map.mpr ⟨none, free, rfl⟩
    · exact free

/-- A record that goes leaves a free place. -/
theorem leavePair_frees {i : Nat} {r : PendingRec} (member : some r ∈ s.mtr.pendings)
    (goes : some r ∉ (leavePair i s).mtr.pendings) : none ∈ (leavePair i s).mtr.pendings := by
  unfold leavePair at goes ⊢
  split at goes
  · exact absurd member goes
  · rename_i a n mapping
    dsimp only at goes
    split at goes
    · rename_i may
      dsimp only
      rw [if_pos may]
      refine List.mem_map.mpr ⟨some r, member, if_pos ?_⟩
      by_contra kept
      exact goes (List.mem_map.mpr ⟨some r, member, if_neg kept⟩)
    · exact absurd member goes

theorem reservePending_reserved {a n : Nat} (reserved : (s.mtr.pendingOf a n).isSome = true) : reservePending a n s = s :=
  if_pos reserved

/-- The place that a reservation takes (R156; log entry 8). -/
def State.freePlace (s : State) : Nat := nth 0 s.mtr.freePlaces (Config.pendingPlace s.choices % s.mtr.freePlaces.length)

theorem freePlace_free (room : none ∈ s.mtr.pendings) :
    s.freePlace < s.mtr.pendings.length ∧ nth none s.mtr.pendings s.freePlace = none := by
  have some : s.mtr.freePlaces ≠ [] := fun empty => freePlaces_isEmpty_iff.mp (by rw [empty]; rfl) room
  have inside : Config.pendingPlace s.choices % s.mtr.freePlaces.length < s.mtr.freePlaces.length :=
    Nat.mod_lt _ (List.length_pos_iff.mpr some)
  refine mem_freePlaces.mp ?_
  rw [State.freePlace, nth, List.getD_eq_getElem _ _ inside]
  exact List.getElem_mem inside

theorem adjust_const_mem {α : Type} (d y : α) {i : Nat} {l : List α} (inside : i < l.length) (z : α) (other : z ≠ nth d l i) :
    z ∈ adjust (fun _ => y) i l ↔ z = y ∨ z ∈ l := by
  induction l generalizing i with
  | nil => exact absurd inside (Nat.not_lt_zero i)
  | cons w l ih =>
    cases i with
    | zero =>
      have apart : z ≠ w := other
      simp [adjust, apart]
    | succ i =>
      have rest := ih (Nat.lt_of_succ_lt_succ inside) other
      simp only [adjust, List.mem_cons, rest]
      tauto

/-- A pair's record reserved where there is room: every record stays, and one of the pair alone is new (R156). -/
theorem reservePending_new {a n : Nat} (fresh : (s.mtr.pendingOf a n).isSome = false) (room : none ∈ s.mtr.pendings)
    (r : PendingRec) : some r ∈ (reservePending a n s).mtr.pendings ↔ r = ⟨a, n, 0, 0, []⟩ ∨ some r ∈ s.mtr.pendings := by
  have made : (reservePending a n s).mtr.pendings = adjust (fun _ => some ⟨a, n, 0, 0, []⟩) s.freePlace s.mtr.pendings := by
    rw [reservePending, if_neg (by simp [fresh])]
    rfl
  obtain ⟨inside, free⟩ := freePlace_free room
  rw [made, adjust_const_mem none _ inside _ (by simp [free])]
  simp

theorem reservePending_mtr (a n : Nat) (s : State) :
    (reservePending a n s).mtr = { s.mtr with pendings := (reservePending a n s).mtr.pendings } := by
  unfold reservePending
  split <;> rfl

/-! ### SET_CHANNEL taken (R152) -/

/-- The pending records made ready for a new mapping (R152, steps 1 and 2). -/
def State.repaired (s : State) (i : Nat) : Option (Nat × Nat) → State
  | some (a, n) => if (s.tariff n).isReference then reservePending a n (leavePair i s) else leavePair i s
  | none => leavePair i s

theorem tariff_of_mtr (h : t.mtr.tariffs = s.mtr.tariffs) (n : Nat) : t.tariff n = s.tariff n := by
  rw [State.tariff, State.tariff, h]

theorem leavePair_tariff (i n : Nat) (s : State) : (leavePair i s).tariff n = s.tariff n :=
  tariff_of_mtr (by rw [leavePair_mtr]) n

/-- The channel that SET_CHANNEL writes (R152). -/
def State.remapped (s : State) (i : Nat) (mapping : Option (Nat × Nat)) (level : Nat) (credit : Bool) : Channel :=
  { s.channel i with mapping := mapping, level := level, credit := credit, capacity := s.mtr.levels.get level }

theorem repaired_only (i : Nat) (mapping : Option (Nat × Nat)) (s : State) : let x := s.repaired i mapping
    x.mtr = { s.mtr with pendings := x.mtr.pendings } ∧ x.fpc = s.fpc ∧ x.evf = s.evf ∧ x.clock = s.clock ∧ x.bil = s.bil := by
  have left := leavePair_mtr i s
  cases mapping with
  | none => exact ⟨left, by simp [State.repaired], by simp [State.repaired], by simp [State.repaired], by simp [State.repaired]⟩
  | some pair =>
    obtain ⟨a, n⟩ := pair
    unfold State.repaired
    dsimp only
    split
    · refine ⟨?_, by simp, by simp, by simp, by simp⟩
      rw [reservePending_mtr, left]
    · exact ⟨left, by simp, by simp, by simp, by simp⟩

theorem remapChannel_eq {i level : Nat} {mapping : Option (Nat × Nat)} {credit : Bool}
    (isOver : credit = mapping.any fun m => decide ((s.account m.1).state = .over)) : remapChannel i mapping level s =
      applyRelay i (changeChannel i (fun c => { c with
        mapping := mapping, level := level, credit := credit, capacity := s.mtr.levels.get level }) (s.repaired i mapping)) := by
  obtain ⟨mtr, -, -, -, bil⟩ := repaired_only i mapping s
  have levels : (s.repaired i mapping).mtr.levels = s.mtr.levels := by rw [mtr]
  have account (a : Nat) : (s.repaired i mapping).account a = s.account a := account_of_bil (by rw [bil]) a
  subst isOver
  rw [← levels]
  cases mapping with
  | none => rfl
  | some pair =>
    obtain ⟨a, n⟩ := pair
    have same := leavePair_tariff i n s
    have ready : (if ((leavePair i s).tariff n).isReference = true then reservePending a n (leavePair i s) else leavePair i s) =
        s.repaired i (some (a, n)) := by
      rw [same]
      rfl
    unfold remapChannel
    dsimp only
    rw [ready, account]
    rfl

theorem remapChannel_becomes {i level : Nat} {mapping : Option (Nat × Nat)} {credit : Bool} (inside : i < 16)
    (channels : s.mtr.channels.length = 16) (relays : s.fpc.relays.length = 16)
    (isOver : credit = mapping.any fun m => decide ((s.account m.1).state = .over)) :
    ChannelBecomes i (s.remapped i mapping level credit) s (remapChannel i mapping level s) ∧
    (remapChannel i mapping level s).mtr.pendings = (s.repaired i mapping).mtr.pendings := by
  obtain ⟨mtr, fpc, evf, clock, -⟩ := repaired_only i mapping s
  have length : (s.repaired i mapping).mtr.channels.length = 16 := by rw [mtr]; exact channels
  have channel (j : Nat) : (s.repaired i mapping).channel j = s.channel j := channel_of_mtr (by rw [mtr]) j
  rw [remapChannel_eq isOver]
  refine applyRelay_becomes inside relays ?_ (fun j hj => ?_) rfl fpc evf clock ?_
  · rw [channel_changeChannel, if_pos ⟨rfl, length ▸ inside⟩, channel]
    rfl
  · rw [channel_changeChannel, if_neg (fun h => hj h.1.symm), channel]
  · rw [changeChannel, State.withMtr_mtr, mtr]

/-! ### The refusals (R152) -/

theorem channelRefusal_eq (a n : Nat) (s : State) : let usable := (s.account a).Active
    (¬usable → channelRefusal a n s = some .notFound) ∧
    (usable → s.tariff n = .empty → channelRefusal a n s = some .notFound) ∧
    (usable → s.tariff n ≠ .empty → ((∃ key, s.tariff n = .reference key) →
      (s.mtr.pendingOf a n).isSome = true ∨ none ∈ s.mtr.pendings) → channelRefusal a n s = none) ∧
    (usable → (∃ key, s.tariff n = .reference key) → (s.mtr.pendingOf a n).isSome = false → none ∉ s.mtr.pendings →
      channelRefusal a n s = some .full) := by
  have active : (!(decide ((s.account a).state = .opened) || decide ((s.account a).state = .over))) = true ↔
      ¬(s.account a).Active := by simp [Account.Active]
  unfold channelRefusal
  dsimp only
  refine ⟨fun no => if_pos (active.mpr no), fun yes empty => ?_, fun yes held ready => ?_, fun yes reference fresh full => ?_⟩
  all_goals refine (if_neg fun no => active.mp no yes).trans ?_
  · rw [empty]
  · split
    · exact absurd ‹_› held
    · rfl
    · rename_i key reference
      refine if_pos ?_
      rcases ready ⟨key, reference⟩ with reserved | free
      · rw [reserved]; rfl
      · have room : s.mtr.freePlaces.isEmpty = false := by
          rw [← Bool.not_eq_true, freePlaces_isEmpty_iff]
          exact not_not.mpr free
        simp [room]
  · obtain ⟨key, reference⟩ := reference
    rw [reference]
    refine if_neg ?_
    simp [fresh, freePlaces_isEmpty_iff.mpr full]

theorem takes_not_mute (h : s.hpt.nodeState ≠ .mute) : s.takes none [.config, .run] = true := by
  unfold State.takes
  cases state : s.hpt.nodeState with
  | config => rfl
  | run => rfl
  | mute => exact absurd state h

theorem channelBadField_inside {a b c d e : Nat} (ha : a ≤ 15) (hb : b ≤ 1) (hc : c ≤ 63) (hd : d ≤ 15) (he : e ≤ 3) :
    channelBadField a b c d e = none := by
  unfold channelBadField
  rw [if_neg (by omega), if_neg (by omega), if_neg (by omega), if_neg (by omega), if_neg (by omega)]

theorem byte_bit {b : Byte} (h : b.toNat ≤ 1) : b = 0 ∨ b = 1 := by
  rcases Nat.le_one_iff_eq_zero_or_eq_one.mp h with zero | one
  · exact .inl (BitVec.eq_of_toNat_eq zero)
  · exact .inr (BitVec.eq_of_toNat_eq one)

/-- What SET_CHANNEL does in CONFIG and RUN (R152). -/
def State.channelSet (s : State) (tag channel enabled account tariff level : Byte) : State :=
  match channelBadField channel.toNat enabled.toNat account.toNat tariff.toNat level.toNat with
  | some f => badField tag f s
  | none =>
    if enabled.toNat = 1 then respond tag .ok [] (remapChannel channel.toNat none level.toNat s)
    else match channelRefusal account.toNat tariff.toNat s with
      | some st => refuse tag st s
      | none => respond tag .ok [] (remapChannel channel.toNat (some (account.toNat, tariff.toNat)) level.toNat s)

section

variable {tag channel enabled account tariff level : Byte}

theorem exec_setChannel (h : s.hpt.nodeState ≠ .mute) : exec (.setChannel tag channel enabled account tariff level) s =
    .next (s.channelSet tag channel enabled account tariff level) :=
  (congrArg Host.Outcome.next (gated_taken s (takes_not_mute h))).trans rfl

theorem channelSet_bad {f : Nat} (bad : channelBadField channel.toNat enabled.toNat account.toNat tariff.toNat level.toNat = some f) :
    s.channelSet tag channel enabled account tariff level = s.answered tag .badField [byte f] := by
  unfold State.channelSet
  rw [bad]
  rfl

theorem channelSet_disabled (inside : channelBadField channel.toNat enabled.toNat account.toNat tariff.toNat level.toNat = none)
    (off : enabled = 1) : s.channelSet tag channel enabled account tariff level =
      (remapChannel channel.toNat none level.toNat s).answered tag .ok [] := by
  unfold State.channelSet
  rw [inside]
  exact if_pos (congrArg BitVec.toNat off)

theorem channelSet_refused {st : Status} (on : enabled = 0)
    (inside : channelBadField channel.toNat enabled.toNat account.toNat tariff.toNat level.toNat = none)
    (refused : channelRefusal account.toNat tariff.toNat s = some st) :
    s.channelSet tag channel enabled account tariff level = s.answered tag st [] := by
  subst on
  unfold State.channelSet
  rw [inside, refused]
  rfl

theorem channelSet_enabled (on : enabled = 0)
    (inside : channelBadField channel.toNat enabled.toNat account.toNat tariff.toNat level.toNat = none)
    (taken : channelRefusal account.toNat tariff.toNat s = none) : s.channelSet tag channel enabled account tariff level =
      (remapChannel channel.toNat (some (account.toNat, tariff.toNat)) level.toNat s).answered tag .ok [] := by
  subst on
  unfold State.channelSet
  rw [inside, taken]
  rfl

end

theorem isReference_iff {x : Tariff} : x.isReference = true ↔ ∃ key, x = .reference key := by
  cases x <;> simp [Tariff.isReference]

/-- The pending records behind a SET_CHANNEL without a new pair (R152). -/
theorem repaired_kept {i : Nat} {mapping : Option (Nat × Nat)} {r : PendingRec} (member : some r ∈ s.mtr.pendings)
    (kept : r.energy ≠ 0 ∨ some (r.account, r.tariff) ≠ (s.channel i).mapping)
    (room : ∀ a n, mapping = some (a, n) → (s.tariff n).isReference = true →
      ((leavePair i s).mtr.pendingOf a n).isSome = true ∨ none ∈ (leavePair i s).mtr.pendings) :
    some r ∈ (s.repaired i mapping).mtr.pendings := by
  have stays := leavePair_keeps member kept
  cases mapping with
  | none => exact stays
  | some pair =>
    obtain ⟨a, n⟩ := pair
    unfold State.repaired
    dsimp only
    split
    · rename_i reference
      cases reserved : ((leavePair i s).mtr.pendingOf a n).isSome with
      | true => rw [reservePending_reserved reserved]; exact stays
      | false =>
        refine (reservePending_new reserved ((room a n rfl reference).resolve_left ?_) r).mpr (.inr stays)
        rw [reserved]
        exact Bool.false_ne_true
    · exact stays

/-- A pair that is left, and not taken up again, pends nothing but energy (R152). -/
theorem repaired_freed {i a n : Nat} {mapping : Option (Nat × Nat)} {r : PendingRec} (leaves : s.Leaves i a n)
    (other : mapping ≠ some (a, n)) (room : ∀ b m, mapping = some (b, m) → (s.tariff m).isReference = true →
      ((leavePair i s).mtr.pendingOf b m).isSome = true ∨ none ∈ (leavePair i s).mtr.pendings)
    (member : some r ∈ (s.repaired i mapping).mtr.pendings) (account : r.account = a) (tariff : r.tariff = n) :
    r.energy ≠ 0 := by
  have left (h : some r ∈ (leavePair i s).mtr.pendings) : r.energy ≠ 0 :=
    fun energy => ((leavePair_leaves leaves r).mp h).2 ⟨account, tariff, energy⟩
  cases mapping with
  | none => exact left member
  | some pair =>
    obtain ⟨b, m⟩ := pair
    unfold State.repaired at member
    dsimp only at member
    split at member
    · rename_i reference
      cases reserved : ((leavePair i s).mtr.pendingOf b m).isSome with
      | true => rw [reservePending_reserved reserved] at member; exact left member
      | false =>
        have free := (room b m rfl reference).resolve_left (by rw [reserved]; exact Bool.false_ne_true)
        rcases (reservePending_new reserved free r).mp member with new | old
        · subst new
          exact absurd (by rw [← account, ← tariff]) other
        · exact left old
    · exact left member

/-- The new pair of a REFERENCE has its record (R152, R156). -/
theorem repaired_reserved {i a n : Nat} (reference : (s.tariff n).isReference = true)
    (room : ((leavePair i s).mtr.pendingOf a n).isSome = true ∨ none ∈ (leavePair i s).mtr.pendings) :
    ∃ r, some r ∈ (s.repaired i (some (a, n))).mtr.pendings ∧ r.account = a ∧ r.tariff = n := by
  have made : s.repaired i (some (a, n)) = reservePending a n (leavePair i s) := if_pos reference
  rw [made]
  cases reserved : ((leavePair i s).mtr.pendingOf a n).isSome with
  | true =>
    rw [reservePending_reserved reserved]
    exact pendingOf_isSome_iff.mp reserved
  | false =>
    have free := room.resolve_left (by rw [reserved]; exact Bool.false_ne_true)
    exact ⟨_, (reservePending_new reserved free _).mpr (.inl rfl), rfl, rfl⟩

/-- The room that R152 asks for is still there once the old pair has been left. -/
theorem leavePair_room {i a n : Nat} (room : (∃ r, some r ∈ s.mtr.pendings ∧ r.account = a ∧ r.tariff = n) ∨ none ∈ s.mtr.pendings) :
    ((leavePair i s).mtr.pendingOf a n).isSome = true ∨ none ∈ (leavePair i s).mtr.pendings := by
  rcases room with ⟨r, member, account, tariff⟩ | free
  · by_cases stays : some r ∈ (leavePair i s).mtr.pendings
    · exact .inl (pendingOf_isSome_iff.mpr ⟨r, stays, account, tariff⟩)
    · exact .inr (leavePair_frees member stays)
  · exact .inr (leavePair_none free)

/-- Settles O47. -/
theorem channelCommands : Obligations.ChannelCommands := by
  intro s tag channel channels relays _
  have hosted (op : Byte) : exec (.shedHost tag channel op) s = .next (if 15 < channel.toNat then badField tag 0 s
      else if 1 < op.toNat then badField tag 1 s
      else respond tag .ok [] (applyRelay channel.toNat
        (changeChannel channel.toNat (fun c => { c with host := decide (op.toNat = 0) }) s))) :=
    congrArg Host.Outcome.next (gated_all ..)
  refine ⟨fun op hi ho => ?_, fun op hi => ?_, fun op hi ho => ?_, fun enabled account tariff level awake => ?_,
    fun mute enabled account tariff level => ?_⟩
  · have inside : channel.toNat < 16 := by omega
    refine ⟨_, (hosted op).trans (congrArg Host.Outcome.next ((if_neg (by omega)).trans (if_neg (by omega)))), ?_⟩
    refine applyRelay_becomes inside relays ?_ (fun j hj => ?_) rfl rfl rfl rfl rfl
    · rw [channel_changeChannel, if_pos ⟨rfl, channels ▸ inside⟩]
    · rw [channel_changeChannel, if_neg (fun h => hj h.1.symm)]
  · exact (hosted op).trans (congrArg Host.Outcome.next (if_pos hi))
  · exact (hosted op).trans (congrArg Host.Outcome.next ((if_neg (by omega)).trans (if_pos ho)))
  · intro answer i old new st reserved isRef usable inRange
    have run : answer = .next (s.channelSet tag channel enabled account tariff level) := exec_setChannel awake
    have bad {f : Nat} (h : channelBadField channel.toNat enabled.toNat account.toNat tariff.toNat level.toNat = some f) :
        answer = .next (s.answered tag .badField [byte f]) := run.trans (congrArg Host.Outcome.next (channelSet_bad h))
    have good (h : inRange) : channelBadField channel.toNat enabled.toNat account.toNat tariff.toNat level.toNat = none := by
      obtain ⟨hi, he, ha, ht, hl⟩ := h
      exact channelBadField_inside hi he ha ht hl
    obtain ⟨notActive, isEmpty, taken, full⟩ := channelRefusal_eq account.toNat tariff.toNat s
    refine ⟨fun hi => bad (if_pos hi), fun hi he => bad ((if_neg (by omega)).trans (if_pos he)),
      fun hi he ha => bad ((if_neg (by omega)).trans ((if_neg (by omega)).trans (if_pos ha))),
      fun hi he ha ht => bad ((if_neg (by omega)).trans ((if_neg (by omega)).trans ((if_neg (by omega)).trans (if_pos ht)))),
      fun hi he ha ht hl => bad ((if_neg (by omega)).trans ((if_neg (by omega)).trans ((if_neg (by omega)).trans
        ((if_neg (by omega)).trans (if_pos hl))))), fun h on refused => ?_, fun h on active reference fresh none => ?_,
      fun h may => ?_⟩
    · refine run.trans (congrArg Host.Outcome.next (channelSet_refused on (good h) ?_))
      by_cases active : (s.account account.toNat).Active
      · exact isEmpty active (refused.resolve_left fun no => no active)
      · exact notActive active
    · refine run.trans (congrArg Host.Outcome.next (channelSet_refused on (good h) (full active reference ?_ none)))
      rw [← Bool.not_eq_true]
      exact mt pendingOf_isSome_iff.mp fresh
    · have inside : i < 16 := Nat.lt_succ_of_le h.1
      have room : ∀ a n, new = some (a, n) → (s.tariff n).isReference = true →
          ((leavePair i s).mtr.pendingOf a n).isSome = true ∨ none ∈ (leavePair i s).mtr.pendings := by
        intro a n pair reference
        rcases may with off | ⟨-, -, ready⟩
        · exact absurd pair (by simp [new, off])
        · have on : enabled ≠ 1 := fun off => absurd pair (by simp [new, off])
          simp only [new, if_neg on, Option.some.injEq, Prod.mk.injEq] at pair
          obtain ⟨rfl, rfl⟩ := pair
          exact leavePair_room (ready (isReference_iff.mp reference))
      have isOver : decide (enabled = 0 ∧ st = .over) = new.any fun m => decide ((s.account m.1).state = .over) := by
        rcases byte_bit h.2.1 with on | off
        · simp [new, on, st]
        · simp [new, off]
      have answered : answer = .next ((remapChannel i new level.toNat s).answered tag .ok []) := by
        rcases byte_bit h.2.1 with on | off
        · have pair : new = some (account.toNat, tariff.toNat) := if_neg (by simp [on])
          obtain ⟨active, held, ready⟩ := may.resolve_left (by simp [on])
          rw [run, pair, channelSet_enabled on (good h) (taken active held fun reference =>
            (ready reference).imp_left pendingOf_isSome_iff.mpr)]
        · have none : new = Option.none := if_pos off
          rw [run, none, channelSet_disabled (good h) off]
      obtain ⟨becomes, pendings⟩ := remapChannel_becomes (level := level.toNat) inside channels relays isOver
      refine ⟨remapChannel i new level.toNat s, answered, becomes, fun on reference => ?_, fun r member kept => ?_,
        fun a u key mapping reference other alone r member account tariff => ?_⟩
      · have pair : new = some (account.toNat, tariff.toNat) := if_neg (by simp [on])
        have names := isReference_iff.mpr reference
        rw [pendings, pair]
        exact repaired_reserved names (room _ _ pair names)
      · rw [pendings]
        exact repaired_kept member kept room
      · rw [pendings] at member
        exact repaired_freed ⟨mapping, isReference_iff.mpr ⟨key, reference⟩, alone⟩ other room member account tariff
  · exact congrArg Host.Outcome.next (gated_refused s (takes_false (.inl (by rw [mute]; decide))))

end Sys2Proof.Machine
end

section
/-! Pricing, credit tests and the tariff commands (R155 to R158, R166): O48. -/

namespace Sys2Proof.Machine

open Sys2Proof.Claims

variable {s t u : State}

/-! ### Pricing (R158, R162) -/

/-- An account priced at an amount: what it is charged rises by exactly that, where the sums fit. -/
structure Account.Priced (amount : Nat) (a b : Account) : Prop where
  id : b.id = a.id
  limit : b.limit = a.limit
  state : b.state = a.state
  exact : a.residue < 1000000 → a.charge + (a.residue + amount) / 1000000 < 2 ^ 64 →
    a.intCharge + (a.residue + amount) / 1000000 < 2 ^ 64 →
    b.charge * 1000000 + b.residue = a.charge * 1000000 + a.residue + amount ∧ b.residue < 1000000 ∧
      b.intCharge + a.charge = a.intCharge + b.charge

theorem Account.Priced.nothing {a b : Account} (id : b.id = a.id) (limit : b.limit = a.limit) (state : b.state = a.state)
    (charge : b.charge = a.charge) (residue : b.residue = a.residue) (intCharge : b.intCharge = a.intCharge) :
    Account.Priced 0 a b :=
  ⟨id, limit, state, fun small _ _ => ⟨by rw [charge, residue, Nat.add_zero], residue ▸ small, by rw [charge, intCharge]⟩⟩

theorem Account.Priced.refl (a : Account) : Account.Priced 0 a a := .nothing rfl rfl rfl rfl rfl rfl

theorem Account.Priced.trans {n m : Nat} {a b c : Account} (h : Account.Priced n a b) (k : Account.Priced m b c) :
    Account.Priced (n + m) a c := by
  refine ⟨k.id.trans h.id, k.limit.trans h.limit, k.state.trans h.state, fun small charge intCharge => ?_⟩
  obtain ⟨charged, rest, interval⟩ := h.exact small (lt_of_le_of_lt (by gcongr; omega) charge)
    (lt_of_le_of_lt (by gcongr; omega) intCharge)
  have fits : b.charge + (b.residue + m) / 1000000 = a.charge + (a.residue + (n + m)) / 1000000 := by omega
  obtain ⟨charged', rest', interval'⟩ := k.exact rest (fits ▸ charge) (by omega)
  exact ⟨by rw [charged', charged, Nat.add_assoc], rest', by linarith only [interval, interval']⟩

theorem price_priced (n : Nat) (a : Account) : Account.Priced n a (a.price n) := by
  refine ⟨rfl, rfl, rfl, fun small charge intCharge => ?_⟩
  have charged : (a.price n).charge = a.charge + (a.residue + n) / 1000000 := add64_eq charge
  have interval : (a.price n).intCharge = a.intCharge + (a.residue + n) / 1000000 := add64_eq intCharge
  have residue : (a.price n).residue = (a.residue + n) % 1000000 := rfl
  rw [charged, interval, residue]
  omega

/-! ### The credit tests (R166) -/

theorem mem_newlyOver {l : List Nat} {a : Nat} :
    a ∈ newlyOver l s ↔ a ∈ l ∧ (s.account a).state = .opened ∧ (s.account a).exceeds = true := by
  simp [newlyOver]

theorem exceeds_iff {a : Account} : a.exceeds = true ↔ 0 < a.limit ∧ a.limit < a.charge := by simp [Account.exceeds]

theorem creditTests_account (l : List Nat) (s : State) (a : Nat) : (creditTests l s).account a =
    if a ∈ newlyOver l s ∧ a < s.bil.accounts.length then (s.account a).overed else s.account a := by
  have ruled : (creditTests l s).account a = ((newlyOver l s).foldl (fun s i => becomeOver i s) s).account a :=
    account_of_bil (by simp [creditTests, newlyOver]) a
  rw [ruled, becomeOver_fold_account]

/-! ### A resolution (R158) -/

/-- An account priced, with the energies that it had. -/
structure Account.Resolved (amount : Nat) (a b : Account) : Prop where
  priced : Account.Priced amount a b
  energy : b.energy = a.energy
  intEnergy : b.intEnergy = a.intEnergy

theorem pricePending_account (base pass : Nat) (p : PendingRec) (s : State) (a : Nat) :
    (a ≠ p.account → (pricePending base pass p s).account a = s.account a) ∧
    (a < s.bil.accounts.length → a = p.account → Account.Resolved (p.energy * base * 1000 + p.weighted * pass) (s.account a)
      ((pricePending base pass p s).account a)) := by
  have account : (pricePending base pass p s).account a = if p.account = a ∧ a < s.bil.accounts.length then _ else s.account a :=
    account_changeAccount ..
  rw [account]
  refine ⟨fun other => if_neg fun h => other h.1.symm, fun inside own => ?_⟩
  rw [if_pos ⟨own.symm, inside⟩]
  obtain ⟨id, limit, state, exact'⟩ := price_priced (p.energy * base * 1000 + p.weighted * pass) (s.account a)
  exact ⟨⟨id, limit, state, exact'⟩, rfl, rfl⟩

/-- The records of one account priced one after the other. -/
theorem pricePending_fold {base pass a : Nat} (l : List PendingRec) (s : State) (inside : a < s.bil.accounts.length) :
    Account.Resolved (((l.filter fun p => p.account == a).map fun p => p.energy * base * 1000 + p.weighted * pass).sum)
      (s.account a) ((l.foldl (fun s p => pricePending base pass p s) s).account a) := by
  induction l generalizing s with
  | nil => exact ⟨.refl _, rfl, rfl⟩
  | cons p l ih =>
    have length : (pricePending base pass p s).bil.accounts.length = s.bil.accounts.length := adjust_length ..
    obtain ⟨priced, energy, intEnergy⟩ := ih (pricePending base pass p s) (length.symm ▸ inside)
    obtain ⟨others, own⟩ := pricePending_account base pass p s a
    rw [List.foldl_cons, List.filter_cons]
    by_cases here : a = p.account
    · obtain ⟨first, energy', intEnergy'⟩ := own inside here
      rw [if_pos (by simp [here]), List.map_cons, List.sum_cons]
      exact ⟨first.trans priced, energy.trans energy', intEnergy.trans intEnergy'⟩
    · rw [if_neg (by simpa using Ne.symm here)]
      rw [others here] at priced energy intEnergy
      exact ⟨priced, energy, intEnergy⟩

theorem pricePending_fold_keeps (base pass : Nat) (l : List PendingRec) (s : State) :
    (l.foldl (fun s p => pricePending base pass p s) s).mtr = s.mtr ∧
    (l.foldl (fun s p => pricePending base pass p s) s).bil.accounts.length = s.bil.accounts.length := by
  induction l generalizing s with
  | nil => exact ⟨rfl, rfl⟩
  | cons p l ih =>
    obtain ⟨mtr, accounts⟩ := ih (pricePending base pass p s)
    exact ⟨mtr.trans rfl, accounts.trans (adjust_length ..)⟩

theorem creditTests_mtr (l : List Nat) (s : State) :
    (creditTests l s).mtr = { s.mtr with channels := (creditTests l s).mtr.channels } := by
  have ruled := (applyRelays_mtr (channelsWhere (fun c => (newlyOver l s).any fun i => c.pointsAt i) s)
    ((newlyOver l s).foldl (fun s i => becomeOver i s) s)).1
  rw [becomeOver_fold_mtr] at ruled
  exact ruled

/-- The records that a resolution prices (R158). -/
def State.recordsOf (s : State) (key : Nat) : List PendingRec :=
  (s.mtr.pendings.filterMap id).filter fun p => s.referenced key p.tariff

/-- The tariffs and the records of a resolution written (R158). -/
def State.keyWritten (s : State) (key base pass : Nat) : State :=
  s.withMtr { s.mtr with
    tariffs := s.mtr.tariffs.map fun x =>
      if x.tariff = .reference key then ⟨.resolved key base pass, none⟩ else x
    pendings := s.mtr.pendings.map fun p => match p with
      | some p => if s.referenced key p.tariff then none else some p
      | none => none }

theorem resolveKey_eq (key base pass : Nat) (s : State) : resolveKey key base pass s =
    creditTests ((List.range 64).filter fun a => (s.recordsOf key).any fun p => p.account == a)
      ((s.recordsOf key).foldl (fun s p => pricePending base pass p s) (s.keyWritten key base pass)) := rfl

theorem keyWritten_pendings (key base pass : Nat) (s : State) (r : PendingRec) :
    some r ∈ (s.keyWritten key base pass).mtr.pendings ↔
      some r ∈ s.mtr.pendings ∧ s.tariff r.tariff ≠ .reference key := by
  have listed : some r ∈ (s.keyWritten key base pass).mtr.pendings ↔ _ := List.mem_map
  rw [listed]
  constructor
  · rintro ⟨p, member, made⟩
    cases p with
    | none => cases made
    | some p =>
      dsimp only at made
      split at made
      · cases made
      · rename_i kept
        cases made
        exact ⟨member, by simpa [State.referenced] using kept⟩
  · rintro ⟨member, other⟩
    exact ⟨some r, member, if_neg (by simpa [State.referenced] using other)⟩

theorem recordsOf_filter (key a : Nat) (s : State) : (s.recordsOf key).filter (fun p => p.account == a) = resolvedFor s key a := by
  rw [State.recordsOf, List.filter_filter]
  unfold resolvedFor State.referenced
  exact congrArg (fun p => List.filter p _) (funext fun r => Bool.and_comm ..)

theorem resolveKey_mtr (key base pass : Nat) (s : State) : (resolveKey key base pass s).mtr =
    { (s.keyWritten key base pass).mtr with channels := (resolveKey key base pass s).mtr.channels } := by
  rw [resolveKey_eq, creditTests_mtr, (pricePending_fold_keeps ..).1]

/-- What a resolution does to an account (R158, R166). -/
theorem resolveKey_account {key base pass a : Nat} (accounts : s.bil.accounts.length = 64) (inside : a < 64) :
    let x := s.account a
    let y := (resolveKey key base pass s).account a
    y.id = x.id ∧ y.energy = x.energy ∧ y.intEnergy = x.intEnergy ∧ y.limit = x.limit ∧
    Account.Priced (((resolvedFor s key a).map fun p => p.energy * base * 1000 + p.weighted * pass).sum) x { y with state := x.state } ∧
    (x.state = .opened → resolvedFor s key a ≠ [] → (y.state = .over ↔ 0 < y.limit ∧ y.limit < y.charge)) ∧
    (x.state ≠ .opened → y.state = x.state) := by
  have fold := pricePending_fold (base := base) (pass := pass) (a := a) (s.recordsOf key) (s.keyWritten key base pass)
    (accounts.symm ▸ inside)
  have length := (pricePending_fold_keeps base pass (s.recordsOf key) (s.keyWritten key base pass)).2
  have tested := creditTests_account ((List.range 64).filter fun a => (s.recordsOf key).any fun p => p.account == a)
    ((s.recordsOf key).foldl (fun s p => pricePending base pass p s) (s.keyWritten key base pass)) a
  have over' := mem_newlyOver (l := (List.range 64).filter fun a => (s.recordsOf key).any fun p => p.account == a)
    (s := (s.recordsOf key).foldl (fun s p => pricePending base pass p s) (s.keyWritten key base pass)) (a := a)
  have same : (s.keyWritten key base pass).account a = s.account a := rfl
  rw [← resolveKey_eq, length] at tested
  rw [recordsOf_filter, same] at fold
  have listed : resolvedFor s key a ≠ [] → a ∈ (List.range 64).filter fun a => (s.recordsOf key).any fun p => p.account == a := by
    intro some
    obtain ⟨p, member⟩ := List.exists_mem_of_ne_nil _ some
    rw [← recordsOf_filter] at member
    obtain ⟨member, own⟩ := List.mem_filter.mp member
    exact List.mem_filter.mpr ⟨List.mem_range.mpr inside, List.any_eq_true.mpr ⟨p, member, own⟩⟩
  intro x y
  generalize ((s.recordsOf key).foldl (fun s p => pricePending base pass p s) (s.keyWritten key base pass)) = z at *
  obtain ⟨⟨id, limit, state, exact'⟩, energy, intEnergy⟩ := fold
  by_cases becomes : a ∈ newlyOver ((List.range 64).filter fun a => (s.recordsOf key).any fun p => p.account == a) z
  · have now : y = (z.account a).overed := tested.trans (if_pos ⟨becomes, accounts.symm ▸ inside⟩)
    obtain ⟨-, opened, exceeds⟩ := over'.mp becomes
    rw [now]
    exact ⟨id, energy, intEnergy, limit, ⟨id, limit, rfl, exact'⟩, fun _ _ => iff_of_true rfl (exceeds_iff.mp exceeds),
      fun other => absurd (state ▸ opened) other⟩
  · have now : y = z.account a := tested.trans (if_neg fun h => becomes h.1)
    rw [now]
    refine ⟨id, energy, intEnergy, limit, ⟨id, limit, rfl, exact'⟩, fun opened some => ?_, fun _ => state⟩
    have still : (z.account a).state = .opened := state.trans opened
    refine iff_of_false (by rw [still]; decide) fun exceeds => becomes ?_
    exact over'.mpr ⟨listed some, still, exceeds_iff.mpr exceeds⟩

/-! ### The tariff commands (R155, R157, R158) -/

theorem getElem?_adjust {α : Type} (f : α → α) (i j : Nat) (l : List α) :
    (adjust f i l)[j]? = if j = i then l[j]?.map f else l[j]? := by
  induction l generalizing i j with
  | nil => cases i <;> simp [adjust]
  | cons x l ih =>
    cases i with
    | zero => cases j <;> simp [adjust]
    | succ i =>
      cases j with
      | zero => simp [adjust]
      | succ j => simpa [adjust] using ih i j

theorem getElem?_of_nth {α : Type} (d : α) {i : Nat} {l : List α} (inside : i < l.length) : l[i]? = some (nth d l i) := by
  rw [nth, List.getD_eq_getElem _ _ inside, List.getElem?_eq_getElem inside]

theorem holdsPending_iff {m : Mtr} {n : Nat} : m.holdsPending n = true ↔ ∃ r, some r ∈ m.pendings ∧ r.tariff = n := by
  unfold Mtr.holdsPending
  rw [List.any_eq_true]
  constructor
  · rintro ⟨p, member, holds⟩
    cases p with
    | none => cases holds
    | some p => exact ⟨p, member, beq_iff_eq.mp holds⟩
  · rintro ⟨r, member, rfl⟩
    exact ⟨some r, member, beq_self_eq_true _⟩

/-- A channel maps the tariff slot (R155). -/
def Channel.mapsTariff (n : Nat) (c : Channel) : Bool :=
  match c.mapping with
  | some (_, u) => u == n
  | none => false

theorem mapsTariff_iff {n : Nat} {c : Channel} : c.mapsTariff n = true ↔ ∃ a, c.mapping = some (a, n) := by
  unfold Channel.mapsTariff
  split
  · rename_i a u mapping
    rw [mapping, beq_iff_eq]
    exact ⟨fun same => ⟨a, same ▸ rfl⟩, fun ⟨_, same⟩ => (Prod.mk.inj (Option.some.inj same)).2⟩
  · rename_i mapping
    rw [mapping]
    exact ⟨fun no => absurd no Bool.false_ne_true, fun ⟨_, no⟩ => nomatch no⟩

/-- DEFINE_TARIFF taken (R155). -/
def State.tariffWritten (s : State) (slot form : Byte) (key : Word) (base pass : Half) : State :=
  s.withMtr { s.mtr with
    tariffs := adjust (fun _ => ⟨tariffOf form.toNat key.toNat base.toNat pass.toNat, none⟩) slot.toNat s.mtr.tariffs }

theorem exec_defineTariff (tag slot form : Byte) (key : Word) (base pass : Half) (s : State) :
    exec (.defineTariff tag slot form key base pass) s = .next (
      if 15 < slot.toNat then badField tag 0 s
      else if 2 < form.toNat then badField tag 1 s
      else if s.mtr.holdsPending slot.toNat ||
        ((List.range 16).any fun i => (s.channel i).mapsTariff slot.toNat) && decide (form.toNat ≠ 2) then refuse tag .inUse s
      else respond tag (if form.toNat = 2 ∧ 2000 < pass.toNat then .clamped else .ok) []
        (s.tariffWritten slot form key base pass)) :=
  (congrArg Host.Outcome.next (gated_all ..)).trans rfl

theorem exec_resolveTariff (tag : Byte) (key : Word) (base pass : Half) (s : State) :
    exec (.resolveTariff tag key base pass) s = .next (
      if ((List.range 16).filter (s.referenced key.toNat)).isEmpty then refuse tag .notFound s
      else respond tag (if 2000 < pass.toNat then .clamped else .ok)
        [byte ((List.range 16).filter (s.referenced key.toNat)).length, byte (s.recordsOf key.toNat).length]
        (resolveKey key.toNat base.toNat (min pass.toNat 2000) s)) :=
  (congrArg Host.Outcome.next (gated_all ..)).trans rfl

/-- A pending record on the slot has energy (R157). -/
def PendingRec.waitsOn (n : Nat) : Option PendingRec → Bool
  | some r => r.tariff == n && decide (0 < r.energy)
  | none => false

theorem resolveTimerEnd_due {n : Nat} (due : reached s.now (nth ⟨.empty, none⟩ s.mtr.tariffs n).timer = true) :
    resolveTimerEnd n s = match s.tariff n, s.mtr.pendings.any (PendingRec.waitsOn n) with
      | .reference key, true => requestResolve n key s
      | _, _ => s.withMtr { s.mtr with tariffs := adjust (fun x => { x with timer := none }) n s.mtr.tariffs } :=
  if_pos due

theorem definesTariff (s : State) (tag slot form : Byte) (key : Word) (base pass : Half) :
    let answer := exec (.defineTariff tag slot form key base pass) s
    let held := ∃ r, some r ∈ s.mtr.pendings ∧ r.tariff = slot.toNat
    let inUse := ∃ i a, i < 16 ∧ (s.channel i).mapping = some (a, slot.toNat)
    (15 < slot.toNat → answer = .next (s.answered tag .badField [0])) ∧
    (slot.toNat ≤ 15 → 2 < form.toNat → answer = .next (s.answered tag .badField [1])) ∧
    (slot.toNat ≤ 15 → form.toNat ≤ 2 → held ∨ (inUse ∧ form ≠ 2) → answer = .next (s.answered tag .inUse [])) ∧
    (slot.toNat ≤ 15 → form.toNat ≤ 2 → ¬held → ¬inUse ∨ form = 2 →
      answer = .next ((s.tariffWritten slot form key base pass).answered tag
        (if form = 2 ∧ 2000 < pass.toNat then .clamped else .ok) [])) := by
  intro answer held inUse
  have run : answer = _ := exec_defineTariff tag slot form key base pass s
  have used : ((List.range 16).any fun i => (s.channel i).mapsTariff slot.toNat) = true ↔ inUse := by
    rw [List.any_eq_true]
    constructor
    · rintro ⟨i, inside, maps⟩
      obtain ⟨a, mapping⟩ := mapsTariff_iff.mp maps
      exact ⟨i, a, List.mem_range.mp inside, mapping⟩
    · rintro ⟨i, a, inside, mapping⟩
      exact ⟨i, List.mem_range.mpr inside, mapsTariff_iff.mpr ⟨a, mapping⟩⟩
  have two : form.toNat = 2 ↔ form = 2 := ⟨fun h => BitVec.eq_of_toNat_eq h, fun h => by rw [h]; rfl⟩
  have refused : (s.mtr.holdsPending slot.toNat ||
      ((List.range 16).any fun i => (s.channel i).mapsTariff slot.toNat) && decide (form.toNat ≠ 2)) = true ↔
      held ∨ (inUse ∧ form ≠ 2) := by
    rw [Bool.or_eq_true, Bool.and_eq_true, holdsPending_iff, used, decide_eq_true_iff, ne_eq, two]
  rw [run]
  refine ⟨fun hs => congrArg Host.Outcome.next (if_pos hs),
    fun hs hf => congrArg Host.Outcome.next ((if_neg (by omega)).trans (if_pos hf)),
    fun hs hf no => congrArg Host.Outcome.next ((if_neg (by omega)).trans ((if_neg (by omega)).trans (if_pos (refused.mpr no)))),
    fun hs hf free may => ?_⟩
  have taken : ¬(held ∨ (inUse ∧ form ≠ 2)) := by
    rintro (h | ⟨h, other⟩)
    · exact free h
    · exact may.elim (fun no => no h) other
  have status : (if form.toNat = 2 ∧ 2000 < pass.toNat then Status.clamped else .ok) =
      if form = 2 ∧ 2000 < pass.toNat then .clamped else .ok := by simp only [two]
  rw [if_neg (by omega), if_neg (by omega), if_neg (mt refused.mp taken), status]
  rfl

/-- Settles O48. -/
theorem tariffCommands : Obligations.TariffCommands := by
  refine ⟨fun s tag slot form key base pass tariffs => ?_, fun s tag key base pass tariffs accounts => ?_,
    fun s slot due inside tariffs timer => ?_⟩
  · intro answer held inUse
    obtain ⟨bad, bad', used, taken⟩ := definesTariff s tag slot form key base pass
    refine ⟨bad, bad', used, fun hs hf free may => ⟨s.tariffWritten slot form key base pass, taken hs hf free may,
      keepsAllBut_of (by simp [State.tariffWritten]), rfl, (adjust_length ..).trans tariffs, ?_⟩⟩
    have written (j : Nat) : (s.tariffWritten slot form key base pass).mtr.tariffs[j]? = if j = slot.toNat
        then s.mtr.tariffs[j]?.map (fun _ => ⟨tariffOf form.toNat key.toNat base.toNat pass.toNat, none⟩)
        else s.mtr.tariffs[j]? := getElem?_adjust ..
    have here : (s.tariffWritten slot form key base pass).mtr.tariffs[slot.toNat]? =
        some ⟨tariffOf form.toNat key.toNat base.toNat pass.toNat, none⟩ := by
      rw [written, if_pos rfl, getElem?_of_nth ⟨.empty, none⟩ (by omega)]
      rfl
    rw [here]
    refine ⟨fun h => by rw [h]; rfl, fun h => by rw [h]; rfl, fun h => by rw [h]; rfl, fun j hj => ?_⟩
    rw [written, if_neg hj]
  · intro answer slots rate amount
    have run : answer = _ := exec_resolveTariff tag key base pass s
    refine ⟨fun empty => run.trans (congrArg Host.Outcome.next (if_pos (List.isEmpty_iff.mpr empty))), fun held => ?_⟩
    have mtr := resolveKey_mtr key.toNat base.toNat rate s
    refine ⟨resolveKey key.toNat base.toNat rate s, (s.recordsOf key.toNat).length,
      run.trans (congrArg Host.Outcome.next (if_neg (mt List.isEmpty_iff.mp held))), rfl, fun j => ?_, fun r => ?_,
      fun a ha => ?_⟩
    · rw [mtr]
      exact List.getElem?_map ..
    · rw [mtr]
      exact keyWritten_pendings key.toNat base.toNat rate s r
    · obtain ⟨id, energy, intEnergy, limit, ⟨-, -, -, priced⟩, tested, other⟩ :=
        resolveKey_account (key := key.toNat) (base := base.toNat) (pass := rate) accounts ha
      exact ⟨id, energy, intEnergy, limit, fun charge intCharge small => priced small charge intCharge, tested, other⟩
  · refine ⟨fun early => ?_, fun key over' reference waiting => ?_, fun over' idle => ?_⟩
    · refine congrArg Host.Outcome.next (if_neg ?_)
      rw [timer]
      simpa [reached] using early
    · have due' : reached s.now (nth ⟨.empty, none⟩ s.mtr.tariffs slot).timer = true := by
        rw [timer]
        simpa [reached] using over'
      have some : s.mtr.pendings.any (PendingRec.waitsOn slot) = true := by
        obtain ⟨r, member, tariff, energy⟩ := waiting
        exact List.any_eq_true.mpr ⟨some r, member, by simp [PendingRec.waitsOn, tariff, energy]⟩
      have made : resolveTimerEnd slot s = requestResolve slot key s := by
        rw [resolveTimerEnd_due due', some, reference]
      refine ⟨_, congrArg Host.Outcome.next made, keepsAllBut_of (by simp), ?_, ?_⟩
      · have written : (requestResolve slot key s).mtr.tariffs =
            adjust (fun x => { x with timer := Option.some (s.now + resolveTime) }) slot s.mtr.tariffs := by simp [requestResolve]
        rw [written, getElem?_adjust, if_pos rfl, getElem?_of_nth ⟨.empty, none⟩ (tariffs ▸ inside), ← reference]
        rfl
      · exact (postEvent_wrote_on ..).posts
    · have due' : reached s.now (nth ⟨.empty, none⟩ s.mtr.tariffs slot).timer = true := by
        rw [timer]
        simpa [reached] using over'
      have quiet : s.mtr.pendings.any (PendingRec.waitsOn slot) = false := by
        rw [List.any_eq_false]
        intro p member
        cases p with
        | none => exact Bool.false_ne_true
        | some r =>
          simp only [PendingRec.waitsOn, Bool.and_eq_true, beq_iff_eq, decide_eq_true_eq, not_and, Nat.not_lt, Nat.le_zero]
          exact idle r member
      have made : resolveTimerEnd slot s =
          s.withMtr { s.mtr with tariffs := adjust (fun x => { x with timer := none }) slot s.mtr.tariffs } := by
        rw [resolveTimerEnd_due due', quiet]
        cases s.tariff slot <;> rfl
      refine ⟨_, congrArg Host.Outcome.next made, keepsAllBut_of (by simp), ?_⟩
      rw [State.withMtr_mtr, getElem?_adjust, if_pos rfl, getElem?_of_nth ⟨.empty, none⟩ (tariffs ▸ inside)]
      rfl

end Sys2Proof.Machine
end

section
/-! Accounts opened and limited (R165 to R167): O51. -/

namespace Sys2Proof.Machine

open Sys2Proof.Claims

variable {s t u : State}

/-! ### The slot of an id, and the lowest FREE slot -/

theorem slotOf_some {id i : Nat} (h : Holds s id i) : s.slotOf id = some i := by
  obtain ⟨inside, held, same, lowest⟩ := h
  refine List.find?_range_eq_some.mpr ⟨by simp [held, same], List.mem_range.mpr inside, fun j hj => ?_⟩
  rcases lowest j hj with free | other
  · simp [free]
  · simp [other]

theorem slotOf_holds {id i : Nat} (h : s.slotOf id = some i) : Holds s id i := by
  obtain ⟨holds, inside, lowest⟩ := List.find?_range_eq_some.mp h
  simp only [Bool.and_eq_true, decide_eq_true_eq, beq_iff_eq] at holds
  refine ⟨List.mem_range.mp inside, holds.1, holds.2, fun j hj => ?_⟩
  have other := lowest j hj
  simp only [Bool.not_eq_true', Bool.and_eq_false_iff, decide_eq_false_iff_not, not_not, beq_eq_false_iff_ne] at other
  exact other

theorem slotOf_isSome_iff {id : Nat} : (s.slotOf id).isSome = true ↔
    ∃ i, i < 64 ∧ (s.account i).state ≠ .free ∧ (s.account i).id = id := by
  rw [State.slotOf, List.find?_isSome]
  simp

theorem freeSlot_some {i : Nat} (inside : i < 64) (free : (s.account i).state = .free)
    (lowest : ∀ j, j < i → (s.account j).state ≠ .free) : s.freeSlot = some i :=
  List.find?_range_eq_some.mpr ⟨by simp [free], List.mem_range.mpr inside, fun j hj => by simp [lowest j hj]⟩

theorem freeSlot_none (taken : ∀ i, i < 64 → (s.account i).state ≠ .free) : s.freeSlot = none := by
  refine List.find?_eq_none.mpr fun i hi => ?_
  simp [taken i (List.mem_range.mp hi)]

/-! ### What the credit tests do to the channels (R153, R166) -/

theorem creditTests_idle {l : List Nat} (h : newlyOver l s = []) : creditTests l s = s := by
  have tested : creditTests l s = applyRelays (channelsWhere (fun c => (newlyOver l s).any fun i => c.pointsAt i) s)
      ((newlyOver l s).foldl (fun s i => becomeOver i s) s) := rfl
  have quiet : channelsWhere (fun _ => false) s = [] := List.filter_eq_nil_iff.mpr fun _ _ => Bool.false_ne_true
  rw [tested, h]
  simp only [List.any_nil, List.foldl_nil, quiet]
  rfl

theorem creditTests_channel {l : List Nat} (channels : s.mtr.channels.length = 16) {j : Nat} (hj : j < 16) :
    (creditTests l s).channel j = if ((newlyOver l s).any fun i => (s.channel j).pointsAt i) = true
      then { s.channel j with credit := true }.ruled else s.channel j := by
  have tested : creditTests l s = applyRelays (channelsWhere (fun c => (newlyOver l s).any fun i => c.pointsAt i) s)
      ((newlyOver l s).foldl (fun s i => becomeOver i s) s) := rfl
  have credited : ((newlyOver l s).foldl (fun s i => becomeOver i s) s).channel j = (s.channel j).credited (newlyOver l s) :=
    channel_mapped (by rw [becomeOver_fold_mtr]) (channels ▸ hj)
  rw [tested, applyRelays_channel, credited, Channel.credited]
  by_cases points : ((newlyOver l s).any fun i => (s.channel j).pointsAt i) = true
  · rw [if_pos (mem_channelsWhere.mpr ⟨hj, points⟩), if_pos points, if_pos points]
  · rw [if_neg (fun member => points (mem_channelsWhere.mp member).2), if_neg points, if_neg points]

/-! ### A limit changed (R167) -/

/-- The new limit written. -/
def State.limited (s : State) (i n : Nat) : State := changeAccount i (fun a => { a with limit := n }) s

theorem limited_account {i n : Nat} (accounts : s.bil.accounts.length = 64) (hi : i < 64) :
    (s.limited i n).account i = { s.account i with limit := n } ∧
    ∀ j, j ≠ i → (s.limited i n).account j = s.account j := by
  refine ⟨?_, fun j hj => ?_⟩
  · exact (account_changeAccount ..).trans (if_pos ⟨rfl, accounts ▸ hi⟩)
  · exact (account_changeAccount ..).trans (if_neg fun h => hj h.1.symm)

theorem limited_keeps (i n : Nat) (s : State) : KeepsAllBut [.bil] s (s.limited i n) := keepsAllBut_of (by simp [State.limited])

theorem returnOpen_account (i j : Nat) (s : State) : (returnOpen i s).account j =
    (changeAccount i (fun a => { a with state := .opened }) s).account j :=
  account_of_bil (by simp [returnOpen]) j

theorem returnOpen_channel {i : Nat} (channels : s.mtr.channels.length = 16) {j : Nat} (hj : j < 16)
    (points : (s.channel j).pointsAt i = true) : (returnOpen i s).channel j = { s.channel j with credit := false }.ruled := by
  have opened : returnOpen i s = applyRelays (channelsWhere (Channel.pointsAt i) s)
      ((changeAccount i (fun a => { a with state := .opened }) s).withMtr { s.mtr with
        channels := s.mtr.channels.map fun c => if c.pointsAt i then { c with credit := false } else c }) := rfl
  have cleared := channel_mapped (s := s) (t := (changeAccount i (fun a => { a with state := .opened }) s).withMtr { s.mtr with
    channels := s.mtr.channels.map fun c => if c.pointsAt i then { c with credit := false } else c }) rfl (channels ▸ hj)
  rw [opened, applyRelays_channel, if_pos (mem_channelsWhere.mpr ⟨hj, points⟩), cleared, if_pos points]

section

variable {i n : Nat} (accounts : s.bil.accounts.length = 64) (channels : s.mtr.channels.length = 16) (hi : i < 64)

include accounts hi

theorem changeLimit_over_still (isOver : (s.account i).state = .over) (above : 0 < n ∧ n < (s.account i).charge) :
    changeLimit i n s = s.limited i n := by
  have account := (limited_account (n := n) accounts hi).1
  have state : ((s.limited i n).account i).state = .over := by rw [account]; exact isOver
  have exceeds : ((s.limited i n).account i).exceeds = true := by rw [account]; exact exceeds_iff.mpr above
  exact (if_pos state).trans (if_pos exceeds)

theorem changeLimit_returns (isOver : (s.account i).state = .over) (within : ¬(0 < n ∧ n < (s.account i).charge)) :
    changeLimit i n s = returnOpen i (s.limited i n) := by
  have account := (limited_account (n := n) accounts hi).1
  have state : ((s.limited i n).account i).state = .over := by rw [account]; exact isOver
  have exceeds : ¬((s.limited i n).account i).exceeds = true := by rw [account]; exact mt exceeds_iff.mp within
  exact (if_pos state).trans (if_neg exceeds)

theorem changeLimit_tested (opened : (s.account i).state = .opened) :
    changeLimit i n s = creditTests [i] (s.limited i n) := by
  have account := (limited_account (n := n) accounts hi).1
  have state : ¬((s.limited i n).account i).state = .over := by
    rw [account]
    exact fun same => absurd (opened.symm.trans same) (by decide)
  exact if_neg state

theorem limited_newlyOver (opened : (s.account i).state = .opened) : newlyOver [i] (s.limited i n) =
    if 0 < n ∧ n < (s.account i).charge then [i] else [] := by
  have account := (limited_account (n := n) accounts hi).1
  have test : (decide (((s.limited i n).account i).state = .opened) && ((s.limited i n).account i).exceeds) = true ↔
      0 < n ∧ n < (s.account i).charge := by
    rw [account]
    simp [opened, Account.exceeds]
  rw [newlyOver, List.filter_cons, List.filter_nil]
  simp only [test]

end

/-- An OPEN account that is above its new limit (R166, R167). -/
theorem limited_becomesOver {i n : Nat} (accounts : s.bil.accounts.length = 64) (channels : s.mtr.channels.length = 16)
    (hi : i < 64) (opened : (s.account i).state = .opened) (above : 0 < n ∧ n < (s.account i).charge) :
    let t := creditTests [i] (s.limited i n)
    t.account i = { s.account i with limit := n, state := .over } ∧
    PostsFirst [(.accountOver, .slot i, (s.account i).id, 0)] s t ∧
    ∀ j u, j < 16 → (s.channel j).mapping = some (i, u) → (t.channel j).credit = true ∧
      (t.channel j).shed = relayWanted { s.channel j with credit := true } := by
  have newly : newlyOver [i] (s.limited i n) = [i] := (limited_newlyOver accounts hi opened).trans (if_pos above)
  have account := (limited_account (n := n) accounts hi).1
  have length : (s.limited i n).bil.accounts.length = 64 := (adjust_length ..).trans accounts
  intro t
  refine ⟨?_, ?_, fun j u hj mapping => ?_⟩
  · have now : t.account i = _ := creditTests_account [i] (s.limited i n) i
    rw [now, newly, if_pos ⟨List.mem_singleton.mpr rfl, length.symm ▸ hi⟩, account]
    rfl
  · have became : t = applyRelays (channelsWhere (fun c => (newlyOver [i] (s.limited i n)).any fun i => c.pointsAt i) (s.limited i n))
        ((newlyOver [i] (s.limited i n)).foldl (fun s i => becomeOver i s) (s.limited i n)) := rfl
    have id : ((changeAccount i Account.overed (s.limited i n)).account i).id = (s.account i).id := by
      rw [account_changeAccount, if_pos ⟨rfl, length.symm ▸ hi⟩, account]
      rfl
    have wrote : Wrote [(.accountOver, .slot i, (s.account i).id, 0)] s (becomeOver i (s.limited i n)) := by
      have posted : Wrote [(.accountOver, .slot i, ((changeAccount i Account.overed (s.limited i n)).account i).id, 0)] s
          (postEvent .accountOver (.slot i) ((changeAccount i Account.overed (s.limited i n)).account i).id 0
            (changeAccount i Account.overed (s.limited i n))) := postEvent_wrote_on ..
      have became : Wrote [(.accountOver, .slot i, ((changeAccount i Account.overed (s.limited i n)).account i).id, 0)] s
          (becomeOver i (s.limited i n)) := posted.of_end rfl rfl
      rw [id] at became
      exact became
    rw [became, newly]
    exact wrote.first (applyRelays_tells (Tells.refl _))
  · have now : t.channel j = _ := creditTests_channel (l := [i]) (s := s.limited i n) channels hj
    have points : ((newlyOver [i] (s.limited i n)).any fun k => ((s.limited i n).channel j).pointsAt k) = true := by
      rw [newly]
      exact List.any_eq_true.mpr ⟨i, List.mem_singleton.mpr rfl, pointsAt_iff.mpr ⟨u, mapping⟩⟩
    rw [now, if_pos points]
    exact ⟨rfl, rfl⟩

/-- An OVER account that is above its new limit no longer, or has none (R167). -/
theorem limited_returnsOpen {i n : Nat} (accounts : s.bil.accounts.length = 64) (channels : s.mtr.channels.length = 16)
    (hi : i < 64) : let t := returnOpen i (s.limited i n)
    t.account i = { s.account i with limit := n, state := .opened } ∧ (∀ j, j ≠ i → t.account j = s.account j) ∧
    ∀ j u, j < 16 → (s.channel j).mapping = some (i, u) → (t.channel j).credit = false ∧
      (t.channel j).shed = relayWanted { s.channel j with credit := false } := by
  obtain ⟨account, others⟩ := limited_account (n := n) accounts hi
  have length : (s.limited i n).bil.accounts.length = 64 := (adjust_length ..).trans accounts
  intro t
  refine ⟨?_, fun j hj => ?_, fun j u hj mapping => ?_⟩
  · have now : t.account i = _ := returnOpen_account i i (s.limited i n)
    rw [now, account_changeAccount, if_pos ⟨rfl, length.symm ▸ hi⟩, account]
  · have now : t.account j = _ := returnOpen_account i j (s.limited i n)
    rw [now, account_changeAccount, if_neg (fun h => hj h.1.symm), others j hj]
  · have points : ((s.limited i n).channel j).pointsAt i = true := pointsAt_iff.mpr ⟨u, mapping⟩
    have now : t.channel j = _ := returnOpen_channel (s := s.limited i n) channels hj points
    rw [now]
    exact ⟨rfl, rfl⟩

theorem changeLimit_others {i n : Nat} (accounts : s.bil.accounts.length = 64) (channels : s.mtr.channels.length = 16)
    (hi : i < 64) {j : Nat} (hj : j ≠ i) : (changeLimit i n s).account j = s.account j := by
  have others := (limited_account (n := n) accounts hi).2 j hj
  have changed : changeLimit i n s = if ((s.limited i n).account i).state = .over then
      (if ((s.limited i n).account i).exceeds then s.limited i n else returnOpen i (s.limited i n))
      else creditTests [i] (s.limited i n) := rfl
  rw [changed]
  split
  · split
    · exact others
    · exact (limited_returnsOpen accounts channels hi).2.1 j hj
  · have out : j ∉ newlyOver [i] (s.limited i n) := fun member => hj (List.mem_singleton.mp (mem_newlyOver.mp member).1)
    rw [creditTests_account, if_neg (fun h => out h.1), others]

/-- Settles O51. -/
theorem accountOpenAndLimit : Obligations.AccountOpenAndLimit := by
  refine ⟨fun s tag id limit accounts => ?_, fun s tag id limit accounts channels => ?_⟩
  · intro answer held
    have run : answer = .next (if id.toNat = 0 then badField tag 0 s
        else if (s.slotOf id.toNat).isSome then refuse tag .inUse s
        else match s.freeSlot with
          | none => refuse tag .full s
          | some i => respond tag .ok [byte i] (changeAccount i (fun _ =>
              { Account.reset with id := id.toNat, state := .opened, limit := limit.toNat }) s)) :=
      (congrArg Host.Outcome.next (gated_all ..)).trans rfl
    have zero {h : id ≠ 0} : ¬id.toNat = 0 := fun same => h (BitVec.eq_of_toNat_eq same)
    rw [run]
    refine ⟨fun h => congrArg Host.Outcome.next (if_pos (by rw [h]; rfl)), fun h used => ?_, fun h free taken => ?_,
      fun i h free hi isFree lowest => ?_⟩
    · exact congrArg Host.Outcome.next ((if_neg (zero (h := h))).trans (if_pos (slotOf_isSome_iff.mpr used)))
    · rw [if_neg (zero (h := h)), if_neg (mt slotOf_isSome_iff.mp free), freeSlot_none taken]
      rfl
    · rw [if_neg (zero (h := h)), if_neg (mt slotOf_isSome_iff.mp free), freeSlot_some hi isFree lowest]
      refine ⟨_, rfl, keepsAllBut_of (by simp), rfl, ?_, fun j hj => ?_⟩
      · exact (account_changeAccount ..).trans (if_pos ⟨rfl, accounts ▸ hi⟩)
      · exact (account_changeAccount ..).trans (if_neg fun own => hj own.1.symm)
  · intro answer
    have run : answer = .next (match s.slotOf id.toNat with
        | none => refuse tag .notFound s
        | some i =>
          if (s.account i).state = .closing then refuse tag .state s
          else respond tag .ok [] (changeLimit i limit.toNat s)) := (congrArg Host.Outcome.next (gated_all ..)).trans rfl
    rw [run]
    refine ⟨fun absent => ?_, fun i holds => ?_⟩
    · cases found : s.slotOf id.toNat with
      | none => rfl
      | some i => exact absurd (slotOf_holds found) (absent i)
    · have hi := holds.1
      rw [slotOf_some holds]
      refine ⟨fun closing => congrArg Host.Outcome.next (if_pos closing), fun active => ?_⟩
      have open' : ¬(s.account i).state = .closing := by rcases active with h | h <;> (rw [h]; decide)
      refine ⟨changeLimit i limit.toNat s, congrArg Host.Outcome.next (if_neg open'),
        fun j hj => changeLimit_others accounts channels hi hj, fun opened within => ?_, fun isOver above => ?_,
        fun opened above => ?_, fun isOver within => ?_⟩
      · have idle : newlyOver [i] (s.limited i limit.toNat) = [] :=
          (limited_newlyOver accounts hi opened).trans (if_neg within)
        rw [changeLimit_tested accounts hi opened, creditTests_idle idle]
        exact ⟨(limited_account accounts hi).1, limited_keeps i limit.toNat s⟩
      · rw [changeLimit_over_still accounts hi isOver above]
        exact ⟨(limited_account accounts hi).1, limited_keeps i limit.toNat s⟩
      · rw [changeLimit_tested accounts hi opened]
        exact limited_becomesOver accounts channels hi opened above
      · rw [changeLimit_returns accounts hi isOver within]
        obtain ⟨account, -, credit⟩ := limited_returnsOpen (n := limit.toNat) accounts channels hi
        exact ⟨account, credit⟩

end Sys2Proof.Machine
end

section
/-! The charging of a sample (R159 to R163): the indices formed, and what one channel after the other does to each
account, pending record, tariff slot and channel. -/

namespace Sys2Proof.Machine

open Sys2Proof.Claims

variable {s t u x y : State}

/-! ### The indices formed (R160) -/

theorem formGroupCi_mtr (g : Nat) (s : State) :
    (formGroupCi g s).mtr = { s.mtr with heldCis := (formGroupCi g s).mtr.heldCis } := by
  unfold formGroupCi
  split <;> rfl

theorem formGroupCi_inputs (g h : Nat) (s : State) : costInputs h (formGroupCi g s) = costInputs h s := by
  unfold formGroupCi
  split <;> rfl

/-- The held index that a sample forms from the inputs of a group (R160). -/
def CostInputs.held (c : CostInputs) (before : HeldCi) : HeldCi :=
  match c.groupCi with
  | some v => ⟨v, true⟩
  | none => before

theorem formGroupCi_held (g : Nat) (s : State) : (formGroupCi g s).mtr.heldCis.length = s.mtr.heldCis.length ∧
    ∀ i, i < s.mtr.heldCis.length → nth ⟨0, false⟩ (formGroupCi g s).mtr.heldCis i =
      if g - 1 = i then (costInputs g s).held (nth ⟨0, false⟩ s.mtr.heldCis i) else nth ⟨0, false⟩ s.mtr.heldCis i := by
  cases made : (costInputs g s).groupCi with
  | none =>
    have same : formGroupCi g s = s := by simp only [formGroupCi, made]
    have stands (before : HeldCi) : (costInputs g s).held before = before := by simp only [CostInputs.held, made]
    rw [same]
    exact ⟨rfl, fun i hi => by rw [stands, ite_self]⟩
  | some v =>
    have written : formGroupCi g s = s.withMtr { s.mtr with heldCis := adjust (fun _ => ⟨v, true⟩) (g - 1) s.mtr.heldCis } := by
      simp only [formGroupCi, made]
    have becomes (before : HeldCi) : (costInputs g s).held before = ⟨v, true⟩ := by simp only [CostInputs.held, made]
    rw [written]
    refine ⟨adjust_length .., fun i hi => ?_⟩
    rw [State.withMtr_mtr, nth_adjust, becomes]
    simp only [hi, and_true]

theorem held_held (c : CostInputs) (before : HeldCi) : c.held (c.held before) = c.held before := by
  unfold CostInputs.held
  split <;> rfl

theorem formGroupCi_fold (l : List Nat) (s : State) :
    (l.foldl (fun s g => formGroupCi g s) s).mtr =
      { s.mtr with heldCis := (l.foldl (fun s g => formGroupCi g s) s).mtr.heldCis } ∧
    (∀ h, costInputs h (l.foldl (fun s g => formGroupCi g s) s) = costInputs h s) ∧
    ((∀ h ∈ l, 1 ≤ h) → ∀ g, 1 ≤ g → g ≤ s.mtr.heldCis.length →
      nth ⟨0, false⟩ (l.foldl (fun s g => formGroupCi g s) s).mtr.heldCis (g - 1) =
        if g ∈ l then (costInputs g s).held (nth ⟨0, false⟩ s.mtr.heldCis (g - 1)) else nth ⟨0, false⟩ s.mtr.heldCis (g - 1)) := by
  induction l generalizing s with
  | nil => exact ⟨rfl, fun _ => rfl, fun _ _ _ _ => rfl⟩
  | cons k l ih =>
    obtain ⟨mtr, inputs, held⟩ := ih (formGroupCi k s)
    obtain ⟨length, one⟩ := formGroupCi_held k s
    rw [List.foldl_cons]
    refine ⟨?_, fun h => (inputs h).trans (formGroupCi_inputs ..), fun all g low high => ?_⟩
    · rw [mtr, formGroupCi_mtr]
    · rw [held (fun h member => all h (List.mem_cons_of_mem k member)) g low (length ▸ high), formGroupCi_inputs,
        one (g - 1) (by omega)]
      have first := all k List.mem_cons_self
      by_cases here : g = k
      · subst here
        simp [held_held]
      · rw [if_neg (by omega : ¬k - 1 = g - 1)]
        simp [here]

theorem formGroupCis_mtr (s : State) : (formGroupCis s).mtr = { s.mtr with heldCis := (formGroupCis s).mtr.heldCis } := by
  unfold formGroupCis
  split
  · rfl
  · exact (formGroupCi_fold ..).1

theorem formGroupCis_inputs (h : Nat) (s : State) : costInputs h (formGroupCis s) = costInputs h s := by
  unfold formGroupCis
  split
  · rfl
  · exact (formGroupCi_fold ..).2.1 h

theorem formsFor_iff {g : Nat} : FormsFor s g ↔ s.hpt.nodeState ≠ .config ∧ g ∈ billingGroups s := by
  unfold FormsFor billingGroups
  refine and_congr_right fun _ => ?_
  cases s.hpt.role with
  | none => simp
  | some role => cases role <;> simp

theorem formGroupCis_held {g : Nat} (length : s.mtr.heldCis.length = 15) (all : ∀ h, FormsFor s h → 1 ≤ h) (low : 1 ≤ g)
    (high : g ≤ 15) :
    (FormsFor s g → nth ⟨0, false⟩ (formGroupCis s).mtr.heldCis (g - 1) =
      (costInputs g s).held (nth ⟨0, false⟩ s.mtr.heldCis (g - 1))) ∧
    (¬FormsFor s g → nth ⟨0, false⟩ (formGroupCis s).mtr.heldCis (g - 1) = nth ⟨0, false⟩ s.mtr.heldCis (g - 1)) := by
  by_cases config : s.hpt.nodeState = .config
  · have same : formGroupCis s = s := if_pos config
    rw [same]
    exact ⟨fun forms => absurd config forms.1, fun _ => rfl⟩
  · have formed : formGroupCis s = (billingGroups s).foldl (fun s g => formGroupCi g s) s := if_neg config
    have held := (formGroupCi_fold (billingGroups s) s).2.2 (fun h member => all h (formsFor_iff.mpr ⟨config, member⟩)) g low
      (length ▸ high)
    rw [formed, held]
    exact ⟨fun forms => if_pos (formsFor_iff.mp forms).2, fun no => if_neg fun member => no (formsFor_iff.mpr ⟨config, member⟩)⟩

theorem costInputs_weight {g : Nat} (positive : 0 < (costInputs g s).weight) : 0 < (costInputs g s).count := by
  unfold costInputs costInputsOf at positive ⊢
  cases sets : onlineSets g s with
  | nil => rw [sets] at positive; exact absurd positive (by decide)
  | cons v l => exact Nat.succ_pos _

theorem groupCi_isNone {g : Nat} : (costInputs g s).groupCi.isNone = !decide (0 < (costInputs g s).count) := by
  unfold CostInputs.groupCi
  by_cases weight : 0 < (costInputs g s).weight
  · rw [if_pos weight, decide_eq_true (costInputs_weight weight)]
    rfl
  · rw [if_neg weight]
    by_cases count : 0 < (costInputs g s).count
    · rw [if_pos count, decide_eq_true count]
      rfl
    · rw [if_neg count, decide_eq_false count]
      rfl

theorem roundDiv_rounded (a : Nat) {b : Nat} (positive : 0 < b) : Rounded a b (roundDiv a b) := by
  obtain ⟨low, high⟩ := roundDiv_spec a b positive
  exact ⟨low, by rw [Nat.mul_succ]; exact high⟩

/-! ### One channel of a sample (R161 to R163) -/

/-- The energy of a channel in the held sample, from the state that the charging starts in. -/
abbrev State.drawnBy (x : State) (i : Nat) : Nat := nth 0 x.fpc.sample.energies i

/-- An account charged for one channel's energy on its tariff (R161, R162). -/
def Account.charged (y : Account) (e : Nat) (r : Rate) (estimated : Bool) (tariff : Tariff) : Account :=
  if 0 < e then match tariff with
    | .resolved _ base pass => (y.meter e r estimated).price (e * (base * 1000 + r.ci * pass))
    | _ => y.meter e r estimated
  else y.meter e r estimated

/-- What the channel `i` of a sample does to account `a`. -/
def Account.sampled (x : State) (r : Rate) (a : Nat) (y : Account) (i : Nat) : Account :=
  match (x.channel i).mapping with
  | some (b, n) => if b = a then y.charged (x.drawnBy i) r x.fpc.sample.estimated (x.tariff n) else y
  | none => y

/-- The channel `i` draws on a REFERENCE tariff. -/
def State.pends (x : State) (i n : Nat) : Bool := decide (0 < x.drawnBy i) && (x.tariff n).isReference

/-- What the channel `i` of a sample does to a pending record (R163). -/
def PendingRec.sampled (x : State) (r : Rate) (p : PendingRec) (i : Nat) : PendingRec :=
  match (x.channel i).mapping with
  | some (b, n) => if p.isFor b n && x.pends i n then
      { p with energy := add64 p.energy (x.drawnBy i), weighted := add64 p.weighted (x.drawnBy i * r.ci)
               groups := seePresent r.group p.groups }
    else p
  | none => p

/-- What the channel `i` of a sample does to tariff slot `n` (R157). -/
def TariffSlot.sampled (x : State) (n : Nat) (slot : TariffSlot) (i : Nat) : TariffSlot :=
  match (x.channel i).mapping with
  | some (_, m) => if (m == n && x.pends i n) && slot.timer.isNone then { slot with timer := some (x.now + resolveTime) } else slot
  | none => slot

/-- What the sample leaves of a channel, but for its relay. -/
def Channel.sampled (x : State) (i : Nat) (c : Channel) : Channel :=
  { c with power := nth 0 x.fpc.sample.powers i, energy := add64 c.energy (x.drawnBy i) }

/-- Two states between channels of one sample: what the next channel reads is as it was at the start. -/
structure Midway (x y : State) : Prop where
  fpc : y.fpc = x.fpc
  clock : y.clock = x.clock
  mapping : ∀ j, (y.channel j).mapping = (x.channel j).mapping
  tariff : ∀ n, y.tariff n = x.tariff n
  accounts : y.bil.accounts.length = x.bil.accounts.length
  channels : y.mtr.channels.length = x.mtr.channels.length
  heldCis : y.mtr.heldCis = x.mtr.heldCis

theorem Midway.refl (x : State) : Midway x x := ⟨rfl, rfl, fun _ => rfl, fun _ => rfl, rfl, rfl, rfl⟩

/-- What one channel, `i`, does between two states. -/
structure ChargedBy (x : State) (r : Rate) (i : Nat) (y z : State) : Prop where
  midway : Midway x z
  account : ∀ a, a < x.bil.accounts.length → z.account a = (y.account a).sampled x r a i
  pendings : z.mtr.pendings = y.mtr.pendings.map (Option.map (·.sampled x r i))
  tariffs : ∀ n : Nat, z.mtr.tariffs[n]? = y.mtr.tariffs[n]?.map (·.sampled x n i)
  channel : ∀ j, z.channel j = if j = i ∧ j < x.mtr.channels.length then (y.channel j).sampled x j else y.channel j

theorem adjust_adjust {α : Type} (f g : α → α) (i : Nat) (l : List α) : adjust g i (adjust f i l) = adjust (g ∘ f) i l := by
  induction l generalizing i with
  | nil => cases i <;> rfl
  | cons x l ih =>
    cases i with
    | zero => rfl
    | succ i => exact congrArg (x :: ·) (ih i)

theorem changeAccount_changeAccount (i : Nat) (f g : Account → Account) (s : State) :
    changeAccount i g (changeAccount i f s) = changeAccount i (g ∘ f) s :=
  congrArg (fun l => s.withBil { s.bil with accounts := l }) (adjust_adjust f g i s.bil.accounts)

/-- The channel's own figures taken from the sample (R161, step 1). -/
def State.metered (s : State) (i : Nat) : State :=
  changeChannel i (fun c => { c with
    power := nth 0 s.fpc.sample.powers i, energy := add64 c.energy (nth 0 s.fpc.sample.energies i) }) s

/-- The figures of the channel, and its account charged. -/
def State.chargedTo (s : State) (i b : Nat) (f : Account → Account) : State := changeAccount b f (s.metered i)

/-- The pending record of the pair, and the slot's timer (R157, R163). -/
def State.pended (s : State) (b n key e : Nat) (r : Rate) : State :=
  if (nth ⟨.empty, none⟩ (addPending b n e r s).mtr.tariffs n).timer.isNone then requestResolve n key (addPending b n e r s)
  else addPending b n e r s

theorem metered_channel (i j : Nat) (s : State) : (s.metered i).channel j =
    if j = i ∧ j < s.mtr.channels.length then (s.channel j).sampled s j else s.channel j := by
  have read : (s.metered i).channel j = if i = j ∧ j < s.mtr.channels.length then _ else _ := channel_changeChannel ..
  rw [read]
  by_cases here : j = i
  · subst here
    rfl
  · rw [if_neg (fun h => here h.1.symm), if_neg (fun h => here h.1)]

theorem metered_mapping (i j : Nat) (s : State) : ((s.metered i).channel j).mapping = (s.channel j).mapping := by
  rw [metered_channel]
  split <;> rfl

/-- What a channel charges, on the tariff that it maps (R161). -/
theorem chargeChannel_eq (r : Rate) (i : Nat) (s : State) : chargeChannel r i s = match (s.channel i).mapping with
    | none => s.metered i
    | some (b, n) => match s.pends i n, s.tariff n with
      | true, .reference key => (s.chargedTo i b (·.charged (s.drawnBy i) r s.fpc.sample.estimated (s.tariff n))).pended b n key
          (s.drawnBy i) r
      | _, _ => s.chargedTo i b (·.charged (s.drawnBy i) r s.fpc.sample.estimated (s.tariff n)) := by
  have run : chargeChannel r i s = match ((s.metered i).channel i).mapping with
      | none => s.metered i
      | some (b, n) => if 0 < s.drawnBy i
          then priceEnergy b n (s.drawnBy i) r (s.chargedTo i b (·.meter (s.drawnBy i) r s.fpc.sample.estimated))
          else s.chargedTo i b (·.meter (s.drawnBy i) r s.fpc.sample.estimated) := rfl
  rw [run, metered_mapping]
  cases (s.channel i).mapping with
  | none => rfl
  | some pair =>
    obtain ⟨b, n⟩ := pair
    have same : (s.chargedTo i b (·.meter (s.drawnBy i) r s.fpc.sample.estimated)).tariff n = s.tariff n := rfl
    unfold State.pends priceEnergy Account.charged
    dsimp only
    rw [same]
    by_cases draws : 0 < s.drawnBy i
    · simp only [draws, if_true, decide_true, Bool.true_and]
      cases s.tariff n with
      | empty => rfl
      | reference key => rfl
      | resolved key base pass =>
        exact changeAccount_changeAccount ..
    · simp only [draws, if_false, decide_false, Bool.false_and]

theorem addPending_pendings (b n e : Nat) (r : Rate) (s : State) : (addPending b n e r s).mtr.pendings =
    s.mtr.pendings.map (Option.map fun p => if p.isFor b n then
      { p with energy := add64 p.energy e, weighted := add64 p.weighted (e * r.ci), groups := seePresent r.group p.groups }
      else p) := by
  unfold addPending
  rw [State.withMtr_mtr]
  refine List.map_congr_left fun p _ => ?_
  cases p with
  | none => rfl
  | some p =>
    dsimp only [Option.map]
    split <;> rfl

/-- What a pending record's energy changes: the pair's record, and the slot's timer (R157, R163). -/
theorem pended_spec (s : State) (b n key e : Nat) (r : Rate) : let z := s.pended b n key e r
    z.mtr = { s.mtr with pendings := (addPending b n e r s).mtr.pendings, tariffs := z.mtr.tariffs } ∧ z.fpc = s.fpc ∧
    z.clock = s.clock ∧ z.bil = s.bil ∧
    ∀ m : Nat, z.mtr.tariffs[m]? = s.mtr.tariffs[m]?.map fun slot =>
      if m = n ∧ slot.timer.isNone = true then { slot with timer := some (s.now + resolveTime) } else slot := by
  have same : nth ⟨.empty, none⟩ (addPending b n e r s).mtr.tariffs n = nth ⟨.empty, none⟩ s.mtr.tariffs n := rfl
  have found {m : Nat} {slot : TariffSlot} (at_m : s.mtr.tariffs[m]? = some slot) : nth ⟨.empty, none⟩ s.mtr.tariffs m = slot := by
    rw [nth, List.getD_eq_getElem?_getD, at_m]
    rfl
  unfold State.pended
  by_cases idle : (nth ⟨.empty, none⟩ s.mtr.tariffs n).timer.isNone = true
  · rw [same, if_pos idle]
    have tariffs : (requestResolve n key (addPending b n e r s)).mtr.tariffs =
        adjust (fun slot => { slot with timer := some (s.now + resolveTime) }) n s.mtr.tariffs := by simp [requestResolve]; rfl
    refine ⟨?_, by simp, by simp, by simp, fun m => ?_⟩
    · simp only [requestResolve, postEvent_frame, State.withMtr_mtr]
      rfl
    rw [tariffs, getElem?_adjust]
    cases at_m : s.mtr.tariffs[m]? with
    | none => simp
    | some slot =>
      by_cases here : m = n
      · have unset : slot.timer.isNone = true := found at_m ▸ here ▸ idle
        rw [if_pos here]
        exact congrArg some (if_pos ⟨here, unset⟩).symm
      · rw [if_neg here]
        exact congrArg some (if_neg fun h => here h.1).symm
  · rw [same, if_neg idle]
    refine ⟨rfl, rfl, rfl, rfl, fun m => ?_⟩
    have stands : (addPending b n e r s).mtr.tariffs[m]? = s.mtr.tariffs[m]? := rfl
    rw [stands]
    cases at_m : s.mtr.tariffs[m]? with
    | none => rfl
    | some slot =>
      refine congrArg some (if_neg fun h => idle ?_).symm
      rw [← h.1, found at_m]
      exact h.2

/-! ### Channel after channel -/

theorem Midway.drawnBy (h : Midway x y) (i : Nat) : y.drawnBy i = x.drawnBy i := by rw [State.drawnBy, State.drawnBy, h.fpc]

theorem Midway.pends (h : Midway x y) (i n : Nat) : y.pends i n = x.pends i n := by
  rw [State.pends, State.pends, h.drawnBy, h.tariff]

theorem Midway.now (h : Midway x y) : y.now = x.now := by rw [State.now, State.now, h.clock]

/-- The figures of a channel alone. -/
theorem Midway.metered (h : Midway x y) (i : Nat) : Midway x (y.metered i) where
  fpc := h.fpc
  clock := h.clock
  mapping j := (metered_mapping i j y).trans (h.mapping j)
  tariff := h.tariff
  accounts := h.accounts
  channels := (adjust_length ..).trans h.channels
  heldCis := h.heldCis

theorem Midway.metered_channel (h : Midway x y) (i j : Nat) : (y.metered i).channel j =
    if j = i ∧ j < x.mtr.channels.length then (y.channel j).sampled x j else y.channel j := by
  have figures : (y.channel j).sampled y j = (y.channel j).sampled x j := by
    rw [Channel.sampled, Channel.sampled, h.drawnBy, h.fpc]
  rw [Machine.metered_channel, h.channels, figures]

/-- The figures of a channel, and its account charged, where nothing pends. -/
theorem Midway.chargedTo {r : Rate} {i b n : Nat} (h : Midway x y) (mapping : (x.channel i).mapping = some (b, n)) :
    let z := y.chargedTo i b (·.charged (y.drawnBy i) r y.fpc.sample.estimated (y.tariff n))
    Midway x z ∧ (∀ a, a < x.bil.accounts.length → z.account a = (y.account a).sampled x r a i) ∧
    (∀ j, z.channel j = if j = i ∧ j < x.mtr.channels.length then (y.channel j).sampled x j else y.channel j) := by
  have metered := h.metered i
  refine ⟨⟨metered.fpc, metered.clock, metered.mapping, metered.tariff, ?_, metered.channels, metered.heldCis⟩, fun a ha => ?_,
    h.metered_channel i⟩
  · exact (adjust_length ..).trans h.accounts
  · have read : (y.chargedTo i b (·.charged (y.drawnBy i) r y.fpc.sample.estimated (y.tariff n))).account a =
        if b = a ∧ a < y.bil.accounts.length then _ else y.account a := account_changeAccount ..
    rw [read, h.drawnBy, h.fpc, h.tariff, Account.sampled, mapping]
    simp only [h.accounts, ha, and_true]
    rfl

theorem sampled_unmapped (r : Rate) {i : Nat} (mapping : (x.channel i).mapping = none) :
    (∀ a (v : Account), v.sampled x r a i = v) ∧ (∀ p : PendingRec, p.sampled x r i = p) ∧
    ∀ n (v : TariffSlot), v.sampled x n i = v := by
  refine ⟨fun a v => ?_, fun p => ?_, fun n v => ?_⟩
  · rw [Account.sampled, mapping]
  · rw [PendingRec.sampled, mapping]
  · rw [TariffSlot.sampled, mapping]

theorem sampled_settles (r : Rate) {i b n : Nat} (mapping : (x.channel i).mapping = some (b, n)) (quiet : x.pends i n = false) :
    (∀ p : PendingRec, p.sampled x r i = p) ∧ ∀ m (v : TariffSlot), v.sampled x m i = v := by
  refine ⟨fun p => ?_, fun m v => ?_⟩
  · rw [PendingRec.sampled, mapping]
    simp [quiet]
  · rw [TariffSlot.sampled, mapping]
    by_cases here : n = m
    · subst here
      simp [quiet]
    · simp [here]

theorem sampled_pends (r : Rate) {i b n : Nat} (mapping : (x.channel i).mapping = some (b, n)) (pends : x.pends i n = true) :
    (∀ p : PendingRec, p.sampled x r i = if p.isFor b n then { p with
      energy := add64 p.energy (x.drawnBy i), weighted := add64 p.weighted (x.drawnBy i * r.ci)
      groups := seePresent r.group p.groups } else p) ∧
    ∀ m (v : TariffSlot), v.sampled x m i =
      if m = n ∧ v.timer.isNone = true then { v with timer := some (x.now + resolveTime) } else v := by
  refine ⟨fun p => ?_, fun m v => ?_⟩
  · rw [PendingRec.sampled, mapping]
    simp [pends]
  · rw [TariffSlot.sampled, mapping]
    by_cases here : m = n
    · subst here
      simp [pends]
    · simp [here, Ne.symm here]

theorem map_option_same {α : Type} {f : α → α} (same : ∀ p, f p = p) (l : List (Option α)) : l.map (Option.map f) = l := by
  have id' : f = id := funext same
  rw [id', Option.map_id, List.map_id]

/-- One channel of a sample. -/
theorem chargeChannel_charges (r : Rate) (i : Nat) (h : Midway x y) : ChargedBy x r i y (chargeChannel r i y) := by
  have settled {z : State} (h : Midway x z) (account : ∀ a, a < x.bil.accounts.length → z.account a = (y.account a).sampled x r a i)
      (mtr : z.mtr = { y.mtr with channels := z.mtr.channels })
      (channel : ∀ j, z.channel j = if j = i ∧ j < x.mtr.channels.length then (y.channel j).sampled x j else y.channel j)
      (records : ∀ p : PendingRec, p.sampled x r i = p) (slots : ∀ m (v : TariffSlot), v.sampled x m i = v) : ChargedBy x r i y z := by
    refine ⟨h, account, ?_, fun n => ?_, channel⟩
    · rw [map_option_same records, mtr]
    · have same : (fun v : TariffSlot => v.sampled x n i) = id := funext (slots n)
      rw [same, Option.map_id, mtr]
      rfl
  rw [chargeChannel_eq]
  cases mapping : (x.channel i).mapping with
  | none =>
    obtain ⟨accounts, records, slots⟩ := sampled_unmapped r mapping
    rw [h.mapping, mapping]
    exact settled (h.metered i) (fun a _ => (accounts a _).symm) rfl (h.metered_channel i) records slots
  | some pair =>
    obtain ⟨b, n⟩ := pair
    obtain ⟨midway, account, channel⟩ := h.chargedTo (r := r) mapping
    rw [h.mapping, mapping]
    dsimp only
    cases pends : x.pends i n with
    | false =>
      obtain ⟨records, slots⟩ := sampled_settles r mapping pends
      rw [h.pends, pends]
      exact settled midway account rfl channel records slots
    | true =>
      have names : (x.tariff n).isReference = true := (Bool.and_eq_true_iff.mp pends).2
      obtain ⟨key, reference⟩ := isReference_iff.mp names
      obtain ⟨records, slots⟩ := sampled_pends r mapping pends
      rw [h.pends, pends, h.tariff, reference]
      rw [h.tariff, reference] at midway account channel
      dsimp only
      generalize made : y.chargedTo i b (·.charged (y.drawnBy i) r y.fpc.sample.estimated (.reference key)) = z at *
      have pendings : z.mtr.pendings = y.mtr.pendings := by rw [← made]; rfl
      have tariffs : z.mtr.tariffs = y.mtr.tariffs := by rw [← made]; rfl
      obtain ⟨mtr, fpc, clock, bil, timers⟩ := pended_spec z b n key (y.drawnBy i) r
      refine ⟨⟨fpc.trans midway.fpc, clock.trans midway.clock, fun j => ?_, fun m => ?_, ?_, ?_, ?_⟩, fun a ha => ?_, ?_,
        fun m => ?_, fun j => ?_⟩
      · rw [channel_of_mtr (s := z) (by rw [mtr])]
        exact midway.mapping j
      · refine Eq.trans ?_ (midway.tariff m)
        rw [State.tariff, State.tariff, nth, nth, List.getD_eq_getElem?_getD, List.getD_eq_getElem?_getD, timers]
        cases z.mtr.tariffs[m]? with
        | none => rfl
        | some slot =>
          dsimp only [Option.map, Option.getD]
          split <;> rfl
      · rw [bil]
        exact midway.accounts
      · rw [mtr]
        exact midway.channels
      · rw [mtr]
        exact midway.heldCis
      · rw [account_of_bil (s := z) (by rw [bil])]
        exact account a ha
      · have same : (fun p : PendingRec => p.sampled x r i) = _ := funext records
        rw [mtr, same, ← h.drawnBy, ← pendings]
        exact addPending_pendings ..
      · have same : (fun v : TariffSlot => v.sampled x m i) = _ := funext (slots m)
        rw [timers, same, tariffs, midway.now]
      · rw [channel_of_mtr (s := z) (by rw [mtr])]
        exact channel j

/-- Channels of a sample charged one after the other: each part goes its own way. -/
theorem chargeChannel_fold (r : Rate) (l : List Nat) (h : Midway x y) :
    Midway x (l.foldl (fun s i => chargeChannel r i s) y) ∧
    (∀ a, a < x.bil.accounts.length → (l.foldl (fun s i => chargeChannel r i s) y).account a =
      l.foldl (fun v i => v.sampled x r a i) (y.account a)) ∧
    (l.foldl (fun s i => chargeChannel r i s) y).mtr.pendings =
      y.mtr.pendings.map (Option.map fun p => l.foldl (fun p i => p.sampled x r i) p) ∧
    (∀ n : Nat, (l.foldl (fun s i => chargeChannel r i s) y).mtr.tariffs[n]? =
      y.mtr.tariffs[n]?.map fun v => l.foldl (fun v i => v.sampled x n i) v) ∧
    (l.Nodup → ∀ j, (l.foldl (fun s i => chargeChannel r i s) y).channel j =
      if j ∈ l ∧ j < x.mtr.channels.length then (y.channel j).sampled x j else y.channel j) := by
  induction l generalizing y with
  | nil =>
    refine ⟨h, fun _ _ => rfl, (map_option_same (fun _ => rfl) _).symm, fun n => ?_, fun _ j => ?_⟩
    · exact (congrFun Option.map_id _).symm
    · exact (if_neg fun h => List.not_mem_nil h.1).symm
  | cons i l ih =>
    obtain ⟨midway, account, pendings, tariffs, channel⟩ := chargeChannel_charges r i h
    obtain ⟨midway', account', pendings', tariffs', channel'⟩ := ih midway
    rw [List.foldl_cons]
    refine ⟨midway', fun a ha => ?_, ?_, fun n => ?_, fun distinct j => ?_⟩
    · rw [account' a ha, account a ha, List.foldl_cons]
    · rw [pendings', pendings, List.map_map, Option.map_comp_map]
      rfl
    · rw [tariffs', tariffs, Option.map_map]
      rfl
    · obtain ⟨fresh, distinct'⟩ := List.nodup_cons.mp distinct
      rw [channel' distinct', channel]
      by_cases here : j = i
      · subst here
        simp [fresh]
      · simp [here]

end Sys2Proof.Machine
end

section
/-! The charging of a sample summed up (R159 to R163, R166): O49. -/

namespace Sys2Proof.Machine

open Sys2Proof.Claims

variable {s t u x : State}

/-! ### What several channels charge an account (R161, R162) -/

theorem seePresent_eq (g : Option Nat) (l : List Nat) : seePresent g l = seenWith g true l := by
  unfold seePresent seenWith seeGroup
  cases g with
  | none => rfl
  | some g =>
    by_cases seen : g ∈ l <;> by_cases room : l.length < 2 <;> simp [seen, room]

theorem seenWith_false (g : Option Nat) (l : List Nat) : seenWith g false l = l := by
  unfold seenWith
  cases g <;> rfl

theorem seenWith_seenWith (g : Option Nat) (c d : Bool) (l : List Nat) :
    seenWith g d (seenWith g c l) = seenWith g (c || d) l := by
  cases c with
  | false => rw [seenWith_false, Bool.false_or]
  | true =>
    cases d with
    | false => rw [seenWith_false, Bool.or_false]
    | true =>
      unfold seenWith
      cases g with
      | none => rfl
      | some g =>
        by_cases seen : g ∈ l <;> by_cases room : l.length < 2 <;> simp [seen, room]

/-- The channel `i` maps a pair that satisfies `p`. -/
def State.mapsTo (x : State) (p : Nat × Nat → Bool) (i : Nat) : Bool := (x.channel i).mapping.any p

/-- The channel `i` draws for a pair that satisfies `p`. -/
def State.drawsFor (x : State) (p : Nat × Nat → Bool) (i : Nat) : Bool := x.mapsTo p i && decide (0 < x.drawnBy i)

/-- What the channel `i` draws for a pair that satisfies `p`. -/
def State.drawnTo (x : State) (p : Nat × Nat → Bool) (i : Nat) : Nat := if x.mapsTo p i then x.drawnBy i else 0

/-- What the channel `i` prices for account `a` (R162). -/
def State.pricedBy (x : State) (ci a i : Nat) : Nat :=
  match (x.channel i).mapping with
  | some (b, n) => if b = a then (match x.tariff n with
      | .resolved _ base pass => x.drawnBy i * (base * 1000 + ci * pass)
      | _ => 0) else 0
  | none => 0

/-- An account after the channels of a list (R161, R162). -/
structure SampledAs (x : State) (r : Rate) (a : Nat) (l : List Nat) (v w : Account) : Prop where
  priced : Account.Priced ((l.map (x.pricedBy r.ci a)).sum) v w
  energy : v.energy + (l.map (x.drawnTo (·.1 == a))).sum < 2 ^ 64 → w.energy = v.energy + (l.map (x.drawnTo (·.1 == a))).sum
  intEnergy : v.intEnergy + (l.map (x.drawnTo (·.1 == a))).sum < 2 ^ 64 →
    w.intEnergy = v.intEnergy + (l.map (x.drawnTo (·.1 == a))).sum
  estimated : w.estimated = (v.estimated || (x.fpc.sample.estimated && l.any (x.mapsTo (·.1 == a))))
  staleRate : w.staleRate = (v.staleRate || (r.stale && l.any (x.drawsFor (·.1 == a))))
  noSource : w.noSource = (v.noSource || (r.group.isNone && l.any (x.drawsFor (·.1 == a))))
  groups : w.groups = seenWith r.group (l.any (x.drawsFor (·.1 == a))) v.groups

theorem meter_spec (e : Nat) (r : Rate) (estimated : Bool) (v : Account) : let w := v.meter e r estimated
    Account.Priced 0 v w ∧ (v.energy + e < 2 ^ 64 → w.energy = v.energy + e) ∧
    (v.intEnergy + e < 2 ^ 64 → w.intEnergy = v.intEnergy + e) ∧ w.estimated = (v.estimated || estimated) ∧
    w.staleRate = (v.staleRate || (r.stale && decide (0 < e))) ∧ w.noSource = (v.noSource || (r.group.isNone && decide (0 < e))) ∧
    w.groups = seenWith r.group (decide (0 < e)) v.groups := by
  refine ⟨.nothing rfl rfl rfl rfl rfl rfl, add64_eq, add64_eq, rfl, ?_, ?_, ?_⟩
  · rw [Bool.and_comm]
    rfl
  · rw [Bool.and_comm]
    rfl
  · have groups : (v.meter e r estimated).groups = if 0 < e then seePresent r.group v.groups else v.groups := rfl
    rw [groups, seePresent_eq]
    by_cases draws : 0 < e
    · simp [draws]
    · simp [draws, seenWith_false]

/-- What a charge at a tariff comes to. -/
def Tariff.amount (e ci : Nat) : Tariff → Nat
  | .resolved _ base pass => e * (base * 1000 + ci * pass)
  | _ => 0

theorem charged_spec (e : Nat) (r : Rate) (estimated : Bool) (n : Tariff) (v : Account) : let w := v.charged e r estimated n
    Account.Priced (n.amount e r.ci) v w ∧ (v.energy + e < 2 ^ 64 → w.energy = v.energy + e) ∧
    (v.intEnergy + e < 2 ^ 64 → w.intEnergy = v.intEnergy + e) ∧ w.estimated = (v.estimated || estimated) ∧
    w.staleRate = (v.staleRate || (r.stale && decide (0 < e))) ∧ w.noSource = (v.noSource || (r.group.isNone && decide (0 < e))) ∧
    w.groups = seenWith r.group (decide (0 < e)) v.groups := by
  have metered := meter_spec e r estimated v
  have split : n.amount e r.ci = 0 ∧ v.charged e r estimated n = v.meter e r estimated ∨
      v.charged e r estimated n = (v.meter e r estimated).price (n.amount e r.ci) := by
    by_cases draws : 0 < e
    · cases n with
      | resolved key base pass => exact .inr (if_pos draws)
      | _ => exact .inl ⟨rfl, if_pos draws⟩
    · refine .inl ⟨?_, if_neg draws⟩
      rw [Nat.eq_zero_of_not_pos draws]
      cases n with
      | resolved key base pass => exact Nat.zero_mul _
      | _ => rfl
  rcases split with ⟨nothing, same⟩ | priced
  · rw [nothing, same]
    exact metered
  · obtain ⟨nothing, rest⟩ := metered
    have both := nothing.trans (price_priced (n.amount e r.ci) (v.meter e r estimated))
    rw [Nat.zero_add] at both
    rw [priced]
    exact ⟨both, rest⟩

theorem sampledAs_nil (x : State) (r : Rate) (a : Nat) (v : Account) : SampledAs x r a [] v v where
  priced := .refl v
  energy _ := rfl
  intEnergy _ := rfl
  estimated := by simp
  staleRate := by simp
  noSource := by simp
  groups := (seenWith_false ..).symm

theorem SampledAs.append {r : Rate} {a : Nat} {l m : List Nat} {v w z : Account} (h : SampledAs x r a l v w)
    (k : SampledAs x r a m w z) : SampledAs x r a (l ++ m) v z where
  priced := by
    rw [List.map_append, List.sum_append]
    exact h.priced.trans k.priced
  energy fits := by
    rw [List.map_append, List.sum_append] at fits ⊢
    have first := h.energy (by omega)
    rw [k.energy (by omega), first, Nat.add_assoc]
  intEnergy fits := by
    rw [List.map_append, List.sum_append] at fits ⊢
    have first := h.intEnergy (by omega)
    rw [k.intEnergy (by omega), first, Nat.add_assoc]
  estimated := by rw [k.estimated, h.estimated, List.any_append, Bool.and_or_distrib_left, Bool.or_assoc]
  staleRate := by rw [k.staleRate, h.staleRate, List.any_append, Bool.and_or_distrib_left, Bool.or_assoc]
  noSource := by rw [k.noSource, h.noSource, List.any_append, Bool.and_or_distrib_left, Bool.or_assoc]
  groups := by rw [k.groups, h.groups, seenWith_seenWith, List.any_append]

/-- One channel of a sample at an account. -/
theorem sampled_one (x : State) (r : Rate) (a i : Nat) (v : Account) : SampledAs x r a [i] v (v.sampled x r a i) := by
  have passes (other : x.mapsTo (·.1 == a) i = false) (same : v.sampled x r a i = v) (nothing : x.pricedBy r.ci a i = 0) :
      SampledAs x r a [i] v (v.sampled x r a i) := by
    have quiet : x.drawsFor (·.1 == a) i = false := by rw [State.drawsFor, other, Bool.false_and]
    have none : x.drawnTo (·.1 == a) i = 0 := by rw [State.drawnTo, other]; rfl
    rw [same]
    refine ⟨?_, fun _ => ?_, fun _ => ?_, ?_, ?_, ?_, ?_⟩
    · rw [List.map_singleton, List.sum_singleton, nothing]
      exact .refl v
    · rw [List.map_singleton, List.sum_singleton, none, Nat.add_zero]
    · rw [List.map_singleton, List.sum_singleton, none, Nat.add_zero]
    · simp [other]
    · simp [quiet]
    · simp [quiet]
    · simp [quiet, seenWith_false]
  cases mapping : (x.channel i).mapping with
  | none => exact passes (by rw [State.mapsTo, mapping]; rfl) (by rw [Account.sampled, mapping]) (by rw [State.pricedBy, mapping])
  | some pair =>
    obtain ⟨b, n⟩ := pair
    by_cases own : b = a
    · subst own
      have maps : x.mapsTo (·.1 == b) i = true := by rw [State.mapsTo, mapping]; exact beq_self_eq_true b
      have draws : x.drawsFor (·.1 == b) i = decide (0 < x.drawnBy i) := by rw [State.drawsFor, maps, Bool.true_and]
      have drawn : x.drawnTo (·.1 == b) i = x.drawnBy i := if_pos maps
      have charged : v.sampled x r b i = v.charged (x.drawnBy i) r x.fpc.sample.estimated (x.tariff n) := by
        rw [Account.sampled, mapping]
        exact if_pos rfl
      have amount : x.pricedBy r.ci b i = (x.tariff n).amount (x.drawnBy i) r.ci := by
        rw [State.pricedBy, mapping]
        dsimp only
        rw [if_pos rfl]
        cases x.tariff n <;> rfl
      obtain ⟨priced, energy, intEnergy, estimated, staleRate, noSource, groups⟩ :=
        charged_spec (x.drawnBy i) r x.fpc.sample.estimated (x.tariff n) v
      rw [charged]
      refine ⟨?_, ?_, ?_, ?_, ?_, ?_, ?_⟩
      · rw [List.map_singleton, List.sum_singleton, amount]
        exact priced
      · rw [List.map_singleton, List.sum_singleton, drawn]
        exact energy
      · rw [List.map_singleton, List.sum_singleton, drawn]
        exact intEnergy
      · simpa [maps] using estimated
      · simpa [draws] using staleRate
      · simpa [draws] using noSource
      · simpa [draws] using groups
    · refine passes ?_ ?_ ?_
      · rw [State.mapsTo, mapping]
        exact beq_eq_false_iff_ne.mpr own
      · rw [Account.sampled, mapping]
        exact if_neg own
      · rw [State.pricedBy, mapping]
        exact if_neg own

theorem sampled_list (x : State) (r : Rate) (a : Nat) (l : List Nat) (v : Account) :
    SampledAs x r a l v (l.foldl (fun v i => v.sampled x r a i) v) := by
  induction l generalizing v with
  | nil => exact sampledAs_nil x r a v
  | cons i l ih => exact (sampled_one x r a i v).append (ih _)

/-! ### What several channels add to a pending record, and to a slot's timer (R157, R163) -/

/-- The pair of a record. -/
def PendingRec.pair (p : PendingRec) : Nat × Nat := (p.account, p.tariff)

/-- A pending record after the channels of a list, where its tariff is a REFERENCE (R163). -/
structure PendedAs (x : State) (r : Rate) (l : List Nat) (p q : PendingRec) : Prop where
  account : q.account = p.account
  tariff : q.tariff = p.tariff
  sums : p.energy + (l.map (x.drawnTo (· == p.pair))).sum < 2 ^ 64 →
    p.weighted + (l.map (x.drawnTo (· == p.pair))).sum * r.ci < 2 ^ 64 →
    q.energy = p.energy + (l.map (x.drawnTo (· == p.pair))).sum ∧
    q.weighted = p.weighted + (l.map (x.drawnTo (· == p.pair))).sum * r.ci
  groups : q.groups = seenWith r.group (l.any (x.drawsFor (· == p.pair))) p.groups

theorem PendedAs.append {r : Rate} {l m : List Nat} {p q z : PendingRec} (h : PendedAs x r l p q) (k : PendedAs x r m q z) :
    PendedAs x r (l ++ m) p z := by
  have pair : q.pair = p.pair := by rw [PendingRec.pair, PendingRec.pair, h.account, h.tariff]
  obtain ⟨account, tariff, sums, groups⟩ := k
  rw [pair] at sums groups
  refine ⟨account.trans h.account, tariff.trans h.tariff, fun energy weighted => ?_, ?_⟩
  · rw [List.map_append, List.sum_append] at energy weighted ⊢
    rw [Nat.add_mul] at weighted ⊢
    obtain ⟨energy', weighted'⟩ := h.sums (by omega) (by omega)
    obtain ⟨energy'', weighted''⟩ := sums (by omega) (by omega)
    exact ⟨by rw [energy'', energy', Nat.add_assoc], by rw [weighted'', weighted', Nat.add_assoc]⟩
  · rw [groups, h.groups, seenWith_seenWith, List.any_append]

theorem pended_one (r : Rate) (i : Nat) (p : PendingRec) (reference : (x.tariff p.tariff).isReference = true) :
    PendedAs x r [i] p (p.sampled x r i) := by
  have passes (quiet : x.drawsFor (· == p.pair) i = false) (same : p.sampled x r i = p) : PendedAs x r [i] p (p.sampled x r i) := by
    have none : x.drawnTo (· == p.pair) i = 0 := by
      unfold State.drawnTo
      split
      · rename_i maps
        rw [State.drawsFor, maps, Bool.true_and] at quiet
        exact Nat.eq_zero_of_not_pos (of_decide_eq_false quiet)
      · rfl
    rw [same]
    refine ⟨rfl, rfl, fun _ _ => ?_, ?_⟩
    · rw [List.map_singleton, List.sum_singleton, none, Nat.zero_mul, Nat.add_zero, Nat.add_zero]
      exact ⟨rfl, rfl⟩
    · simp [quiet, seenWith_false]
  cases mapping : (x.channel i).mapping with
  | none =>
    refine passes ?_ (by rw [PendingRec.sampled, mapping])
    rw [State.drawsFor, State.mapsTo, mapping]
    rfl
  | some pair =>
    obtain ⟨b, n⟩ := pair
    have maps : x.mapsTo (· == p.pair) i = p.isFor b n := by
      rw [State.mapsTo, mapping, Bool.eq_iff_iff]
      simp only [Option.any_some, beq_iff_eq, PendingRec.isFor, Bool.and_eq_true, PendingRec.pair, Prod.mk.injEq]
      exact and_congr eq_comm eq_comm
    by_cases draws : x.drawsFor (· == p.pair) i = true
    · have both : p.isFor b n = true ∧ 0 < x.drawnBy i := by
        rw [State.drawsFor, maps, Bool.and_eq_true, decide_eq_true_eq] at draws
        exact draws
      have tariff : p.tariff = n := by
        have own := both.1
        simp only [PendingRec.isFor, Bool.and_eq_true, beq_iff_eq] at own
        exact own.2
      have pends : x.pends i n = true := by rw [State.pends, decide_eq_true both.2, ← tariff, reference]; rfl
      have sampled : p.sampled x r i = { p with
          energy := add64 p.energy (x.drawnBy i), weighted := add64 p.weighted (x.drawnBy i * r.ci)
          groups := seePresent r.group p.groups } := by
        rw [PendingRec.sampled, mapping]
        exact if_pos (by rw [both.1, pends]; rfl)
      have drawn : x.drawnTo (· == p.pair) i = x.drawnBy i := if_pos (maps.trans both.1)
      rw [sampled]
      refine ⟨rfl, rfl, fun energy weighted => ?_, ?_⟩
      · rw [List.map_singleton, List.sum_singleton, drawn] at energy weighted ⊢
        exact ⟨add64_eq energy, add64_eq weighted⟩
      · simp [draws, seePresent_eq]
    · rw [Bool.not_eq_true] at draws
      refine passes draws ?_
      have still : (p.isFor b n && x.pends i n) = false := by
        rw [State.drawsFor, maps, Bool.and_eq_false_iff] at draws
        rcases draws with other | zero
        · rw [other, Bool.false_and]
        · rw [State.pends, zero, Bool.false_and, Bool.and_false]
      rw [PendingRec.sampled, mapping]
      exact if_neg (by rw [still]; exact Bool.false_ne_true)

theorem pended_list (r : Rate) (l : List Nat) (p : PendingRec) (reference : (x.tariff p.tariff).isReference = true) :
    PendedAs x r l p (l.foldl (fun p i => p.sampled x r i) p) := by
  induction l generalizing p with
  | nil => exact ⟨rfl, rfl, fun _ _ => ⟨rfl, by simp⟩, (seenWith_false ..).symm⟩
  | cons i l ih =>
    have first := pended_one r i p reference
    exact first.append (ih _ (first.tariff.symm ▸ reference))

theorem slot_one {n : Nat} (i : Nat) (v : TariffSlot) (reference : (x.tariff n).isReference = true) : v.sampled x n i =
    if (x.drawsFor (·.2 == n) i && v.timer.isNone) = true then { v with timer := some (x.now + 600 * second) } else v := by
  have pends : x.pends i n = decide (0 < x.drawnBy i) := by rw [State.pends, reference, Bool.and_true]
  unfold TariffSlot.sampled State.drawsFor State.mapsTo
  rw [pends]
  cases (x.channel i).mapping with
  | none => rfl
  | some pair => rfl

/-- A REFERENCE slot after the channels of a list (R157). -/
theorem slot_list {n : Nat} (l : List Nat) (v : TariffSlot) (reference : (x.tariff n).isReference = true) :
    (l.foldl (fun v i => v.sampled x n i) v).tariff = v.tariff ∧
    (∀ d, v.timer = some d → (l.foldl (fun v i => v.sampled x n i) v).timer = some d) ∧
    (v.timer = none → (l.foldl (fun v i => v.sampled x n i) v).timer =
      if l.any (x.drawsFor (·.2 == n)) then some (x.now + 600 * second) else none) := by
  induction l generalizing v with
  | nil => exact ⟨rfl, fun _ h => h, fun h => h⟩
  | cons i l ih =>
    obtain ⟨tariff, running, idle⟩ := ih (v.sampled x n i)
    rw [List.foldl_cons, List.any_cons]
    have one := slot_one i v reference
    by_cases starts : (x.drawsFor (·.2 == n) i && v.timer.isNone) = true
    · rw [if_pos starts] at one
      obtain ⟨draws, unset⟩ := Bool.and_eq_true_iff.mp starts
      rw [one] at tariff running ⊢
      refine ⟨tariff, fun d set' => ?_, fun _ => ?_⟩
      · rw [set'] at unset
        exact absurd unset Bool.false_ne_true
      · rw [running _ rfl, draws, Bool.true_or, if_pos rfl]
    · rw [if_neg starts] at one
      rw [one] at tariff running idle ⊢
      refine ⟨tariff, running, fun unset => ?_⟩
      have quiet : x.drawsFor (·.2 == n) i = false := by
        rw [unset] at starts
        simpa using starts
      rw [idle unset, quiet, Bool.false_or]

/-! ### What is told (R166) -/

theorem becomeOver_posts (i : Nat) (s : State) (room : (becomeOver i s).evf.ring.length < 64) :
    ∃ r ∈ (becomeOver i s).evf.ring, r.kind = .accountOver ∧ r.subject = .slot i ∧ r.value = (s.account i).id := by
  have id : ((changeAccount i Account.overed s).account i).id = (s.account i).id := by
    rw [account_changeAccount]
    split <;> rfl
  have ring : (becomeOver i s).evf.ring = (postEvent .accountOver (.slot i) ((changeAccount i Account.overed s).account i).id 0
      (changeAccount i Account.overed s)).evf.ring := rfl
  rw [ring] at room ⊢
  rcases Nat.lt_or_ge s.evf.ring.length 64 with before | full
  · rw [(postEvent_room (changeAccount i Account.overed s) .accountOver (.slot i) _ 0 before).1]
    exact ⟨_, List.mem_append_right _ (List.mem_singleton.mpr rfl), rfl, rfl, id⟩
  · rw [postEvent_full (changeAccount i Account.overed s) .accountOver (.slot i) _ 0 full] at room
    exact absurd room (Nat.not_lt.mpr full)

theorem becomeOver_fold_posts (l : List Nat) (s : State) (room : (l.foldl (fun s i => becomeOver i s) s).evf.ring.length < 64) :
    ∀ a ∈ l, ∃ r ∈ (l.foldl (fun s i => becomeOver i s) s).evf.ring,
      r.kind = .accountOver ∧ r.subject = .slot a ∧ r.value = (s.account a).id := by
  induction l generalizing s with
  | nil => exact fun a member => absurd member List.not_mem_nil
  | cons i l ih =>
    rw [List.foldl_cons] at room ⊢
    have told : Tells (becomeOver i s) (l.foldl (fun s i => becomeOver i s) (becomeOver i s)) :=
      tells_foldl (fun s a => becomeOver_tells (Tells.refl s)) (Tells.refl _) l
    intro a member
    rcases List.mem_cons.mp member with rfl | later
    · obtain ⟨r, written, what⟩ := becomeOver_posts a s (lt_of_le_of_lt told.ring.length_le room)
      exact ⟨r, told.ring.subset written, what⟩
    · obtain ⟨r, written, kind, subject, value⟩ := ih (becomeOver i s) room a later
      refine ⟨r, written, kind, subject, value.trans ?_⟩
      rw [becomeOver_account]
      split <;> rfl

theorem creditTests_posts {l : List Nat} (room : (creditTests l s).evf.ring.length < 64) {a : Nat} (newly : a ∈ newlyOver l s) :
    ∃ r ∈ (creditTests l s).evf.ring, r.kind = .accountOver ∧ r.subject = .slot a ∧ r.value = (s.account a).id := by
  have tested : creditTests l s = applyRelays (channelsWhere (fun c => (newlyOver l s).any fun i => c.pointsAt i) s)
      ((newlyOver l s).foldl (fun s i => becomeOver i s) s) := rfl
  have told : Tells ((newlyOver l s).foldl (fun s i => becomeOver i s) s) (creditTests l s) :=
    tested ▸ applyRelays_tells (Tells.refl _)
  obtain ⟨r, written, what⟩ := becomeOver_fold_posts (newlyOver l s) s (lt_of_le_of_lt told.ring.length_le room) a newly
  exact ⟨r, told.ring.subset written, what⟩

/-! ### The rate of a sample (R159 to R162) -/

theorem billingGroup_eq (s : State) : billingGroup s = billedGroup s := by
  unfold billingGroup billedGroup
  cases s.hpt.role with
  | none => rfl
  | some role => cases role <;> rfl

theorem formGroupCis_billed (s : State) : billedGroup (formGroupCis s) = billedGroup s := by
  simp [billedGroup, State.cfg]

theorem sampleRate_of_group {g : Nat} (h : billedGroup s = some g) : sampleRate s =
    ⟨some g, (nth ⟨0, false⟩ s.mtr.heldCis (g - 1)).value,
      decide (s.hpt.nodeState = .config) || (costInputs g s).groupCi.isNone⟩ := by
  rw [sampleRate, billingGroup_eq, h]

theorem sampleRate_of_none (h : billedGroup s = none) : sampleRate s = ⟨none, 0, false⟩ := by
  rw [sampleRate, billingGroup_eq, h]

/-- A channel that draws on a RESOLVED tariff charges its account (R166). -/
def State.Charges (s : State) (a : Nat) : Prop := ∃ i u key base pass, i < 16 ∧ (s.channel i).mapping = some (a, u) ∧
  0 < drawn s i ∧ s.tariff u = .resolved key base pass

theorem mem_chargedAccounts {a : Nat} : a ∈ chargedAccounts s ↔ a < 64 ∧ s.Charges a := by
  unfold chargedAccounts State.Charges
  rw [List.mem_filter, List.mem_range, List.any_eq_true]
  refine and_congr_right fun _ => ⟨?_, ?_⟩
  · rintro ⟨i, inside, charges⟩
    refine ⟨i, ?_⟩
    split at charges
    · rename_i b n mapping
      simp only [Bool.and_eq_true, beq_iff_eq, decide_eq_true_eq] at charges
      obtain ⟨⟨rfl, draws⟩, resolved⟩ := charges
      split at resolved
      · rename_i key base pass tariff
        exact ⟨n, key, base, pass, List.mem_range.mp inside, mapping, draws, tariff⟩
      · exact absurd resolved Bool.false_ne_true
    · exact absurd charges Bool.false_ne_true
  · rintro ⟨i, u, key, base, pass, inside, mapping, draws, tariff⟩
    refine ⟨i, List.mem_range.mpr inside, ?_⟩
    rw [mapping]
    dsimp only
    rw [tariff]
    have draws' : 0 < nth 0 s.fpc.sample.energies i := draws
    simpa using draws'

end Sys2Proof.Machine
end

section
/-! The charging of a sample: O49. -/

namespace Sys2Proof.Machine

open Sys2Proof.Claims

variable {s t u x : State}

/-- The state behind the channels of a sample, before the credit tests. -/
@[irreducible] def State.chargedUp (s : State) : State :=
  (List.range 16).foldl (fun y i => chargeChannel (sampleRate (formGroupCis s)) i y) (formGroupCis s)

theorem chargeSample_eq (s : State) : chargeSample s = creditTests (chargedAccounts (formGroupCis s)) s.chargedUp := by
  unfold State.chargedUp
  rfl

theorem formed_channel (i : Nat) (s : State) : (formGroupCis s).channel i = s.channel i :=
  channel_of_mtr (by rw [formGroupCis_mtr]) i

theorem formed_tariff (n : Nat) (s : State) : (formGroupCis s).tariff n = s.tariff n :=
  tariff_of_mtr (by rw [formGroupCis_mtr]) n

theorem formed_account (a : Nat) (s : State) : (formGroupCis s).account a = s.account a :=
  account_of_bil (by simp) a

theorem formed_drawnBy (i : Nat) (s : State) : (formGroupCis s).drawnBy i = drawn s i := by
  rw [State.drawnBy, (formGroupCis_frame s).2.2.2.2.2.2.2.1]
  rfl

theorem formed_mapsTo (p : Nat × Nat → Bool) (i : Nat) (s : State) :
    (formGroupCis s).mapsTo p i = (s.channel i).mapping.any p := by
  rw [State.mapsTo, formed_channel]

theorem formed_drawsFor (p : Nat × Nat → Bool) (i : Nat) (s : State) : (formGroupCis s).drawsFor p i =
    ((s.channel i).mapping.any p && decide (0 < drawn s i)) := by
  rw [State.drawsFor, formed_mapsTo, formed_drawnBy]

theorem formed_maps (p : Nat × Nat → Bool) (s : State) : (List.range 16).any ((formGroupCis s).mapsTo p) =
    (List.range 16).any fun i => (s.channel i).mapping.any p :=
  congrArg (List.range 16).any (funext fun i => formed_mapsTo p i s)

theorem formed_draws (p : Nat × Nat → Bool) (s : State) : (List.range 16).any ((formGroupCis s).drawsFor p) =
    (List.range 16).any fun i => (s.channel i).mapping.any p && decide (0 < drawn s i) :=
  congrArg (List.range 16).any (funext fun i => formed_drawsFor p i s)

theorem formed_drawnTo (p : Nat × Nat → Bool) (s : State) :
    ((List.range 16).map ((formGroupCis s).drawnTo p)).sum = drawnFor s p := by
  refine congrArg List.sum (List.map_congr_left fun i _ => ?_)
  rw [State.drawnTo, formed_mapsTo, formed_drawnBy]
  cases (s.channel i).mapping with
  | none => rfl
  | some m => rfl

theorem formed_pricedBy (ci a : Nat) (s : State) :
    ((List.range 16).map ((formGroupCis s).pricedBy ci a)).sum = pricedFor s ci a := by
  refine congrArg List.sum (List.map_congr_left fun i _ => ?_)
  rw [State.pricedBy, formed_channel, formed_drawnBy]
  cases (s.channel i).mapping with
  | none => rfl
  | some m =>
    obtain ⟨b, n⟩ := m
    dsimp only
    exact congrArg (fun w : Tariff => if b = a then (match w with
      | .resolved _ base pass => drawn s i * (base * 1000 + ci * pass)
      | _ => 0) else 0) (formed_tariff n s)

theorem formed_charges {a : Nat} : (formGroupCis s).Charges a ↔ s.Charges a := by
  have fpc : (formGroupCis s).fpc = s.fpc := by simp
  unfold State.Charges drawn
  simp only [formed_channel, formed_tariff, fpc]

theorem chargedUp_spec (s : State) : Midway (formGroupCis s) s.chargedUp ∧
    (∀ a, a < s.bil.accounts.length → s.chargedUp.account a =
      (List.range 16).foldl (fun v i => v.sampled (formGroupCis s) (sampleRate (formGroupCis s)) a i) (s.account a)) ∧
    s.chargedUp.mtr.pendings = s.mtr.pendings.map (Option.map fun p =>
      (List.range 16).foldl (fun p i => p.sampled (formGroupCis s) (sampleRate (formGroupCis s)) i) p) ∧
    (∀ n : Nat, s.chargedUp.mtr.tariffs[n]? = s.mtr.tariffs[n]?.map fun v =>
      (List.range 16).foldl (fun v i => v.sampled (formGroupCis s) n i) v) ∧
    (∀ j, j < 16 → s.mtr.channels.length = 16 → s.chargedUp.channel j = (s.channel j).sampled s j) := by
  obtain ⟨midway, account, pendings, tariffs, channel⟩ :=
    chargeChannel_fold (sampleRate (formGroupCis s)) (List.range 16) (Midway.refl (formGroupCis s))
  have mtr := formGroupCis_mtr s
  have bil : (formGroupCis s).bil = s.bil := by simp
  have fpc : (formGroupCis s).fpc = s.fpc := by simp
  unfold State.chargedUp
  refine ⟨midway, fun a ha => ?_, ?_, fun n => ?_, fun j hj length => ?_⟩
  · rw [← formed_account a s]
    exact account a (bil ▸ ha)
  · have same : (formGroupCis s).mtr.pendings = s.mtr.pendings := by rw [mtr]
    rw [← same]
    exact pendings
  · have same : (formGroupCis s).mtr.tariffs = s.mtr.tariffs := by rw [mtr]
    rw [← same]
    exact tariffs n
  · have inside : j ∈ List.range 16 ∧ j < (formGroupCis s).mtr.channels.length := by
      rw [mtr]
      exact ⟨List.mem_range.mpr hj, lt_of_lt_of_eq hj length.symm⟩
    have now := (channel List.nodup_range j).trans (if_pos inside)
    rw [formed_channel, Channel.sampled, formed_drawnBy, fpc] at now
    exact now

/-- What is left of the metering unit by the credit tests of a sample. -/
theorem chargeSample_mtr (s : State) :
    (chargeSample s).mtr = { s.chargedUp.mtr with channels := (chargeSample s).mtr.channels } := by
  rw [chargeSample_eq, creditTests_mtr]

theorem chargeSample_heldCis (s : State) : (chargeSample s).mtr.heldCis = (formGroupCis s).mtr.heldCis := by
  have midway := (chargedUp_spec s).1.heldCis
  rw [chargeSample_mtr]
  generalize s.chargedUp = z at *
  exact midway

/-! ### The rate, the accounts and the channels of a sample -/

theorem rate_group (s : State) : (sampleRate (formGroupCis s)).group = billedGroup s := by
  have same := formGroupCis_billed s
  cases group : billedGroup s with
  | none => rw [sampleRate_of_none (same.trans group)]
  | some g => rw [sampleRate_of_group (same.trans group)]

theorem rate_ci (s : State) : (sampleRate (formGroupCis s)).ci = match billedGroup s with
    | some g => ((chargeSample s).mtr.heldCis.getD (g - 1) ⟨0, false⟩).value
    | none => 0 := by
  have same := formGroupCis_billed s
  rw [chargeSample_heldCis]
  cases group : billedGroup s with
  | none => rw [sampleRate_of_none (same.trans group)]
  | some g =>
    rw [sampleRate_of_group (same.trans group)]
    rfl

theorem rate_stale (s : State) : (sampleRate (formGroupCis s)).stale = (billedGroup s).any fun g =>
    !(decide (s.hpt.nodeState ≠ .config) && decide (0 < (costInputs g s).count)) := by
  have same := formGroupCis_billed s
  have hpt : (formGroupCis s).hpt = s.hpt := by simp
  cases group : billedGroup s with
  | none =>
    rw [sampleRate_of_none (same.trans group)]
    rfl
  | some g =>
    rw [sampleRate_of_group (same.trans group), hpt, formGroupCis_inputs, groupCi_isNone, Option.any_some, Bool.not_and,
      decide_not, Bool.not_not]

/-- An account that the sample newly takes above its limit (R166). -/
def State.NewlyOver (s : State) (a : Nat) : Prop := (s.account a).state = .opened ∧ s.Charges a ∧
  0 < ((chargeSample s).account a).limit ∧ ((chargeSample s).account a).limit < ((chargeSample s).account a).charge

theorem chargedUp_account {a : Nat} (accounts : s.bil.accounts.length = 64) (ha : a < 64) :
    SampledAs (formGroupCis s) (sampleRate (formGroupCis s)) a (List.range 16) (s.account a) (s.chargedUp.account a) := by
  rw [(chargedUp_spec s).2.1 a (accounts.symm ▸ ha)]
  exact sampled_list ..

theorem chargeSample_account {a : Nat} (accounts : s.bil.accounts.length = 64) (ha : a < 64) :
    (a ∈ newlyOver (chargedAccounts (formGroupCis s)) s.chargedUp ↔ s.NewlyOver a) ∧
    (s.NewlyOver a → (chargeSample s).account a = (s.chargedUp.account a).overed) ∧
    (¬s.NewlyOver a → (chargeSample s).account a = s.chargedUp.account a) := by
  have sampled := chargedUp_account accounts ha
  have length : s.chargedUp.bil.accounts.length = 64 := by
    rw [(chargedUp_spec s).1.accounts, (formGroupCis_frame s).2.2.2.2.2.2.2.2.1]
    exact accounts
  have tested := creditTests_account (chargedAccounts (formGroupCis s)) s.chargedUp a
  rw [← chargeSample_eq, length] at tested
  have same : ((chargeSample s).account a).limit = (s.chargedUp.account a).limit ∧
      ((chargeSample s).account a).charge = (s.chargedUp.account a).charge := by
    rw [tested]
    split <;> exact ⟨rfl, rfl⟩
  have newly : a ∈ newlyOver (chargedAccounts (formGroupCis s)) s.chargedUp ↔ s.NewlyOver a := by
    rw [mem_newlyOver, mem_chargedAccounts, formed_charges, exceeds_iff, sampled.priced.state, State.NewlyOver, same.1, same.2]
    exact ⟨fun ⟨⟨_, charges⟩, opened, above⟩ => ⟨opened, charges, above⟩,
      fun ⟨opened, charges, above⟩ => ⟨⟨ha, charges⟩, opened, above⟩⟩
  exact ⟨newly, fun yes => tested.trans (if_pos ⟨newly.mpr yes, ha⟩), fun no => tested.trans (if_neg fun h => no (newly.mp h.1))⟩

theorem chargeSample_posts {a : Nat} (accounts : s.bil.accounts.length = 64) (ha : a < 64) (newly : s.NewlyOver a)
    (room : (chargeSample s).evf.ring.length < 64) :
    ∃ r ∈ (chargeSample s).evf.ring, r.kind = .accountOver ∧ r.subject = .slot a ∧ r.value = (s.account a).id := by
  have id := (chargedUp_account accounts ha).priced.id
  have member := (chargeSample_account accounts ha).1.mpr newly
  rw [chargeSample_eq] at room ⊢
  rw [← id]
  exact creditTests_posts room member

theorem chargeSample_channel {j : Nat} (accounts : s.bil.accounts.length = 64) (channels : s.mtr.channels.length = 16)
    (hj : j < 16) :
    (∀ a u, (s.channel j).mapping = some (a, u) → a < 64 → s.NewlyOver a →
      (chargeSample s).channel j = { (s.channel j).sampled s j with credit := true }.ruled) ∧
    ((∀ a u, (s.channel j).mapping = some (a, u) → a < 64 → ¬s.NewlyOver a) →
      (chargeSample s).channel j = (s.channel j).sampled s j) := by
  obtain ⟨midway, -, -, -, channel⟩ := chargedUp_spec s
  have up := channel j hj channels
  have length : s.chargedUp.mtr.channels.length = 16 := by
    rw [midway.channels, formGroupCis_mtr]
    exact channels
  have tested := creditTests_channel (l := chargedAccounts (formGroupCis s)) length hj
  rw [← chargeSample_eq, up] at tested
  have mapping : ((s.channel j).sampled s j).mapping = (s.channel j).mapping := rfl
  refine ⟨fun a u maps ha newly => ?_, fun none => ?_⟩
  · refine tested.trans (if_pos (List.any_eq_true.mpr ⟨a, ?_, pointsAt_iff.mpr ⟨u, mapping.trans maps⟩⟩))
    exact (chargeSample_account accounts ha).1.mpr newly
  · refine tested.trans (if_neg fun points => ?_)
    obtain ⟨a, member, points⟩ := List.any_eq_true.mp points
    obtain ⟨u, maps⟩ := pointsAt_iff.mp points
    have ha : a < 64 := (mem_chargedAccounts.mp (mem_newlyOver.mp member).1).1
    exact none a u (mapping.symm.trans maps) ha ((chargeSample_account accounts ha).1.mp member)

/-- The indices that a sample forms (R159, R160). -/
theorem chargeSample_held {g : Nat} (low : 1 ≤ g) (high : g ≤ 15) (length : s.mtr.heldCis.length = 15)
    (all : ∀ h, FormsFor s h → 1 ≤ h) :
    let held := (chargeSample s).mtr.heldCis.getD (g - 1) ⟨0, false⟩
    let inputs := costInputs g s
    (FormsFor s g → 0 < inputs.weight → held.computed = true ∧ Rounded inputs.weighted inputs.weight held.value) ∧
    (FormsFor s g → inputs.weight = 0 → 0 < inputs.count → held.computed = true ∧ Rounded inputs.plain inputs.count held.value) ∧
    (¬FormsFor s g ∨ inputs.count = 0 → held = s.mtr.heldCis.getD (g - 1) ⟨0, false⟩) := by
  obtain ⟨forms, stands⟩ := formGroupCis_held length all low high
  rw [nth, nth] at forms stands
  intro held inputs
  have now : held = (formGroupCis s).mtr.heldCis.getD (g - 1) ⟨0, false⟩ := by
    rw [← chargeSample_heldCis]
  rw [now]
  have value {v : Nat} (formsFor : FormsFor s g) (made : inputs.groupCi = some v) :
      (formGroupCis s).mtr.heldCis.getD (g - 1) ⟨0, false⟩ = ⟨v, true⟩ := by
    rw [forms formsFor, CostInputs.held, made]
  refine ⟨fun formsFor weight => ?_, fun formsFor weight count => ?_, fun no => ?_⟩
  · rw [value formsFor (if_pos weight)]
    exact ⟨rfl, roundDiv_rounded _ weight⟩
  · rw [value formsFor ((if_neg (by rw [weight]; decide)).trans (if_pos count))]
    exact ⟨rfl, roundDiv_rounded _ count⟩
  · by_cases formsFor : FormsFor s g
    · have count := no.resolve_left (not_not.mpr formsFor)
      have none : inputs.groupCi.isNone = true := by
        rw [groupCi_isNone]
        simpa using count
      rw [forms formsFor, CostInputs.held, Option.isNone_iff_eq_none.mp none]
    · exact stands formsFor

theorem slot_of_reference {n key : Nat} (reference : s.tariff n = .reference key) : ∃ v, s.mtr.tariffs[n]? = some v ∧
    v.tariff = .reference key ∧ (nth ⟨.empty, none⟩ s.mtr.tariffs n).timer = v.timer := by
  unfold State.tariff at reference
  rw [nth, List.getD_eq_getElem?_getD] at reference ⊢
  cases found : s.mtr.tariffs[n]? with
  | none =>
    rw [found] at reference
    exact nomatch reference
  | some v =>
    rw [found] at reference
    exact ⟨v, rfl, reference, rfl⟩

theorem slot_ext {v w : TariffSlot} (tariff : v.tariff = w.tariff) (timer : v.timer = w.timer) : v = w := by
  cases v
  cases w
  cases tariff
  cases timer
  rfl

/-- Settles O49. -/
theorem sampleLedger : Obligations.SampleLedger := by
  intro s accounts channels _ t group ci formed stale drew mapsOn charged newlyOver'
  have rateGroup : (sampleRate (formGroupCis s)).group = group := rate_group s
  have rateCi : (sampleRate (formGroupCis s)).ci = ci := rate_ci s
  have rateStale : (sampleRate (formGroupCis s)).stale = stale := rate_stale s
  have fpc : (formGroupCis s).fpc = s.fpc := by simp
  have clock : (formGroupCis s).now = s.now := by simp [State.now]
  obtain ⟨-, -, pendings, tariffs, -⟩ := chargedUp_spec s
  have mtr := chargeSample_mtr s
  refine ⟨keepsAllBut_of (by simp [t]), fun g low high length all => chargeSample_held low high length all, fun a ha => ?_,
    fun j r key found reference => ?_, fun u key reference => ?_, fun i hi => ?_⟩
  · intro x y
    obtain ⟨priced, energy, intEnergy, estimated, staleRate, noSource, groups⟩ := chargedUp_account accounts ha
    obtain ⟨newly, yes, no⟩ := chargeSample_account accounts ha
    rw [formed_pricedBy, rateCi] at priced
    rw [formed_drawnTo] at energy intEnergy
    rw [formed_draws, rateStale] at staleRate
    rw [formed_draws, rateGroup] at noSource groups
    rw [formed_maps, fpc] at estimated
    obtain ⟨id, limit, state, exact'⟩ := priced
    by_cases over' : s.NewlyOver a
    · have now : y = (s.chargedUp.account a).overed := yes over'
      rw [now]
      exact ⟨id, limit, fun small charge int => exact' small charge int, energy, intEnergy, estimated, staleRate, noSource, groups,
        fun _ => ⟨rfl, chargeSample_posts accounts ha over'⟩, fun no => absurd over' no⟩
    · have now : y = s.chargedUp.account a := no over'
      rw [now]
      exact ⟨id, limit, fun small charge int => exact' small charge int, energy, intEnergy, estimated, staleRate, noSource, groups,
        fun yes => absurd yes over', fun _ => state⟩
  · intro e energy weighted
    have names : ((formGroupCis s).tariff r.tariff).isReference = true := by
      rw [formed_tariff]
      exact isReference_iff.mpr ⟨key, reference⟩
    obtain ⟨account, tariff, sums, groups⟩ := pended_list (sampleRate (formGroupCis s)) (List.range 16) r names
    rw [formed_drawnTo, rateCi] at sums
    rw [formed_draws, rateGroup] at groups
    have at_j : t.mtr.pendings[j]? = some (some ((List.range 16).foldl
        (fun p i => p.sampled (formGroupCis s) (sampleRate (formGroupCis s)) i) r)) := by
      rw [mtr, pendings, List.getElem?_map, found]
      rfl
    exact ⟨_, at_j, account, tariff, (sums energy weighted).1, (sums energy weighted).2, groups⟩
  · have names : ((formGroupCis s).tariff u).isReference = true := by
      rw [formed_tariff]
      exact isReference_iff.mpr ⟨key, reference⟩
    obtain ⟨v, found, named, timer⟩ := slot_of_reference reference
    obtain ⟨tariff, running, idle⟩ := slot_list (List.range 16) v names
    have at_u : t.mtr.tariffs[u]? = some ((List.range 16).foldl (fun v i => v.sampled (formGroupCis s) u i) v) := by
      rw [mtr, tariffs, found]
      rfl
    rw [at_u, timer]
    rw [formed_draws, clock] at idle
    refine congrArg some (slot_ext (tariff.trans named) ?_)
    cases set' : v.timer with
    | none => exact idle set'
    | some d => exact running d set'
  · obtain ⟨yes, no⟩ := chargeSample_channel accounts channels hi
    have figures : (t.channel i).power = s.fpc.sample.powers.getD i 0 ∧ (t.channel i).mapping = (s.channel i).mapping ∧
        (t.channel i).level = (s.channel i).level ∧ (t.channel i).energy = add64 (s.channel i).energy (drawn s i) := by
      by_cases newly : ∃ a u, (s.channel i).mapping = some (a, u) ∧ a < 64 ∧ s.NewlyOver a
      · obtain ⟨a, u, mapping, ha, newly⟩ := newly
        have now : t.channel i = _ := yes a u mapping ha newly
        rw [now]
        exact ⟨rfl, rfl, rfl, rfl⟩
      · have now : t.channel i = _ := no fun a u mapping ha newly' => newly ⟨a, u, mapping, ha, newly'⟩
        rw [now]
        exact ⟨rfl, rfl, rfl, rfl⟩
    obtain ⟨power, mapping, level, energy⟩ := figures
    refine ⟨power, mapping, level, fun fits => energy.trans (add64_eq fits), fun a u mapping ha newly => ?_, fun none => ?_⟩
    · have now : t.channel i = _ := yes a u mapping ha newly
      rw [now]
      exact ⟨rfl, rfl⟩
    · have now : t.channel i = _ := no none
      rw [now]
      exact ⟨rfl, rfl⟩

end Sys2Proof.Machine
end

section
/-! Interval records, productions and the closing of accounts (R174 to R178, R181): O52. -/

namespace Sys2Proof.Machine

open Sys2Proof.Claims

variable {s t u x : State}

/-! ### Records and productions (R174, R175) -/

theorem totals_eq {a : Account} (below : TotalsBelow (2 ^ 64) a) :
    a.totals = (a.intEnergy + a.carryEnergy, a.intCharge + a.carryCharge) :=
  Prod.ext (add64_eq below.1) (add64_eq below.2)

theorem totalsBelow_wide {a : Account} (below : TotalsBelow (2 ^ 32) a) : TotalsBelow (2 ^ 64) a :=
  ⟨below.1.trans (by decide), below.2.trans (by decide)⟩

theorem intervalRecord_eq {i n : Nat} {b : Bool} (below : TotalsBelow (2 ^ 64) (s.account i)) :
    intervalRecord i b n s = recordFor b (s.account i).endsNow n s i := by
  have energy : (s.account i).totals.1 = (s.account i).intEnergy + (s.account i).carryEnergy := by rw [totals_eq below]
  have charge : (s.account i).totals.2 = (s.account i).intCharge + (s.account i).carryCharge := by rw [totals_eq below]
  unfold intervalRecord recordFor Mtr.pendingEnergy sat32
  dsimp only
  rw [energy, charge, ← Bool.decide_or]
  simp only [Nat.pos_iff_ne_zero]

theorem endsNow_of_below {a : Account} (closing : a.state = .closing) (below : TotalsBelow (2 ^ 32) a) : a.endsNow = true := by
  unfold Account.endsNow
  rw [totals_eq (totalsBelow_wide below)]
  simp only [closing, decide_true, Bool.true_and, Bool.and_eq_true, decide_eq_true_eq]
  exact below

theorem endsNow_of_not_closing {a : Account} (h : a.state ≠ .closing) : a.endsNow = false := by
  unfold Account.endsNow
  rw [decide_eq_false h]
  rfl

theorem produced_ends {a : Account} (ends : a.endsNow = true) : a.produced = .reset := if_pos ends

theorem produced_stays {a : Account} (stays : a.endsNow = false) (below : TotalsBelow (2 ^ 64) a) : a.produced = { a with
    intEnergy := 0, intCharge := 0, estimated := false, staleRate := false, noSource := false, groups := []
    carryEnergy := a.intEnergy + a.carryEnergy - min (a.intEnergy + a.carryEnergy) (2 ^ 32 - 1)
    carryCharge := a.intCharge + a.carryCharge - min (a.intCharge + a.carryCharge) (2 ^ 32 - 1) } := by
  have made : a.produced = _ := if_neg (by rw [stays]; exact Bool.false_ne_true)
  rw [made, totals_eq below]
  rfl

theorem produce_bil (i n : Nat) (b : Bool) (s : State) : produce i b n s = s.withBil { s.bil with
    accounts := adjust Account.produced i s.bil.accounts, log := s.bil.log ++ [intervalRecord i b n s] } := rfl

/-- An account that ends at once is served by one record (R178). -/
theorem serveClosing_once {i n : Nat} {b : Bool} (k : Nat) (accounts : s.bil.accounts.length = 64) (hi : i < 64)
    (closing : (s.account i).state = .closing) (below : TotalsBelow (2 ^ 32) (s.account i)) (room : s.bil.log.length < 128) :
    serveClosing i b n (k + 1) s = produce i b n s := by
  have served : (produce i b n s).account i = .reset := by
    rw [produce_account, if_pos ⟨rfl, accounts.symm ▸ hi⟩, produced_ends (endsNow_of_below closing below)]
  rw [serveClosing, if_pos ⟨closing, hasRoom_iff.mpr room⟩]
  refine serveClosing_idle k fun h => ?_
  rw [served] at h
  exact absurd h.1 (by decide)

/-! ### The work on one slot -/

/-- Work on the slot `i` of the billing unit: the other accounts stand, and the records written are of the slot. -/
structure SlotWork (i : Nat) (s t : State) : Prop where
  keeps : KeepsAllBut [.bil, .evf] s t
  others : ∀ j, j ≠ i → t.account j = s.account j
  accounts : t.bil.accounts.length = s.bil.accounts.length
  log : ∃ new, t.bil.log = s.bil.log ++ new ∧ ∀ r ∈ new, r.slot = i
  times : t.bil.serial = s.bil.serial ∧ t.bil.openedAt = s.bil.openedAt ∧ t.bil.boundary = s.bil.boundary ∧
    t.bil.length = s.bil.length ∧ t.bil.consumer = s.bil.consumer

theorem SlotWork.refl (i : Nat) (s : State) : SlotWork i s s :=
  ⟨.refl _ s, fun _ _ => rfl, rfl, ⟨[], (List.append_nil _).symm, by simp⟩, rfl, rfl, rfl, rfl, rfl⟩

theorem SlotWork.trans {i : Nat} (h : SlotWork i s t) (k : SlotWork i t u) : SlotWork i s u := by
  obtain ⟨new, log, slots⟩ := h.log
  obtain ⟨new', log', slots'⟩ := k.log
  obtain ⟨serial, openedAt, boundary, length, consumer⟩ := h.times
  obtain ⟨serial', openedAt', boundary', length', consumer'⟩ := k.times
  refine ⟨h.keeps.trans k.keeps, fun j hj => (k.others j hj).trans (h.others j hj), k.accounts.trans h.accounts,
    ⟨new ++ new', by rw [log', log, List.append_assoc], fun r member => ?_⟩, serial'.trans serial, openedAt'.trans openedAt,
    boundary'.trans boundary, length'.trans length, consumer'.trans consumer⟩
  exact (List.mem_append.mp member).elim (slots r) (slots' r)

theorem changeAccount_work (i : Nat) (f : Account → Account) (s : State) : SlotWork i s (changeAccount i f s) where
  keeps := keepsAllBut_of (by simp)
  others j hj := (account_changeAccount ..).trans (if_neg fun h => hj h.1.symm)
  accounts := adjust_length ..
  log := ⟨[], (List.append_nil _).symm, by simp⟩
  times := ⟨rfl, rfl, rfl, rfl, rfl⟩

theorem produce_work (i n : Nat) (b : Bool) (s : State) : SlotWork i s (produce i b n s) where
  keeps := keepsAllBut_of (by simp [produce])
  others j hj := (produce_account ..).trans (if_neg fun h => hj h.1.symm)
  accounts := adjust_length ..
  log := ⟨[intervalRecord i b n s], rfl, by simp [intervalRecord]⟩
  times := ⟨rfl, rfl, rfl, rfl, rfl⟩

theorem serveClosing_work (i n : Nat) (b : Bool) (k : Nat) (s : State) : SlotWork i s (serveClosing i b n k s) := by
  induction k generalizing s with
  | zero => exact .refl i s
  | succ k ih =>
    unfold serveClosing
    split
    · exact (produce_work i n b s).trans (ih _)
    · exact .refl i s

theorem reportLogFull_told {i : Nat} (h : s.bil.fullReported = true) : reportLogFull i s = s := if_pos h

theorem reportLogFull_tells_first {i : Nat} (h : s.bil.fullReported = false) : reportLogFull i s =
    reportFault .logFull [byte i] (postEvent .logFull (.slot i) s.bil.serial 0 (s.withBil { s.bil with fullReported := true })) :=
  if_neg (by rw [h]; exact Bool.false_ne_true)

/-- LOG_FULL reported, once a filling (R177). -/
theorem reportLogFull_spec (i : Nat) (s : State) : KeepsAllBut [.bil, .evf] s (reportLogFull i s) ∧
    (reportLogFull i s).bil = { s.bil with fullReported := true } ∧ TellsFull i s (reportLogFull i s) := by
  cases told : s.bil.fullReported with
  | true =>
    rw [reportLogFull_told told]
    refine ⟨.refl _ s, ?_, told, fun _ => rfl, fun no => absurd (told.symm.trans no) (by decide)⟩
    rw [← told]
  | false =>
    rw [reportLogFull_tells_first told]
    refine ⟨keepsAllBut_of (by simp), by simp, by simp, fun yes => absurd (told.symm.trans yes) (by decide), fun _ => ?_⟩
    exact (postEvent_wrote_on ..).reports .logFull [byte i] (by simp) (by simp) (by simp) (by simp) (by simp)

theorem carryAccount_work (i : Nat) (s : State) : SlotWork i s (carryAccount i s) := by
  have carried := changeAccount_work i Account.carry s
  obtain ⟨keeps, bil, -⟩ := reportLogFull_spec i (changeAccount i Account.carry s)
  have made : carryAccount i s = reportLogFull i (changeAccount i Account.carry s) := rfl
  rw [made]
  refine carried.trans ⟨keeps, fun j _ => account_of_bil (by rw [bil]) j, by rw [bil],
    ⟨[], by rw [bil, List.append_nil], by simp⟩, ?_⟩
  rw [bil]
  exact ⟨rfl, rfl, rfl, rfl, rfl⟩

theorem carry_eq {a : Account} (below : TotalsBelow (2 ^ 64) a) : a.carry = carriedOver a := by
  have energy : add64 a.carryEnergy a.intEnergy = a.carryEnergy + a.intEnergy := add64_eq (Nat.add_comm .. ▸ below.1)
  have charge : add64 a.carryCharge a.intCharge = a.carryCharge + a.intCharge := add64_eq (Nat.add_comm .. ▸ below.2)
  rw [Account.carry, carriedOver, energy, charge]

/-- A record reads its account, the pending records and the interval's serial and opening alone. -/
theorem recordFor_congr {b final : Bool} {n i : Nat} (account : t.account i = s.account i) (mtr : t.mtr = s.mtr)
    (serial : t.bil.serial = s.bil.serial) (openedAt : t.bil.openedAt = s.bil.openedAt) :
    recordFor b final n t i = recordFor b final n s i := by
  unfold recordFor
  rw [account, mtr, serial, openedAt]

/-! ### CLOSING accounts served, ascending (R178, R181) -/

/-- The slots of a list whose accounts are CLOSING. -/
def State.closingOf (s : State) (l : List Nat) : List Nat := l.filter fun i => decide ((s.account i).state = .closing)

theorem closingOf_congr {l : List Nat} (same : ∀ i ∈ l, t.account i = s.account i) : t.closingOf l = s.closingOf l :=
  List.filter_congr fun i member => by rw [same i member]

/-- The closing accounts of a list served one after the other, each by its FINAL record, as far as the room goes. -/
structure ServedFrom (b : Bool) (n : Nat) (s : State) (served : List Nat) (t : State) : Prop where
  keeps : KeepsAllBut [.bil] s t
  bil : t.bil = { s.bil with log := s.bil.log ++ served.map (recordFor b true n s), accounts := t.bil.accounts }
  account : ∀ j, t.account j = if j ∈ served then .reset else s.account j
  accounts : t.bil.accounts.length = s.bil.accounts.length

theorem servedFrom_nil (b : Bool) (n : Nat) (s : State) : ServedFrom b n s [] s :=
  ⟨.refl _ s, by simp, fun _ => rfl, rfl⟩

/-- One closing account served. -/
theorem serveClosing_served {b : Bool} {i n : Nat} (accounts : s.bil.accounts.length = 64) (hi : i < 64)
    (closing : (s.account i).state = .closing) (below : TotalsBelow (2 ^ 32) (s.account i)) (room : s.bil.log.length < 128) :
    ServedFrom b n s [i] (serveClosing i b n 128 s) := by
  have ends := endsNow_of_below closing below
  rw [serveClosing_once 127 accounts hi closing below room]
  refine ⟨keepsAllBut_of (by simp [produce]), ?_, fun j => ?_, adjust_length ..⟩
  · rw [produce_bil, intervalRecord_eq (totalsBelow_wide below), ends]
    rfl
  · rw [produce_account]
    by_cases here : j = i
    · subst here
      rw [if_pos ⟨rfl, accounts.symm ▸ hi⟩, if_pos (List.mem_singleton.mpr rfl), produced_ends ends]
    · rw [if_neg (fun h => here h.1.symm), if_neg (fun h => here (List.mem_singleton.mp h))]

theorem ServedFrom.cons {b : Bool} {i n : Nat} {served : List Nat} (fresh : i ∉ served) (h : ServedFrom b n s [i] t)
    (k : ServedFrom b n t served u) : ServedFrom b n s (i :: served) u := by
  obtain ⟨keeps, bil, account, accounts⟩ := h
  obtain ⟨keeps', bil', account', accounts'⟩ := k
  have records : served.map (recordFor b true n t) = served.map (recordFor b true n s) := by
    refine List.map_congr_left fun j member => recordFor_congr ?_ (keeps.mtr (by decide)) (by rw [bil]) (by rw [bil])
    rw [account, if_neg (fun h => fresh ((List.mem_singleton.mp h : j = i) ▸ member))]
  refine ⟨keeps.trans keeps', ?_, fun j => ?_, accounts'.trans accounts⟩
  · rw [bil', records, bil]
    simp
  · rw [account', account]
    by_cases here : j = i
    · subst here
      rw [if_neg fresh, if_pos (List.mem_singleton.mpr rfl), if_pos List.mem_cons_self]
    · by_cases later : j ∈ served
      · rw [if_pos later, if_pos (List.mem_cons_of_mem i later)]
      · rw [if_neg later, if_neg (fun h => here (List.mem_singleton.mp h)), if_neg]
        exact fun h => (List.mem_cons.mp h).elim here later

theorem serve_fold {b : Bool} {n : Nat} {time : State → Nat} (l : List Nat) (distinct : l.Nodup) (inside : ∀ i ∈ l, i < 64)
    (accounts : s.bil.accounts.length = 64) (fits : s.bil.log.length ≤ 128) (steady : ∀ y : State, y.clock = s.clock → time y = n)
    (below : ∀ i ∈ l, (s.account i).state = .closing → TotalsBelow (2 ^ 32) (s.account i)) :
    ServedFrom b n s ((s.closingOf l).take (128 - s.bil.log.length)) (l.foldl (fun y i => serveClosing i b (time y) 128 y) s) := by
  induction l generalizing s with
  | nil => simpa [State.closingOf] using servedFrom_nil b n s
  | cons i l ih =>
    obtain ⟨fresh, distinct'⟩ := List.nodup_cons.mp distinct
    have inside' : ∀ j ∈ l, j < 64 := fun j member => inside j (List.mem_cons_of_mem i member)
    have below' : ∀ j ∈ l, (s.account j).state = .closing → TotalsBelow (2 ^ 32) (s.account j) :=
      fun j member => below j (List.mem_cons_of_mem i member)
    rw [List.foldl_cons, steady s rfl]
    by_cases serves : (s.account i).state = .closing ∧ s.bil.log.length < 128
    · obtain ⟨closing, room⟩ := serves
      have one := serveClosing_served (b := b) (n := n) accounts (inside i List.mem_cons_self) closing
        (below i List.mem_cons_self closing) room
      generalize serveClosing i b n 128 s = y at one ⊢
      have others (j : Nat) (member : j ∈ l) : y.account j = s.account j := by
        rw [one.account, if_neg fun h => fresh ((List.mem_singleton.mp h : j = i) ▸ member)]
      have length : y.bil.log.length = s.bil.log.length + 1 := by
        rw [one.bil]
        simp
      have listed : (s.closingOf (i :: l)).take (128 - s.bil.log.length) =
          i :: (y.closingOf l).take (128 - y.bil.log.length) := by
        have first : s.closingOf (i :: l) = i :: s.closingOf l := List.filter_cons_of_pos (by simpa using closing)
        have places : 128 - s.bil.log.length = (128 - y.bil.log.length) + 1 := by omega
        rw [first, places, List.take_succ_cons, closingOf_congr others]
      rw [listed]
      refine one.cons (fun member => fresh (List.mem_of_mem_filter (List.mem_of_mem_take member))) (ih distinct' inside'
        (one.accounts.trans accounts) (by omega) (fun z hz => steady z (hz.trans (one.keeps.clock (by decide)))) ?_)
      exact fun j member => (others j member).symm ▸ below' j member
    · have idle : serveClosing i b n 128 s = s :=
        serveClosing_idle 128 fun h => serves ⟨h.1, hasRoom_iff.mp h.2⟩
      have rest := ih distinct' inside' accounts fits steady below'
      have listed : (s.closingOf (i :: l)).take (128 - s.bil.log.length) = (s.closingOf l).take (128 - s.bil.log.length) := by
        by_cases closing : (s.account i).state = .closing
        · have full : 128 - s.bil.log.length = 0 := by
            have taken : ¬s.bil.log.length < 128 := fun room => serves ⟨closing, room⟩
            omega
          rw [full, List.take_zero, List.take_zero]
        · have skipped : s.closingOf (i :: l) = s.closingOf l := List.filter_cons_of_neg (by simpa using closing)
          rw [skipped]
      rw [idle, listed]
      exact rest

/-- What is told of a full log reads the event unit, the clock, the serial and the report so far alone. -/
theorem tellsFull_of_start {i : Nat} (h : TellsFull i s t) (evf : s.evf = u.evf) (clock : s.clock = u.clock) (hpt : s.hpt = u.hpt)
    (serial : s.bil.serial = u.bil.serial) (reported : s.bil.fullReported = u.bil.fullReported) : TellsFull i u t := by
  obtain ⟨set', again, first⟩ := h
  refine ⟨set', fun yes => (again (reported.trans yes)).trans evf, fun no => ?_⟩
  obtain ⟨sticky, posts⟩ := first (reported.trans no)
  have same : faultPosts .logFull s = faultPosts .logFull u := by simp only [faultPosts, evf, State.eventId, hpt]
  rw [serial, same] at posts
  exact ⟨evf ▸ sticky, posts_of_start posts evf clock⟩

/-! ### ACCOUNT_CLOSE and ACK_BILLING (R168, R181) -/

/-- The account made CLOSING, as a close does first (R178). -/
def State.closingSet (s : State) (i : Nat) : State := changeAccount i (fun a => { a with state := .closing }) s

theorem closingSet_account {i : Nat} (accounts : s.bil.accounts.length = 64) (hi : i < 64) :
    (s.closingSet i).account i = { s.account i with state := .closing } ∧
    ∀ j, j ≠ i → (s.closingSet i).account j = s.account j :=
  ⟨(account_changeAccount ..).trans (if_pos ⟨rfl, accounts.symm ▸ hi⟩),
    fun _ hj => (account_changeAccount ..).trans (if_neg fun h => hj h.1.symm)⟩

theorem closeAccount_room {i : Nat} (accounts : s.bil.accounts.length = 64) (hi : i < 64) (room : s.bil.log.length < 128)
    (below : TotalsBelow (2 ^ 32) (s.account i)) : ∃ t, closeAccount i s = (some s.bil.serial, t) ∧ KeepsAllBut [.bil] s t ∧
    t.bil = { s.bil with log := s.bil.log ++ [recordFor false true s.siteSec s i], accounts := t.bil.accounts } ∧
    t.account i = .reset ∧ ∀ j, j ≠ i → t.account j = s.account j := by
  obtain ⟨own, others⟩ := closingSet_account accounts hi
  have length : (s.closingSet i).bil.accounts.length = 64 := (adjust_length ..).trans accounts
  have served : ServedFrom false s.siteSec (s.closingSet i) [i] (serveClosing i false s.siteSec 128 (s.closingSet i)) :=
    serveClosing_served length hi (by rw [own]) (by rw [own]; exact below) room
  have record : recordFor false true s.siteSec (s.closingSet i) i = recordFor false true s.siteSec s i := by
    unfold recordFor
    rw [own]
    rfl
  refine ⟨_, if_pos (hasRoom_iff.mpr room), ?_, ?_, ?_, fun j hj => ?_⟩
  · exact KeepsAllBut.trans (keepsAllBut_of (by simp [State.closingSet])) served.keeps
  · have bil := served.bil
    rw [List.map_singleton, record] at bil
    exact bil
  · exact (served.account i).trans (if_pos (List.mem_singleton.mpr rfl))
  · exact ((served.account j).trans (if_neg fun h => hj (List.mem_singleton.mp h))).trans (others j hj)

theorem closeAccount_full {i : Nat} (accounts : s.bil.accounts.length = 64) (hi : i < 64) (full : 128 ≤ s.bil.log.length)
    (below : TotalsBelow (2 ^ 64) (s.account i)) : ∃ t, closeAccount i s = (none, t) ∧ KeepsAllBut [.bil, .evf] s t ∧
    t.bil = { s.bil with accounts := t.bil.accounts, fullReported := true } ∧
    t.account i = { carriedOver (s.account i) with state := .closing } ∧
    (∀ j, j ≠ i → t.account j = s.account j) ∧ TellsFull i s t := by
  obtain ⟨own, others⟩ := closingSet_account accounts hi
  have length : (s.closingSet i).bil.accounts.length = 64 := (adjust_length ..).trans accounts
  obtain ⟨keeps, bil, told⟩ := reportLogFull_spec i (changeAccount i Account.carry (s.closingSet i))
  have account (j : Nat) : (carryAccount i (s.closingSet i)).account j =
      (changeAccount i Account.carry (s.closingSet i)).account j := account_of_bil (by rw [carryAccount, bil]) j
  refine ⟨carryAccount i (s.closingSet i), if_neg fun room => absurd (hasRoom_iff.mp room) (Nat.not_lt.mpr full), ?_, ?_, ?_,
    fun j hj => ?_, tellsFull_of_start told rfl rfl rfl rfl rfl⟩
  · exact KeepsAllBut.trans (keepsAllBut_of (by simp [State.closingSet])) keeps
  · rw [carryAccount, bil]
    rfl
  · have closed : TotalsBelow (2 ^ 64) ((s.closingSet i).account i) := by rw [own]; exact below
    rw [account, account_changeAccount, if_pos ⟨rfl, length.symm ▸ hi⟩, carry_eq closed, own]
    rfl
  · rw [account, account_changeAccount, if_neg (fun h => hj h.1.symm), others j hj]

theorem accountUsed_iff {i : Nat} : ¬((channelsWhere (Channel.pointsAt i) s).isEmpty = true ∧ s.mtr.pendingCount i = 0) ↔
    (∃ j u, j < 16 ∧ (s.channel j).mapping = some (i, u)) ∨ ∃ r, some r ∈ s.mtr.pendings ∧ r.account = i := by
  rw [not_and_or]
  refine or_congr ?_ ?_
  · rw [List.isEmpty_iff]
    constructor
    · intro some
      obtain ⟨j, member⟩ := List.exists_mem_of_ne_nil _ some
      obtain ⟨hj, points⟩ := mem_channelsWhere.mp member
      obtain ⟨u, mapping⟩ := pointsAt_iff.mp points
      exact ⟨j, u, hj, mapping⟩
    · rintro ⟨j, u, hj, mapping⟩ empty
      have member := mem_channelsWhere.mpr ⟨hj, pointsAt_iff.mpr ⟨u, mapping⟩⟩
      rw [empty] at member
      exact List.not_mem_nil member
  · constructor
    · intro some
      obtain ⟨r, member⟩ := List.exists_mem_of_ne_nil _ (mt List.length_eq_zero_iff.mpr some)
      obtain ⟨held, own⟩ := List.mem_filter.mp member
      exact ⟨r, by simpa using held, beq_iff_eq.mp own⟩
    · rintro ⟨r, member, own⟩ zero
      exact pendingCount_zero zero r member own

/-- The oldest records removed (R181, step 1). -/
def State.acked (s : State) (n : Nat) : State :=
  s.withBil { s.bil with consumer := (s.bil.consumer + n) % 128, log := s.bil.log.drop n }

theorem ackBilling_of_served {n : Nat} {y : State}
    (h : (List.range 64).foldl (fun y i => serveClosing i false y.siteSec 128 y) (s.acked n) = y) :
    ackBilling n s = if y.bil.hasRoom then y.withBil { y.bil with fullReported := false } else y := by
  unfold State.acked at h
  unfold ackBilling
  dsimp only
  rw [h]

theorem ackBilling_spec {n : Nat} (accounts : s.bil.accounts.length = 64) (fits : s.bil.log.length ≤ 128)
    (below : ∀ i, i < 64 → (s.account i).state = .closing → TotalsBelow (2 ^ 32) (s.account i)) :
    let waiting := (List.range 64).filter fun i => decide ((s.account i).state = .closing)
    let served := waiting.take (128 - (s.bil.log.length - n))
    KeepsAllBut [.bil] s (ackBilling n s) ∧
    (ackBilling n s).bil = { s.bil with
      log := s.bil.log.drop n ++ served.map (recordFor false true s.siteSec s)
      consumer := (s.bil.consumer + n) % 128
      fullReported := s.bil.fullReported && decide ((ackBilling n s).bil.log.length = 128)
      accounts := (ackBilling n s).bil.accounts } ∧
    ∀ i, (ackBilling n s).account i = if i ∈ served then .reset else s.account i := by
  intro waiting served
  have length : (s.acked n).bil.log.length = s.bil.log.length - n := List.length_drop
  have all := serve_fold (s := s.acked n) (b := false) (n := s.siteSec) (time := State.siteSec) (List.range 64) List.nodup_range
    (fun i member => List.mem_range.mp member) accounts (by rw [length]; omega)
    (fun y clock => by rw [State.siteSec, clock]; rfl) fun i member => below i (List.mem_range.mp member)
  rw [length] at all
  change ServedFrom false s.siteSec (s.acked n) served _ at all
  have records : served.map (recordFor false true s.siteSec (s.acked n)) = served.map (recordFor false true s.siteSec s) :=
    List.map_congr_left fun i _ => recordFor_congr rfl rfl rfl rfl
  generalize folded : List.foldl _ _ (List.range 64) = y at all
  rw [ackBilling_of_served folded]
  obtain ⟨keeps, made, account, -⟩ := all
  have bil : y.bil = { s.bil with
      log := s.bil.log.drop n ++ served.map (recordFor false true s.siteSec s)
      consumer := (s.bil.consumer + n) % 128
      accounts := y.bil.accounts } := by
    rw [← records]
    exact made
  have still : KeepsAllBut [.bil] s y := KeepsAllBut.trans (keepsAllBut_of (by simp [State.acked])) keeps
  have most : y.bil.log.length ≤ 128 := by
    have count : served.length ≤ 128 - (s.bil.log.length - n) := List.length_take_le ..
    rw [bil]
    simp only [List.length_append, List.length_map, List.length_drop]
    omega
  by_cases room : y.bil.hasRoom = true
  · rw [if_pos room]
    have open' : decide (y.bil.log.length = 128) = false := decide_eq_false (hasRoom_iff.mp room).ne
    refine ⟨still.trans (keepsAllBut_of (by simp)), ?_, account⟩
    rw [State.withBil_bil]
    dsimp only
    rw [open', Bool.and_false, bil]
  · rw [if_neg room]
    have full : decide (y.bil.log.length = 128) = true :=
      decide_eq_true (Nat.le_antisymm most (Nat.not_lt.mp (mt hasRoom_iff.mpr room)))
    refine ⟨still, ?_, account⟩
    rw [full, Bool.and_true]
    exact bil

/-- Settles O52. -/
theorem accountCloseAndAck : Obligations.AccountCloseAndAck := by
  refine ⟨fun s tag id accounts _ => ?_, fun s tag count accounts fits => ⟨fun much => ?_, fun few below => ?_⟩⟩
  · intro answer
    have run : answer = .next (match s.slotOf id.toNat with
        | none => refuse tag .notFound s
        | some i =>
          if (s.account i).state = .closing then refuse tag .state s
          else if (channelsWhere (Channel.pointsAt i) s).isEmpty ∧ s.mtr.pendingCount i = 0 then
            respond tag .ok (optional 4 ((closeAccount i s).1.map be32)) (closeAccount i s).2
          else refuse tag .inUse s) := (congrArg Host.Outcome.next (gated_all ..)).trans rfl
    rw [run]
    refine ⟨fun absent => ?_, fun i holds => ?_⟩
    · cases found : s.slotOf id.toNat with
      | none => rfl
      | some i => exact absurd (slotOf_holds found) (absent i)
    · have hi := holds.1
      rw [slotOf_some holds]
      have taken {serial : Option Nat} {t : State} (active : (s.account i).state ≠ .closing)
          (free : ¬((∃ j u, j < 16 ∧ (s.channel j).mapping = some (i, u)) ∨ ∃ r, some r ∈ s.mtr.pendings ∧ r.account = i))
          (closed : closeAccount i s = (serial, t)) : (if (s.account i).state = .closing then refuse tag .state s
            else if (channelsWhere (Channel.pointsAt i) s).isEmpty ∧ s.mtr.pendingCount i = 0 then
              respond tag .ok (optional 4 ((closeAccount i s).1.map be32)) (closeAccount i s).2
            else refuse tag .inUse s) = t.answered tag .ok (optional 4 (serial.map be32)) := by
        rw [if_neg active, if_pos (not_not.mp (mt accountUsed_iff.mp free)), closed]
        rfl
      refine ⟨fun closing => congrArg Host.Outcome.next (if_pos closing), fun active used => ?_,
        fun active free room below => ?_, fun active free full below => ?_⟩
      · exact congrArg Host.Outcome.next ((if_neg active).trans (if_neg (accountUsed_iff.mpr used)))
      · obtain ⟨t, closed, rest⟩ := closeAccount_room accounts hi room below
        exact ⟨t, congrArg Host.Outcome.next (taken active free closed), rest⟩
      · obtain ⟨t, closed, rest⟩ := closeAccount_full accounts hi full below
        exact ⟨t, congrArg Host.Outcome.next (taken active free closed), rest⟩
  · exact congrArg Host.Outcome.next ((gated_all ..).trans (if_pos much))
  · exact ⟨ackBilling count.toNat s, congrArg Host.Outcome.next ((gated_all ..).trans (if_neg (Nat.not_lt.mpr few))),
      ackBilling_spec accounts fits below⟩

end Sys2Proof.Machine
end

section
/-! The close of an interval, slot after slot (R172, R173, R179): O53. -/

namespace Sys2Proof.Machine

open Sys2Proof.Claims

variable {s t u x : State} {b : Bool} {n : Nat}

/-! ### The close of one slot (R173) -/

theorem hasTotals_eq (a : Account) : a.hasTotals = hasSome a := by
  have positive (k : Nat) : decide (0 < k) = (k != 0) := by
    rw [Bool.eq_iff_iff, decide_eq_true_iff, bne_iff_ne, Nat.pos_iff_ne_zero]
  unfold Account.hasTotals hasSome
  rw [positive, positive, positive, positive]

/-- The four totals of an account are 0. -/
theorem hasSome_false {a : Account} (h : hasSome a = false) :
    a.intEnergy = 0 ∧ a.intCharge = 0 ∧ a.carryEnergy = 0 ∧ a.carryCharge = 0 := by
  simpa [hasSome, and_assoc] using h

theorem totalsBelow_emptied {k : Nat} {a : Account} (below : TotalsBelow k a) : TotalsBelow k a.emptied := below

theorem closeSlot_free {i : Nat} (free : (s.account i).state = .free) : closeSlot b n i s = s := if_pos free

theorem closeSlot_carries {i : Nat} (held : (s.account i).state ≠ .free) (some : hasSome (s.account i) = true)
    (full : ¬s.bil.log.length < 128) : closeSlot b n i s = carryAccount i s :=
  (if_neg held).trans ((if_pos ((hasTotals_eq _).trans some)).trans (if_neg (mt hasRoom_iff.mp full)))

theorem closeSlot_produces {i : Nat} (held : (s.account i).state ≠ .free) (active : (s.account i).state ≠ .closing)
    (some : hasSome (s.account i) = true) (room : s.bil.log.length < 128) : closeSlot b n i s = produce i b n s :=
  (if_neg held).trans ((if_pos ((hasTotals_eq _).trans some)).trans ((if_pos (hasRoom_iff.mpr room)).trans (if_neg active)))

theorem closeSlot_serves {i : Nat} (closing : (s.account i).state = .closing) (some : hasSome (s.account i) = true)
    (room : s.bil.log.length < 128) : closeSlot b n i s = serveClosing i b n 128 s :=
  (if_neg (by rw [closing]; decide)).trans
    ((if_pos ((hasTotals_eq _).trans some)).trans ((if_pos (hasRoom_iff.mpr room)).trans (if_pos closing)))

/-- The flags and groups of a slot emptied (R173). -/
def State.slotEmptied (s : State) (i : Nat) : State := changeAccount i Account.emptied s

theorem slotEmptied_state (i : Nat) (s : State) : ((s.slotEmptied i).account i).state = (s.account i).state := by
  rw [State.slotEmptied, account_changeAccount]
  split <;> rfl

theorem closeSlot_nothing {i : Nat} (held : (s.account i).state ≠ .free) (none : hasSome (s.account i) = false) :
    closeSlot b n i s = serveClosing i b n 128 (s.slotEmptied i) :=
  (if_neg held).trans (if_neg (by rw [hasTotals_eq, none]; exact Bool.false_ne_true))

theorem closeSlot_empties {i : Nat} (held : (s.account i).state ≠ .free) (none : hasSome (s.account i) = false)
    (idle : (s.account i).state ≠ .closing ∨ ¬s.bil.log.length < 128) : closeSlot b n i s = s.slotEmptied i := by
  rw [closeSlot_nothing held none]
  refine serveClosing_idle 128 fun h => ?_
  rw [slotEmptied_state] at h
  exact idle.elim (fun active => active h.1) fun full => full (hasRoom_iff.mp h.2)

theorem closeSlot_work (i : Nat) (s : State) : SlotWork i s (closeSlot b n i s) := by
  by_cases free : (s.account i).state = .free
  · rw [closeSlot_free free]
    exact .refl i s
  · cases some : hasSome (s.account i) with
    | false =>
      rw [closeSlot_nothing free some]
      exact (changeAccount_work i Account.emptied s).trans (serveClosing_work ..)
    | true =>
      by_cases room : s.bil.log.length < 128
      · by_cases closing : (s.account i).state = .closing
        · rw [closeSlot_serves closing some room]
          exact serveClosing_work ..
        · rw [closeSlot_produces free closing some room]
          exact produce_work ..
      · rw [closeSlot_carries free some room]
        exact carryAccount_work ..

theorem slotEmptied_account {i : Nat} (accounts : s.bil.accounts.length = 64) (hi : i < 64) :
    (s.slotEmptied i).account i = (s.account i).emptied := by
  rw [State.slotEmptied, account_changeAccount, if_pos ⟨rfl, accounts.symm ▸ hi⟩]

/-- A closing account that ends at once leaves the slot, with the record of what it had (R178). -/
theorem closeSlot_ends {i : Nat} (accounts : s.bil.accounts.length = 64) (hi : i < 64) (closing : (s.account i).state = .closing)
    (below : TotalsBelow (2 ^ 32) (s.account i)) (room : s.bil.log.length < 128) :
    (closeSlot b n i s).account i = .reset ∧ (closeSlot b n i s).bil.log.length = s.bil.log.length + 1 ∧
    (hasSome (s.account i) = true → recordFor b true n s i ∈ (closeSlot b n i s).bil.log) := by
  have held : (s.account i).state ≠ .free := by rw [closing]; decide
  cases some : hasSome (s.account i) with
  | true =>
    have served := serveClosing_served (b := b) (n := n) accounts hi closing below room
    rw [closeSlot_serves closing some room]
    refine ⟨(served.account i).trans (if_pos (List.mem_singleton.mpr rfl)), ?_, fun _ => ?_⟩
    · rw [served.bil]
      simp
    · rw [served.bil]
      exact List.mem_append_right _ (List.mem_singleton.mpr rfl)
  | false =>
    have own := slotEmptied_account accounts hi
    have served := serveClosing_served (s := s.slotEmptied i) (b := b) (n := n) ((adjust_length ..).trans accounts) hi
      ((slotEmptied_state i s).trans closing) (by rw [own]; exact totalsBelow_emptied below) room
    rw [closeSlot_nothing held some]
    refine ⟨(served.account i).trans (if_pos (List.mem_singleton.mpr rfl)), ?_, fun yes => absurd yes Bool.false_ne_true⟩
    rw [served.bil]
    simp [State.slotEmptied, changeAccount]

/-- One slot writes at most one record, where a closing account ends at once. -/
theorem closeSlot_grows {i : Nat} (accounts : s.bil.accounts.length = 64) (hi : i < 64)
    (below : (s.account i).state = .closing → TotalsBelow (2 ^ 32) (s.account i)) :
    (closeSlot b n i s).bil.log.length ≤ s.bil.log.length + 1 := by
  by_cases free : (s.account i).state = .free
  · rw [closeSlot_free free]
    omega
  · by_cases room : s.bil.log.length < 128
    · by_cases closing : (s.account i).state = .closing
      · rw [(closeSlot_ends accounts hi closing (below closing) room).2.1]
      · cases some : hasSome (s.account i) with
        | true =>
          rw [closeSlot_produces free closing some room, produce_bil]
          simp
        | false =>
          rw [closeSlot_empties free some (.inl closing)]
          exact Nat.le_succ _
    · cases some : hasSome (s.account i) with
      | true =>
        have log : (carryAccount i s).bil.log = s.bil.log := by
          rw [carryAccount, (reportLogFull_spec ..).2.1]
          rfl
        rw [closeSlot_carries free some room, log]
        omega
      | false =>
        rw [closeSlot_empties free some (.inr room)]
        exact Nat.le_succ _

/-- What an active account had stands, after the close of its slot, in the new records and its carry (R175, R177). -/
structure Conserved (x y : Account) (new : List IntervalRec) : Prop where
  same : y = { x with
    intEnergy := 0, intCharge := 0, carryEnergy := y.carryEnergy, carryCharge := y.carryCharge
    estimated := y.estimated, staleRate := y.staleRate, noSource := y.noSource, groups := y.groups }
  energy : (new.map (·.energy)).sum + y.carryEnergy = x.intEnergy + x.carryEnergy
  charge : (new.map (·.charge)).sum + y.carryCharge = x.intCharge + x.carryCharge

theorem carryAccount_account {i : Nat} (accounts : s.bil.accounts.length = 64) (hi : i < 64)
    (below : TotalsBelow (2 ^ 64) (s.account i)) : (carryAccount i s).account i = carriedOver (s.account i) := by
  have bil := (reportLogFull_spec i (changeAccount i Account.carry s)).2.1
  have account : (carryAccount i s).account i = (changeAccount i Account.carry s).account i :=
    account_of_bil (by rw [carryAccount, bil]) i
  rw [account, account_changeAccount, if_pos ⟨rfl, accounts.symm ▸ hi⟩, carry_eq below]

theorem carryAccount_log (i : Nat) (s : State) : (carryAccount i s).bil.log = s.bil.log := by
  rw [carryAccount, (reportLogFull_spec ..).2.1]
  rfl

theorem emptied_eq {a : Account} (noEnergy : a.intEnergy = 0) (noCharge : a.intCharge = 0) : a.emptied = { a with
    intEnergy := 0, intCharge := 0, carryEnergy := a.emptied.carryEnergy, carryCharge := a.emptied.carryCharge
    estimated := a.emptied.estimated, staleRate := a.emptied.staleRate, noSource := a.emptied.noSource
    groups := a.emptied.groups } := by
  cases a
  cases noEnergy
  cases noCharge
  rfl

theorem closeSlot_conserves {i : Nat} (accounts : s.bil.accounts.length = 64) (hi : i < 64)
    (active : (s.account i).state = .opened ∨ (s.account i).state = .over) (below : TotalsBelow (2 ^ 64) (s.account i)) :
    ∃ new, (closeSlot b n i s).bil.log = s.bil.log ++ new ∧ Conserved (s.account i) ((closeSlot b n i s).account i) new := by
  have held : (s.account i).state ≠ .free := by rcases active with h | h <;> (rw [h]; decide)
  have closing : (s.account i).state ≠ .closing := by rcases active with h | h <;> (rw [h]; decide)
  cases some : hasSome (s.account i) with
  | false =>
    obtain ⟨noEnergy, noCharge, noCarry, noCarryCharge⟩ := hasSome_false some
    rw [closeSlot_empties held some (.inl closing), slotEmptied_account accounts hi]
    refine ⟨[], (List.append_nil _).symm, ?_, ?_, ?_⟩
    · exact emptied_eq noEnergy noCharge
    · change 0 + (s.account i).carryEnergy = _
      rw [noEnergy]
    · change 0 + (s.account i).carryCharge = _
      rw [noCharge]
  | true =>
    by_cases room : s.bil.log.length < 128
    · have stays := endsNow_of_not_closing closing
      have account : (produce i b n s).account i = (s.account i).produced := by
        rw [produce_account, if_pos ⟨rfl, accounts.symm ▸ hi⟩]
      rw [closeSlot_produces held closing some room, account, produced_stays stays below]
      refine ⟨[recordFor b false n s i], ?_, rfl, ?_, ?_⟩
      · rw [produce_bil, intervalRecord_eq below, stays]
        rfl
      · rw [List.map_singleton, List.sum_singleton]
        exact Nat.add_sub_of_le (Nat.min_le_left ..)
      · rw [List.map_singleton, List.sum_singleton]
        exact Nat.add_sub_of_le (Nat.min_le_left ..)
    · rw [closeSlot_carries held some room, carryAccount_account accounts hi below]
      refine ⟨[], by rw [carryAccount_log, List.append_nil], rfl, ?_, ?_⟩
      · exact (Nat.zero_add _).trans (Nat.add_comm ..)
      · exact (Nat.zero_add _).trans (Nat.add_comm ..)

/-! ### Slot after slot -/

/-- The close of the slots of a list, one after the other (R173). -/
def State.slotsClosed (s : State) (b : Bool) (n : Nat) (l : List Nat) : State := l.foldl (fun s i => closeSlot b n i s) s

theorem slotsClosed_cons (i : Nat) (l : List Nat) : s.slotsClosed b n (i :: l) = (closeSlot b n i s).slotsClosed b n l := rfl

theorem slotsClosed_append (l m : List Nat) : s.slotsClosed b n (l ++ m) = (s.slotsClosed b n l).slotsClosed b n m := List.foldl_append

/-- Work on other slots than `i`. -/
structure OtherWork (i : Nat) (s t : State) : Prop where
  keeps : KeepsAllBut [.bil, .evf] s t
  account : t.account i = s.account i
  accounts : t.bil.accounts.length = s.bil.accounts.length
  log : ∃ new, t.bil.log = s.bil.log ++ new ∧ ∀ r ∈ new, r.slot ≠ i
  times : t.bil.serial = s.bil.serial ∧ t.bil.openedAt = s.bil.openedAt ∧ t.bil.boundary = s.bil.boundary ∧
    t.bil.length = s.bil.length ∧ t.bil.consumer = s.bil.consumer

theorem SlotWork.other {i j : Nat} (h : SlotWork j s t) (apart : i ≠ j) : OtherWork i s t := by
  obtain ⟨new, log, slots⟩ := h.log
  exact ⟨h.keeps, h.others i apart, h.accounts, ⟨new, log, fun r member own => apart (own.symm.trans (slots r member))⟩, h.times⟩

theorem OtherWork.refl (i : Nat) (s : State) : OtherWork i s s :=
  ⟨.refl _ s, rfl, rfl, ⟨[], (List.append_nil _).symm, by simp⟩, rfl, rfl, rfl, rfl, rfl⟩

theorem OtherWork.trans {i : Nat} (h : OtherWork i s t) (k : OtherWork i t u) : OtherWork i s u := by
  obtain ⟨new, log, slots⟩ := h.log
  obtain ⟨new', log', slots'⟩ := k.log
  obtain ⟨serial, openedAt, boundary, length, consumer⟩ := h.times
  obtain ⟨serial', openedAt', boundary', length', consumer'⟩ := k.times
  refine ⟨h.keeps.trans k.keeps, k.account.trans h.account, k.accounts.trans h.accounts,
    ⟨new ++ new', by rw [log', log, List.append_assoc], fun r member => ?_⟩, serial'.trans serial, openedAt'.trans openedAt,
    boundary'.trans boundary, length'.trans length, consumer'.trans consumer⟩
  exact (List.mem_append.mp member).elim (slots r) (slots' r)

theorem slotsClosed_other {i : Nat} {l : List Nat} (out : i ∉ l) (s : State) : OtherWork i s (s.slotsClosed b n l) := by
  induction l generalizing s with
  | nil => exact .refl i s
  | cons j l ih =>
    obtain ⟨apart, out'⟩ := not_or.mp (mt List.mem_cons.mpr out)
    exact ((closeSlot_work j s).other apart).trans (ih out' _)

/-- A slot of the list is closed between work on other slots. -/
theorem slotsClosed_at {i : Nat} {l : List Nat} (distinct : l.Nodup) (member : i ∈ l) (s : State) : ∃ l₁ l₂, l = l₁ ++ i :: l₂ ∧
    OtherWork i s (s.slotsClosed b n l₁) ∧ OtherWork i (closeSlot b n i (s.slotsClosed b n l₁)) (s.slotsClosed b n l) := by
  obtain ⟨l₁, l₂, rfl⟩ := List.mem_iff_append.mp member
  obtain ⟨before, after⟩ : i ∉ l₁ ∧ i ∉ l₂ := by
    rw [List.nodup_middle, List.nodup_cons, List.mem_append, not_or] at distinct
    exact distinct.1
  refine ⟨l₁, l₂, rfl, slotsClosed_other before s, ?_⟩
  rw [slotsClosed_append, slotsClosed_cons]
  exact slotsClosed_other after _

/-- Nothing of an active account is lost (R173, R175, R177). -/
theorem slotsClosed_conserves {i : Nat} {l : List Nat} (distinct : l.Nodup) (member : i ∈ l) (accounts : s.bil.accounts.length = 64)
    (hi : i < 64) (active : (s.account i).state = .opened ∨ (s.account i).state = .over)
    (below : TotalsBelow (2 ^ 64) (s.account i)) : Conserved (s.account i) ((s.slotsClosed b n l).account i)
      (((s.slotsClosed b n l).bil.log.drop s.bil.log.length).filter fun r => r.slot == i) := by
  obtain ⟨l₁, l₂, -, before, after⟩ := slotsClosed_at (b := b) (n := n) distinct member s
  obtain ⟨new₁, log₁, slots₁⟩ := before.log
  obtain ⟨new₃, log₃, slots₃⟩ := after.log
  obtain ⟨own, ownLog, ownSlots⟩ := (closeSlot_work (b := b) (n := n) i (s.slotsClosed b n l₁)).log
  obtain ⟨new, log, conserved⟩ := closeSlot_conserves (b := b) (n := n) (before.accounts.trans accounts) hi
    (by rw [before.account]; exact active) (by rw [before.account]; exact below)
  have same : new = own := List.append_cancel_left (log.symm.trans ownLog)
  have none₁ : new₁.filter (fun r => r.slot == i) = [] :=
    List.filter_eq_nil_iff.mpr fun r member => by simpa using slots₁ r member
  have none₃ : new₃.filter (fun r => r.slot == i) = [] :=
    List.filter_eq_nil_iff.mpr fun r member => by simpa using slots₃ r member
  have all : own.filter (fun r => r.slot == i) = own :=
    List.filter_eq_self.mpr fun r member => by simpa using ownSlots r member
  have records : ((s.slotsClosed b n l).bil.log.drop s.bil.log.length).filter (fun r => r.slot == i) = new := by
    rw [log₃, ownLog, log₁, List.append_assoc, List.append_assoc, List.drop_left, List.filter_append, List.filter_append, none₁,
      none₃, all, List.nil_append, List.append_nil, same]
  rw [records, after.account, ← before.account]
  exact conserved

theorem closeSlot_rest {i : Nat} {l : List Nat} (fresh : i ∉ l) (s : State) :
    ∀ j ∈ l, (closeSlot b n i s).account j = s.account j :=
  fun j member => (closeSlot_work i s).others j fun same => fresh (same ▸ member)

theorem slotsClosed_grows {l : List Nat} (distinct : l.Nodup) (inside : ∀ i ∈ l, i < 64) (accounts : s.bil.accounts.length = 64)
    (below : ∀ i ∈ l, (s.account i).state = .closing → TotalsBelow (2 ^ 32) (s.account i)) :
    (s.slotsClosed b n l).bil.log.length ≤ s.bil.log.length + l.length := by
  induction l generalizing s with
  | nil => exact le_rfl
  | cons i l ih =>
    obtain ⟨fresh, distinct'⟩ := List.nodup_cons.mp distinct
    have one := closeSlot_grows (b := b) (n := n) accounts (inside i List.mem_cons_self) (below i List.mem_cons_self)
    have rest := ih distinct' (fun j member => inside j (List.mem_cons_of_mem i member))
      ((closeSlot_work (b := b) (n := n) i s).accounts.trans accounts) (fun j member => by
        rw [closeSlot_rest fresh s j member]
        exact below j (List.mem_cons_of_mem i member))
    rw [slotsClosed_cons, List.length_cons]
    omega

/-- A closing account whose totals fit ends, where the log has room for every slot (R178). -/
theorem slotsClosed_ends {i : Nat} {l : List Nat} (distinct : l.Nodup) (inside : ∀ i ∈ l, i < 64)
    (accounts : s.bil.accounts.length = 64) (below : ∀ i ∈ l, (s.account i).state = .closing → TotalsBelow (2 ^ 32) (s.account i))
    (room : s.bil.log.length + l.length ≤ 128) (member : i ∈ l) (closing : (s.account i).state = .closing) :
    (s.slotsClosed b n l).account i = .reset ∧
    (hasSome (s.account i) = true → recordFor b true n s i ∈ (s.slotsClosed b n l).bil.log) := by
  obtain ⟨l₁, l₂, rfl, before, after⟩ := slotsClosed_at (b := b) (n := n) distinct member s
  have first : ∀ j ∈ l₁, j ∈ l₁ ++ i :: l₂ := fun j h => List.mem_append_left _ h
  have grown := slotsClosed_grows (b := b) (n := n) (List.nodup_append.mp distinct).1 (fun j h => inside j (first j h)) accounts
    (fun j h => below j (first j h))
  rw [List.length_append, List.length_cons] at room
  obtain ⟨ends, -, written⟩ := closeSlot_ends (b := b) (n := n) (before.accounts.trans accounts) (inside i member)
    (by rw [before.account]; exact closing) (by rw [before.account]; exact below i member closing) (by omega)
  obtain ⟨serial, openedAt, -⟩ := before.times
  refine ⟨after.account.trans ends, fun some => ?_⟩
  obtain ⟨new, log, -⟩ := after.log
  rw [log, ← recordFor_congr before.account (before.keeps.mtr (by decide)) serial openedAt]
  exact List.mem_append_left _ (written (by rw [before.account]; exact some))

/-- The slots of a list that have something to close (R173). -/
def State.busyOf (s : State) (l : List Nat) : List Nat :=
  l.filter fun i => decide ((s.account i).state ≠ .free) && hasSome (s.account i)

theorem busyOf_congr {l : List Nat} (same : ∀ i ∈ l, t.account i = s.account i) : t.busyOf l = s.busyOf l :=
  List.filter_congr fun i member => by rw [same i member]

theorem busyOf_cons_of_busy {i : Nat} {l : List Nat} (held : (s.account i).state ≠ .free) (some : hasSome (s.account i) = true) :
    s.busyOf (i :: l) = i :: s.busyOf l := List.filter_cons_of_pos (by simp [held, some])

theorem busyOf_cons_of_idle {i : Nat} {l : List Nat} (idle : (s.account i).state = .free ∨ hasSome (s.account i) = false) :
    s.busyOf (i :: l) = s.busyOf l := List.filter_cons_of_neg (by rcases idle with h | h <;> simp [h])

/-- With nothing to close and nothing to serve, the flags and groups are emptied at most. -/
theorem closeSlot_idle {i : Nat} (idle : (s.account i).state = .free ∨ hasSome (s.account i) = false)
    (quiet : (s.account i).state ≠ .closing ∨ ¬s.bil.log.length < 128) : (closeSlot b n i s).evf = s.evf ∧
    (closeSlot b n i s).bil.log = s.bil.log ∧ (closeSlot b n i s).bil.fullReported = s.bil.fullReported := by
  by_cases free : (s.account i).state = .free
  · rw [closeSlot_free free]
    exact ⟨rfl, rfl, rfl⟩
  · rw [closeSlot_empties free (idle.resolve_left free) quiet]
    exact ⟨rfl, rfl, rfl⟩

/-- With room for all, each slot that has something gets its record, ascending (R173). -/
theorem slotsClosed_records {l : List Nat} (distinct : l.Nodup) (inside : ∀ i ∈ l, i < 64) (accounts : s.bil.accounts.length = 64)
    (active : ∀ i ∈ l, (s.account i).state ≠ .closing) (below : ∀ i ∈ l, TotalsBelow (2 ^ 64) (s.account i))
    (room : s.bil.log.length + (s.busyOf l).length ≤ 128) :
    (s.slotsClosed b n l).bil.log = s.bil.log ++ (s.busyOf l).map (recordFor b false n s) ∧
    (s.slotsClosed b n l).evf = s.evf ∧ (s.slotsClosed b n l).bil.fullReported = s.bil.fullReported := by
  induction l generalizing s with
  | nil => exact ⟨(List.append_nil _).symm, rfl, rfl⟩
  | cons i l ih =>
    obtain ⟨fresh, distinct'⟩ := List.nodup_cons.mp distinct
    have work := closeSlot_work (b := b) (n := n) i s
    have others := closeSlot_rest (b := b) (n := n) fresh s
    have busy := busyOf_congr others
    have rest := ih (s := closeSlot b n i s) distinct' (fun j member => inside j (List.mem_cons_of_mem i member))
      (work.accounts.trans accounts) (fun j member => by rw [others j member]; exact active j (List.mem_cons_of_mem i member))
      (fun j member => by rw [others j member]; exact below j (List.mem_cons_of_mem i member))
    obtain ⟨serial, openedAt, -⟩ := work.times
    have records : (s.busyOf l).map (recordFor b false n (closeSlot b n i s)) = (s.busyOf l).map (recordFor b false n s) :=
      List.map_congr_left fun j member =>
        recordFor_congr (others j (List.mem_of_mem_filter member)) (work.keeps.mtr (by decide)) serial openedAt
    rw [busy, records] at rest
    rw [slotsClosed_cons]
    have closing := active i List.mem_cons_self
    by_cases works : (s.account i).state ≠ .free ∧ hasSome (s.account i) = true
    · obtain ⟨held, some⟩ := works
      rw [busyOf_cons_of_busy held some] at room ⊢
      rw [List.length_cons] at room
      have made := closeSlot_produces (b := b) (n := n) held closing some (by omega)
      have log : (closeSlot b n i s).bil.log = s.bil.log ++ [recordFor b false n s i] := by
        rw [made, produce_bil, intervalRecord_eq (below i List.mem_cons_self), endsNow_of_not_closing closing]
        rfl
      have evf : (closeSlot b n i s).evf = s.evf := by rw [made]; rfl
      have reported : (closeSlot b n i s).bil.fullReported = s.bil.fullReported := by rw [made]; rfl
      obtain ⟨written, evf', reported'⟩ := rest (by rw [log, List.length_append, List.length_singleton]; omega)
      refine ⟨?_, evf'.trans evf, reported'.trans reported⟩
      rw [written, log, List.append_assoc]
      rfl
    · have idle : (s.account i).state = .free ∨ hasSome (s.account i) = false := by
        rw [← Bool.not_eq_true]
        exact (not_and_or.mp works).imp_left not_not.mp
      rw [busyOf_cons_of_idle idle] at room ⊢
      obtain ⟨evf, log, reported⟩ := closeSlot_idle (b := b) (n := n) idle (.inl closing)
      rw [log, evf, reported] at rest
      exact rest room

theorem tellsFull_of_end {i : Nat} (h : TellsFull i s t) (evf : u.evf = t.evf) (reported : u.bil.fullReported = true) :
    TellsFull i s u := by
  obtain ⟨-, again, first⟩ := h
  refine ⟨reported, fun yes => evf.trans (again yes), fun no => ?_⟩
  obtain ⟨sticky, posts⟩ := first no
  exact ⟨by rw [evf]; exact sticky, fun room => by rw [evf]; exact posts room⟩

/-- On a full log, what there is to close is carried, and told once a filling (R177). -/
theorem slotsClosed_full {l : List Nat} (distinct : l.Nodup) (full : ¬s.bil.log.length < 128) :
    (s.slotsClosed b n l).bil.log = s.bil.log ∧
    (s.bil.fullReported = true → (s.slotsClosed b n l).evf = s.evf ∧ (s.slotsClosed b n l).bil.fullReported = true) ∧
    (s.busyOf l = [] → (s.slotsClosed b n l).evf = s.evf ∧ (s.slotsClosed b n l).bil.fullReported = s.bil.fullReported) ∧
    ∀ i, (s.busyOf l).head? = some i → TellsFull i s (s.slotsClosed b n l) := by
  induction l generalizing s with
  | nil => exact ⟨rfl, fun told => ⟨rfl, told⟩, fun _ => ⟨rfl, rfl⟩, nofun⟩
  | cons i l ih =>
    obtain ⟨fresh, distinct'⟩ := List.nodup_cons.mp distinct
    have busy := busyOf_congr (closeSlot_rest (b := b) (n := n) fresh s)
    rw [slotsClosed_cons]
    by_cases works : (s.account i).state ≠ .free ∧ hasSome (s.account i) = true
    · obtain ⟨held, some⟩ := works
      have made := closeSlot_carries (b := b) (n := n) held some full
      have log : (closeSlot b n i s).bil.log = s.bil.log := by rw [made, carryAccount_log]
      have told : TellsFull i s (closeSlot b n i s) := by
        rw [made]
        exact tellsFull_of_start (reportLogFull_spec i (changeAccount i Account.carry s)).2.2 rfl rfl rfl rfl rfl
      obtain ⟨log', again, -, -⟩ := ih (s := closeSlot b n i s) distinct' (by rw [log]; exact full)
      obtain ⟨evf, reported⟩ := again told.1
      rw [busyOf_cons_of_busy held some]
      refine ⟨log'.trans log, fun yes => ⟨evf.trans (told.2.1 yes), reported⟩, nofun, fun j first => ?_⟩
      cases first
      exact tellsFull_of_end told evf reported
    · have idle : (s.account i).state = .free ∨ hasSome (s.account i) = false := by
        rw [← Bool.not_eq_true]
        exact (not_and_or.mp works).imp_left not_not.mp
      have work := closeSlot_work (b := b) (n := n) i s
      obtain ⟨evf, log, reported⟩ := closeSlot_idle (b := b) (n := n) idle (.inr full)
      obtain ⟨log', again, nothing, first⟩ := ih (s := closeSlot b n i s) distinct' (by rw [log]; exact full)
      rw [log] at log'
      rw [evf, reported] at again nothing
      rw [busy] at nothing first
      rw [busyOf_cons_of_idle idle]
      exact ⟨log', again, nothing, fun j head => tellsFull_of_start (first j head) evf (work.keeps.clock (by decide))
        (work.keeps.hpt (by decide)) work.times.1 reported⟩

end Sys2Proof.Machine
end

section
/-! The interval's boundary, SET_TIME and the wrap of site time (R36, R172, R173, R179, R193): O53. -/

namespace Sys2Proof.Machine

open Sys2Proof.Claims

variable {s t u x y : State} {b : Bool} {n : Nat}

/-! ### The current interval closed -/

theorem closeInterval_of (h : s.slotsClosed b n (List.range 64) = y) :
    closeInterval b n s = y.withBil { y.bil with serial := (y.bil.serial + 1) % 2 ^ 32 } := by
  unfold State.slotsClosed at h
  unfold closeInterval
  dsimp only
  rw [h]

theorem mem_busyOf {l : List Nat} {i : Nat} : i ∈ s.busyOf l ↔ i ∈ l ∧ (s.account i).state ≠ .free ∧ hasSome (s.account i) = true := by
  simp [State.busyOf]

/-- What stands of the billing unit, but for the times, where the slots have been closed. -/
theorem closes_of_slots (accounts : s.bil.accounts.length = 64) (closed : s.slotsClosed b n (List.range 64) = y)
    (log : t.bil.log = y.bil.log) (accs : t.bil.accounts = y.bil.accounts) (serial : t.bil.serial = (s.bil.serial + 1) % 2 ^ 32)
    (length : t.bil.length = s.bil.length) (consumer : t.bil.consumer = s.bil.consumer)
    (reported : t.bil.fullReported = y.bil.fullReported) (evf : t.evf = y.evf) : Closes b n s t := by
  have distinct : (List.range 64).Nodup := List.nodup_range
  have inside : ∀ i ∈ List.range 64, i < 64 := fun i => List.mem_range.mp
  have account := account_of_bil accs
  have whole : OtherWork 64 s y := closed ▸ slotsClosed_other (fun h => absurd (List.mem_range.mp h) (by decide)) s
  obtain ⟨new, written, -⟩ := whole.log
  have size : (List.range 64).length = 64 := List.length_range
  refine ⟨serial, length, consumer, ?_, fun i hi free => ?_, fun i hi active below => ?_, fun room active below => ?_,
    fun room below i hi closing => ?_, fun full => ?_⟩
  · rw [log, written]
    exact List.prefix_append ..
  · obtain ⟨l₁, l₂, -, before, after⟩ := slotsClosed_at (b := b) (n := n) distinct (List.mem_range.mpr hi) s
    have still : (s.slotsClosed b n l₁).account i = s.account i := before.account
    rw [account, ← closed, after.account, closeSlot_free (by rw [still]; exact free), still]
  · have conserved := slotsClosed_conserves (b := b) (n := n) distinct (List.mem_range.mpr hi) accounts hi active below
    rw [closed, ← log, ← account] at conserved
    exact ⟨conserved.same, conserved.energy, conserved.charge⟩
  · obtain ⟨records, evf', reported'⟩ := slotsClosed_records (b := b) (n := n) distinct inside accounts
      (fun i member => active i (inside i member)) (fun i member => below i (inside i member)) room
    rw [closed] at records evf' reported'
    exact ⟨log.trans records, evf.trans evf', reported.trans reported'⟩
  · obtain ⟨reset, record⟩ := slotsClosed_ends (b := b) (n := n) distinct inside accounts
      (fun j member => below j (inside j member)) (size.symm ▸ room) (List.mem_range.mpr hi) closing
    rw [closed] at reset record
    exact ⟨(account i).trans reset, fun some => log ▸ record some⟩
  · have none := Nat.not_lt.mpr full
    obtain ⟨log', -, nothing, first⟩ := slotsClosed_full (b := b) (n := n) distinct none
    rw [closed] at log' nothing first
    refine ⟨log.trans log', fun i member below => ?_, fun i head => ?_, fun empty => ?_⟩
    · obtain ⟨inside', held, some⟩ := mem_busyOf.mp member
      obtain ⟨l₁, l₂, -, before, after⟩ := slotsClosed_at (b := b) (n := n) distinct inside' s
      have still : (s.slotsClosed b n l₁).account i = s.account i := before.account
      obtain ⟨new₁, log₁, -⟩ := before.log
      have full' : ¬(s.slotsClosed b n l₁).bil.log.length < 128 := by
        rw [log₁, List.length_append]
        omega
      rw [account, ← closed, after.account, closeSlot_carries (by rw [still]; exact held) (by rw [still]; exact some) full',
        carryAccount_account (before.accounts.trans accounts) (inside i inside') (by rw [still]; exact below), still]
    · have told := first i head
      exact tellsFull_of_end told evf (reported.trans told.1)
    · obtain ⟨evf', reported'⟩ := nothing empty
      exact ⟨evf.trans evf', reported.trans reported'⟩

theorem closes_of_end (bil : t.bil = x.bil) (evf : t.evf = x.evf) (h : Closes b n s x) : Closes b n s t := by
  simpa only [Closes, TellsFull, Reports, Posts, State.account, bil, evf] using h

/-- The close of an interval, with the times of the next (R173, R179). -/
theorem closeInterval_closes (accounts : s.bil.accounts.length = 64) (b : Bool) (n openedAt boundary : Nat) :
    let t := (closeInterval b n s).withBil { (closeInterval b n s).bil with openedAt := openedAt, boundary := boundary }
    KeepsAllBut [.bil, .evf] s t ∧ Closes b n s t ∧ (closeInterval b n s).bil.length = s.bil.length := by
  generalize closed : s.slotsClosed b n (List.range 64) = y
  have whole : OtherWork 64 s y := closed ▸ slotsClosed_other (fun h => absurd (List.mem_range.mp h) (by decide)) s
  obtain ⟨serial, -, -, length, consumer⟩ := whole.times
  rw [closeInterval_of closed]
  exact ⟨whole.keeps.trans (keepsAllBut_of (by simp)),
    closes_of_slots accounts closed rfl rfl (congrArg (fun k => (k + 1) % 2 ^ 32) serial) length consumer rfl rfl, length⟩

/-! ### Boundaries (R172) -/

theorem nextBoundary_isBoundary {minutes : Nat} (positive : 0 < minutes) (sec : Nat) :
    IsBoundary minutes sec (nextBoundary minutes sec) := by
  have size : 0 < minutes * 60 := Nat.mul_pos positive (by decide)
  have divided := Nat.div_add_mod sec (minutes * 60)
  have rest := Nat.mod_lt sec size
  have next : nextBoundary minutes sec = minutes * 60 * (sec / (minutes * 60)) + minutes * 60 := by
    rw [nextBoundary, Nat.add_mul, Nat.one_mul, Nat.mul_comm (sec / (minutes * 60))]
  refine ⟨?_, ?_, ?_⟩
  · omega
  · omega
  · exact Nat.dvd_mul_left ..

/-! ### Changes of site time (R36, R179, R193) -/

theorem timeChange_same {sec : Nat} (h : s.siteSec / (s.bil.length * 60) = sec / (s.bil.length * 60)) :
    timeChange sec s = s.withBil { s.bil with boundary := nextBoundary s.bil.length sec } := if_pos h

theorem timeChange_other {sec : Nat} (h : s.siteSec / (s.bil.length * 60) ≠ sec / (s.bil.length * 60)) :
    timeChange sec s = (closeInterval true s.siteSec s).withBil { (closeInterval true s.siteSec s).bil with
      openedAt := sec, boundary := nextBoundary (closeInterval true s.siteSec s).bil.length sec } := by
  unfold timeChange
  generalize closeInterval true s.siteSec s = x
  exact if_neg h

theorem intervalBoundary_due (h : s.bil.boundary ≤ s.siteSec) (closed : closeInterval false s.siteSec s = x) :
    intervalBoundary s = x.withBil { x.bil with
      openedAt := s.bil.boundary, boundary := nextBoundary x.bil.length s.bil.boundary } := by
  unfold intervalBoundary
  dsimp only
  rw [closed, if_neg (Nat.not_lt.mpr h)]

/-- A change of site time at the billing unit (R179). -/
theorem timeChange_spec (sec : Nat) (accounts : s.bil.accounts.length = 64) (positive : 0 < s.bil.length) :
    KeepsAllBut [.bil, .evf] s (timeChange sec s) ∧ IsBoundary s.bil.length sec (timeChange sec s).bil.boundary ∧
    (s.siteSec / (s.bil.length * 60) = sec / (s.bil.length * 60) →
      (timeChange sec s).bil = { s.bil with boundary := (timeChange sec s).bil.boundary } ∧ (timeChange sec s).evf = s.evf) ∧
    (s.siteSec / (s.bil.length * 60) ≠ sec / (s.bil.length * 60) →
      Closes true s.siteSec s (timeChange sec s) ∧ (timeChange sec s).bil.openedAt = sec) := by
  by_cases same : s.siteSec / (s.bil.length * 60) = sec / (s.bil.length * 60)
  · rw [timeChange_same same]
    exact ⟨keepsAllBut_of (by simp), nextBoundary_isBoundary positive sec, fun _ => ⟨rfl, rfl⟩, fun other => absurd same other⟩
  · rw [timeChange_other same]
    obtain ⟨keeps, closes, length⟩ := closeInterval_closes accounts true s.siteSec sec
      (nextBoundary (closeInterval true s.siteSec s).bil.length sec)
    refine ⟨keeps, ?_, fun h => absurd h same, fun _ => ⟨closes, rfl⟩⟩
    rw [State.withBil_bil]
    dsimp only
    rw [length]
    exact nextBoundary_isBoundary positive sec

/-- What a change of site time sets, the state's time and the millis of the old one being what they are (R36, R193). -/
theorem setSiteTime_eq (sec : Nat) (millis : Int) (h : timeChange sec s = x) : setSiteTime sec millis s =
    (x.withPvt (x.pvt.moved ((sec * 1000 : Nat) - millis))).withClock { x.clock with site := sec * second } := by
  unfold setSiteTime
  rw [h]
  exact rfl

theorem setSiteTime_spec (sec : Nat) (accounts : s.bil.accounts.length = 64) (positive : 0 < s.bil.length) :
    TimeSetTo sec s (setSiteTime sec s.stamp s) := by
  obtain ⟨keeps, boundary, same, other⟩ := timeChange_spec sec accounts positive
  generalize changed : timeChange sec s = x at keeps boundary same other
  rw [setSiteTime_eq sec s.stamp changed]
  have pvt : x.pvt = s.pvt := keeps.pvt (by decide)
  have clock : x.clock = s.clock := keeps.clock (by decide)
  refine ⟨(keeps.mono (by decide)).trans (keepsAllBut_of (by simp)), ?_, ?_, boundary, same, other⟩
  · rw [State.withClock_clock, clock]
  · rw [State.withClock_pvt, State.withPvt_pvt, pvt]
    simp only [Pvt.moved, State.stamp, Nat.cast_mul, Nat.cast_ofNat]

/-! ### INTERVAL_BOUNDARY and the wrap -/

theorem intervalBoundary_spec (accounts : s.bil.accounts.length = 64) (positive : 0 < s.bil.length)
    (due : s.bil.boundary ≤ s.siteSec) :
    KeepsAllBut [.bil, .evf] s (intervalBoundary s) ∧ Closes false s.siteSec s (intervalBoundary s) ∧
    (intervalBoundary s).bil.openedAt = s.bil.boundary ∧
    IsBoundary s.bil.length s.bil.boundary (intervalBoundary s).bil.boundary := by
  have closes := fun boundary => closeInterval_closes accounts false s.siteSec s.bil.boundary boundary
  generalize closed : closeInterval false s.siteSec s = x at closes
  rw [intervalBoundary_due due closed]
  obtain ⟨keeps, closes, length⟩ := closes (nextBoundary x.bil.length s.bil.boundary)
  refine ⟨keeps, closes, rfl, ?_⟩
  rw [State.withBil_bil]
  dsimp only
  rw [length]
  exact nextBoundary_isBoundary positive _

theorem lastMoment_siteSec (s : State) : (lastMoment s).siteSec = 2 ^ 32 - 1 := by
  simp only [State.siteSec, lastMoment, State.withClock_clock, siteTimeEnd, second]
  norm_num

/-- The last second of site time lies in another interval than second 0. -/
theorem lastMoment_elsewhere {minutes : Nat} (positive : 0 < minutes) (hour : minutes ≤ 60) :
    (lastMoment s).siteSec / (minutes * 60) ≠ 0 / (minutes * 60) := by
  have last : 0 < (2 ^ 32 - 1) / (minutes * 60) := Nat.div_pos (by omega) (by omega)
  rw [lastMoment_siteSec, Nat.zero_div]
  exact last.ne'

/-- The wrap of site time, at the end of its last second (R36, R193). -/
theorem wrap_spec (accounts : s.bil.accounts.length = 64) (positive : 0 < s.bil.length) :
    ∃ t, setSiteTime 0 s.stamp (lastMoment s) = t ∧
      t.clock = ⟨s.clock.elapsed, 0⟩ ∧ t.pvt = { s.pvt with peers := s.pvt.peers.map fun p => { p with
        lastHeard := p.lastHeard - s.siteMillis, lostSince := p.lostSince.map (· - s.siteMillis) } } ∧
      KeepsAllBut [.clock, .pvt, .bil, .evf] s t ∧
      (s.bil.length ≤ 60 → Closes true (lastMoment s).siteSec (lastMoment s) t ∧ t.bil.openedAt = 0) := by
  obtain ⟨keeps, -, -, other⟩ := timeChange_spec (s := lastMoment s) 0 accounts positive
  generalize changed : timeChange 0 (lastMoment s) = x at keeps other
  have pvt : x.pvt = s.pvt := keeps.pvt (by decide)
  have elapsed : x.clock = (lastMoment s).clock := keeps.clock (by decide)
  have start : KeepsAllBut [.clock] s (lastMoment s) := keepsAllBut_of (by simp [lastMoment])
  have whole : KeepsAllBut [.clock, .pvt, .bil, .evf] s x := (start.mono (by decide)).trans (keeps.mono (by decide))
  refine ⟨_, setSiteTime_eq 0 s.stamp changed, ?_, ?_, whole.trans (keepsAllBut_of (by simp)), fun hour => ?_⟩
  · rw [State.withClock_clock, elapsed]
    exact rfl
  · rw [State.withClock_pvt, State.withPvt_pvt, pvt]
    simp only [Pvt.moved, State.stamp, Nat.zero_mul, Nat.cast_zero, zero_sub, ← sub_eq_add_neg]
  · obtain ⟨closes, openedAt⟩ := other (lastMoment_elsewhere positive hour)
    exact ⟨closes_of_end (by simp) (by simp) closes, by simpa using openedAt⟩

/-- Settles O53. -/
theorem intervalCloses : Obligations.IntervalCloses := by
  refine ⟨fun s accounts positive => ⟨fun before => congrArg Host.Outcome.next (if_pos before), fun due => ?_⟩,
    fun s tag time accounts positive => ?_, fun s accounts positive => ⟨fun before => ?_, fun last => ?_⟩⟩
  · exact ⟨_, rfl, intervalBoundary_spec accounts positive due⟩
  · exact ⟨_, congrArg Host.Outcome.next (gated_all ..), setSiteTime_spec time.toNat accounts positive⟩
  · exact congrArg Host.Outcome.next (if_neg (Nat.not_le.mpr before))
  · obtain ⟨t, wrapped, spec⟩ := wrap_spec accounts positive
    rw [lastMoment_siteSec] at spec
    exact ⟨t, (congrArg Host.Outcome.next (if_pos last.ge)).trans (congrArg Host.Outcome.next wrapped), spec⟩

end Sys2Proof.Machine
end

section
/-! Transactions and their records (R183 to R186, R208): O55. -/

namespace Sys2Proof.Machine

open Sys2Proof.Claims

variable {s t u x y : State} {kind tag len : Byte} {body rest bytes : List Byte} {c : Instr}

/-! ### Fields of two and of four bytes -/

theorem half_be16 (x : Half) : half (byte (x.toNat / 256)) (byte x.toNat) = x := by
  have small := x.isLt
  apply BitVec.eq_of_toNat_eq
  rw [half, of16_be16 small, BitVec.toNat_ofNat, Nat.mod_eq_of_lt small]

theorem be16_half (h l : Byte) : be16 (half h l).toNat = [h, l] := by
  have high := h.isLt
  have low := l.isLt
  have value : (half h l).toNat = h.toNat * 256 + l.toNat := by
    rw [half, BitVec.toNat_ofNat, of16]
    omega
  rw [be16, value]
  congr 1
  · apply BitVec.eq_of_toNat_eq
    rw [byte_toNat_mod]
    omega
  · congr 1
    apply BitVec.eq_of_toNat_eq
    rw [byte_toNat_mod]
    omega

theorem word_be32 (x : Word) : word (byte (x.toNat / 16777216)) (byte (x.toNat / 65536)) (byte (x.toNat / 256))
    (byte x.toNat) = x := by
  have small := x.isLt
  apply BitVec.eq_of_toNat_eq
  simp only [word, of32, byte_toNat_mod, BitVec.toNat_ofNat]
  omega

theorem be32_word (a b c d : Byte) : be32 (word a b c d).toNat = [a, b, c, d] := by
  have first := a.isLt
  have second := b.isLt
  have third := c.isLt
  have fourth := d.isLt
  have value : (word a b c d).toNat = of32 a b c d := by
    rw [word, BitVec.toNat_ofNat, of32]
    omega
  have byteIs : ∀ (n : Nat) (x : Byte), n % 256 = x.toNat → byte n = x := fun n x h =>
    BitVec.eq_of_toNat_eq ((byte_toNat_mod n).trans h)
  rw [be32, value, of32, byteIs _ a (by omega), byteIs _ b (by omega), byteIs _ c (by omega), byteIs _ d (by omega)]

/-! ### Commands and their bodies (R208) -/

/-- The lengths that a kind's body may have, where the kind is CONFIGURE. -/
def lengthTaken (kind : Byte) (body : List Byte) : Prop := kind = 1 → body.length = 4 ∨ body.length = 83

theorem readCommand_of_hostBody (h : hostBody c = some (kind, tag, body)) (allowed : lengthTaken kind body) :
    readCommand kind.toNat tag body = some c := by
  cases c <;> simp only [hostBody, reduceCtorEq, Option.some.injEq, Prod.mk.injEq] at h <;>
    obtain ⟨rfl, rfl, rfl⟩ := h
  case configure => exact if_pos (allowed rfl)
  all_goals exact (rfl : _ = some _).trans (by simp only [half_be16, word_be32])

/-- Where a kind is R189's, what it and a body spell is the command whose kind and body they are (R184, R208). -/
theorem hostBody_of_readCommand {known : Instr} {tag' : Byte} {body' : List Byte} (h : hostBody known = some (kind, tag', body'))
    (read : readCommand kind.toNat tag body = some c) : hostBody c = some (kind, tag, body) ∧ lengthTaken kind body := by
  cases known <;> simp only [hostBody, reduceCtorEq, Option.some.injEq, Prod.mk.injEq] at h <;>
    obtain ⟨rfl, rfl, rfl⟩ := h
  case configure =>
    obtain ⟨allowed, spelled⟩ := Option.ite_none_right_eq_some.mp read
    exact ⟨Option.some.inj spelled ▸ rfl, fun _ => allowed⟩
  all_goals refine ⟨?_, nofun⟩
  case noop | commit | resetSoft | clearSet | readPledges | cancelChangeover | deliveryClose | deliveryCancel | readTank | readLots | resyncTank | readBilling | readEvents | readFaults =>
    match body, read with
    | [], read =>
      obtain rfl := Option.some.inj read
      exact rfl
    | _ :: _, read => cases read
  case readPeers | setMode | setRun | selectProfile | changeover | restore | clearFeeder | ackBilling | ackEvents | serviceMark =>
    match body, read with
    | [_], read =>
      obtain rfl := Option.some.inj read
      exact rfl
    | [], read | _ :: _ :: _, read => cases read
  case readNode | shedHost | clearFaults | setFaultMask =>
    match body, read with
    | [_, _], read =>
      obtain rfl := Option.some.inj read
      simp only [hostBody, be16_half]
    | [], read | [_], read | _ :: _ :: _ :: _, read => cases read
  case setTime | accountClose | readAccount =>
    match body, read with
    | [_, _, _, _], read =>
      obtain rfl := Option.some.inj read
      simp only [hostBody, be32_word]
    | [], read | [_], read | [_, _], read | [_, _, _], read | _ :: _ :: _ :: _ :: _ :: _, read => cases read
  case setChannel =>
    match body, read with
    | [_, _, _, _, _], read =>
      obtain rfl := Option.some.inj read
      exact rfl
    | [], read | [_], read | [_, _], read | [_, _, _], read | [_, _, _, _], read | _ :: _ :: _ :: _ :: _ :: _ :: _, read => cases read
  case accountOpen | setLimit | deliveryOpen | resolveTariff =>
    match body, read with
    | [_, _, _, _, _, _, _, _], read =>
      obtain rfl := Option.some.inj read
      simp only [hostBody, be32_word, be16_half, List.cons_append, List.nil_append]
    | [], read | [_], read | [_, _], read | [_, _, _], read | [_, _, _, _], read | [_, _, _, _, _], read | [_, _, _, _, _, _], read | [_, _, _, _, _, _, _], read | _ :: _ :: _ :: _ :: _ :: _ :: _ :: _ :: _ :: _, read => cases read
  case defineTariff =>
    match body, read with
    | [_, _, _, _, _, _, _, _, _, _], read =>
      obtain rfl := Option.some.inj read
      simp only [hostBody, be32_word, be16_half, List.cons_append, List.nil_append]
    | [], read | [_], read | [_, _], read | [_, _, _], read | [_, _, _, _], read | [_, _, _, _, _], read | [_, _, _, _, _, _], read | [_, _, _, _, _, _, _], read | [_, _, _, _, _, _, _, _], read | [_, _, _, _, _, _, _, _, _], read | _ :: _ :: _ :: _ :: _ :: _ :: _ :: _ :: _ :: _ :: _ :: _, read => cases read

/-! ### The kinds of R189 -/

/-- One command of each kind of R189. -/
def hostSamples : List Instr :=
  [.noop 0, .configure 0 [], .commit 0, .resetSoft 0, .setTime 0 0, .readNode 0 0 0, .readPeers 0 0,
    .setMode 0 0, .setRun 0 0, .clearSet 0, .selectProfile 0 0, .readPledges 0,
    .changeover 0 0, .cancelChangeover 0, .restore 0 0, .clearFeeder 0 0,
    .deliveryOpen 0 0 0 0, .deliveryClose 0, .deliveryCancel 0, .readTank 0, .readLots 0, .resyncTank 0,
    .defineTariff 0 0 0 0 0 0, .resolveTariff 0 0 0 0, .setChannel 0 0 0 0 0 0, .shedHost 0 0 0, .accountOpen 0 0 0,
    .accountClose 0 0, .setLimit 0 0 0, .readAccount 0 0, .readBilling 0, .ackBilling 0 0,
    .readEvents 0, .ackEvents 0 0, .serviceMark 0 0, .readFaults 0, .clearFaults 0 0, .setFaultMask 0 0]

/-- The codes of the kinds of R189. -/
def hostCodes : List Nat :=
  List.range' 0x00 7 ++ List.range' 0x10 5 ++ List.range' 0x20 4 ++ List.range' 0x30 6 ++ List.range' 0x40 10 ++
    List.range' 0x50 6

theorem hostSamples_codes : hostSamples.map (fun c => (hostBody c).map fun h => h.1.toNat) = hostCodes.map some := rfl

theorem mem_hostCodes {n : Nat} : n ∈ hostCodes ↔ commandKnown n = true := by
  simp only [hostCodes, commandKnown, List.mem_append, List.mem_range'_1, Bool.or_eq_true, Bool.and_eq_true, decide_eq_true_eq]
  omega

theorem commandKnown_iff : commandKnown kind.toNat = true ↔ ∃ c tag body, hostBody c = some (kind, tag, body) := by
  constructor
  · intro known
    have inside : some kind.toNat ∈ hostSamples.map fun c => (hostBody c).map fun h => h.1.toNat :=
      hostSamples_codes ▸ List.mem_map_of_mem (mem_hostCodes.mpr known)
    obtain ⟨c, -, is⟩ := List.mem_map.mp inside
    obtain ⟨⟨k, tag, body⟩, spelled, code⟩ := Option.map_eq_some_iff.mp is
    obtain rfl : k = kind := BitVec.eq_of_toNat_eq code
    exact ⟨c, tag, body, spelled⟩
  · rintro ⟨c, tag, body, h⟩
    cases c <;> simp only [hostBody, reduceCtorEq, Option.some.injEq, Prod.mk.injEq] at h <;>
      (obtain ⟨rfl, -, -⟩ := h; decide)

/-! ### The record taken at the rise of chip select (R183, R185, R186) -/

theorem takeRecord_cut (h : rest.length ≤ len.toNat) : takeRecord kind tag len rest s = refuse tag .badLength s :=
  if_pos (Nat.lt_succ_of_le h)

theorem takeRecord_badCheck (h : len.toNat < rest.length) (sum : byteSum (kind :: tag :: len :: rest.take (len.toNat + 1)) ≠ 0) :
    takeRecord kind tag len rest s =
      reportFault .hostCheck ([kind, tag, len] ++ padTo 5 (rest.take len.toNat)) (refuse tag .badCheck s) :=
  (if_neg (Nat.not_lt.mpr h)).trans (if_pos sum)

theorem takeRecord_unknown (h : len.toNat < rest.length) (sum : byteSum (kind :: tag :: len :: rest.take (len.toNat + 1)) = 0)
    (unknown : commandKnown kind.toNat = false) : takeRecord kind tag len rest s =
      reportFault .hostUnknown ([kind, tag, len] ++ padTo 5 (rest.take len.toNat)) (refuse tag .unknown s) :=
  (if_neg (Nat.not_lt.mpr h)).trans ((if_neg (not_not.mpr sum)).trans (if_pos (by rw [unknown]; exact rfl)))

theorem takeRecord_unread (h : len.toNat < rest.length) (sum : byteSum (kind :: tag :: len :: rest.take (len.toNat + 1)) = 0)
    (known : commandKnown kind.toNat = true) (read : readCommand kind.toNat tag (rest.take len.toNat) = none) :
    takeRecord kind tag len rest s = refuse tag .badLength s := by
  refine (if_neg (Nat.not_lt.mpr h)).trans ((if_neg (not_not.mpr sum)).trans ((if_neg (by rw [known]; exact Bool.false_ne_true)).trans ?_))
  rw [read]

theorem takeRecord_read (h : len.toNat < rest.length) (sum : byteSum (kind :: tag :: len :: rest.take (len.toNat + 1)) = 0)
    (known : commandKnown kind.toNat = true) (read : readCommand kind.toNat tag (rest.take len.toNat) = some c) :
    takeRecord kind tag len rest s = s.withHpt { s.hpt with inProgress := some ⟨tag, c⟩ } := by
  refine (if_neg (Nat.not_lt.mpr h)).trans ((if_neg (not_not.mpr sum)).trans ((if_neg (by rw [known]; exact Bool.false_ne_true)).trans ?_))
  rw [read]

/-- Chip select has risen after a transaction of this many bytes. -/
def State.risen (n : Nat) (x : Transaction) (s : State) : State :=
  s.withHpt { s.hpt with transaction := none, shifted := shiftOut n x.out }

theorem endTransaction_untaken {x : Transaction} (h : s.hpt.transaction = some x)
    (idle : x.isPending = true ∨ bytes.length < 3) : endTransaction bytes s = s.risen bytes.length x := by
  unfold endTransaction
  rw [h]
  rcases idle with pending | short
  · exact if_pos pending
  · match bytes, short with
    | [], _ | [_], _ | [_, _], _ => exact ite_self ..

theorem endTransaction_taken {x : Transaction} (h : s.hpt.transaction = some x) (other : x.isPending = false) :
    endTransaction (kind :: tag :: len :: rest) s =
      takeRecord kind tag len rest (s.risen (kind :: tag :: len :: rest).length x) := by
  unfold endTransaction
  rw [h]
  exact if_neg (by rw [Option.getD_some, other]; exact Bool.false_ne_true)

theorem takeRecord_shifted : (takeRecord kind tag len rest s).hpt.shifted = s.hpt.shifted := by
  unfold takeRecord
  dsimp only
  (repeat' split) <;> simp [refuse, respond]

theorem endTransaction_shifted {x : Transaction} (h : s.hpt.transaction = some x) :
    (endTransaction bytes s).hpt.shifted = shiftOut bytes.length x.out := by
  by_cases idle : x.isPending = true ∨ bytes.length < 3
  · rw [endTransaction_untaken h idle]
    exact rfl
  · obtain ⟨other, long⟩ := not_or.mp idle
    match bytes, long with
    | kind :: tag :: len :: rest, _ =>
      rw [endTransaction_taken h (Bool.eq_false_of_not_eq_true other), takeRecord_shifted]
      exact rfl
    | [], long | [_], long | [_, _], long => exact absurd (by simp) long

theorem refuse_refusedAtPort (n : Nat) (x : Transaction) (status : Status) :
    RefusedAtPort tag status none [] s (refuse tag status (s.risen n x)) :=
  ⟨rfl, keepsAllBut_of (by simp [refuse, respond, State.risen]), fun _ => rfl, nofun⟩

/-- A report, seen from a state that differs in other parts, and in the host port but for the id that events name. -/
theorem reportFault_reports_named (k : FaultKind) (capture : List Byte) (evf : x.evf = s.evf) (clock : x.clock = s.clock)
    (name : x.eventId = s.eventId) : Reports k [] s (reportFault k capture x) := by
  have same : faultPosts k x = faultPosts k s := by simp only [faultPosts, evf, name]
  exact ⟨by rw [reportFault_sticky, evf], ((Wrote.of_eq evf).trans (same ▸ reportFault_wrote k capture x) clock).posts⟩

/-- The capture is the record's header and the first five bytes of its body, or zeros for them (R185). -/
theorem reportFault_refusedAtPort (n : Nat) (x : Transaction) (status : Status) (k : FaultKind) :
    RefusedAtPort tag status (some k) (([kind, tag, len] ++ body ++ List.replicate 5 0).take 8) s
      (reportFault k ([kind, tag, len] ++ padTo 5 body) (refuse tag status (s.risen n x))) := by
  have unmaskedFirst := reportFault_first (s := refuse tag status (s.risen n x)) (k := k) ([kind, tag, len] ++ padTo 5 body)
  refine ⟨by simp [refuse, respond, State.risen], keepsAllBut_of (by simp [refuse, respond, State.risen]), nofun, ?_⟩
  rintro _ ⟨⟩
  refine ⟨reportFault_reports_named k _ rfl rfl rfl, fun empty unmasked => ?_⟩
  rw [unmaskedFirst unmasked (by simp [refuse, respond, State.risen, empty]), padTo_capture]
  exact rfl

/-! ### The obligation -/

theorem exec_transactionBegins (h : s.hpt.transaction = none) : exec .transactionBegins s =
    .next (s.withHpt { s.hpt with transaction := some (beginTransaction s.hpt) }) :=
  congrArg Host.Outcome.next (if_neg (by rw [h]; exact Bool.false_ne_true))

theorem byteSum_checked (l : List Byte) : byteSum (l ++ [checkByte l]) = 0 := by
  rw [byteSum, List.foldl_append]
  exact add_neg_cancel _

theorem hostBody_length (h : hostBody c = some (kind, tag, body)) (allowed : lengthTaken kind body) : body.length ≤ 83 := by
  cases c <;> simp only [hostBody, reduceCtorEq, Option.some.injEq, Prod.mk.injEq] at h <;>
    obtain ⟨rfl, rfl, rfl⟩ := h
  case configure => have := allowed rfl; omega
  all_goals simp [be16, be32]

/-- A command's record with its check byte and any filler is taken (R184, R186). -/
theorem takeRecord_command (h : hostBody c = some (kind, tag, body)) (allowed : lengthTaken kind body) {check : Byte}
    {filler : List Byte} (sum : byteSum (kind :: tag :: byte body.length :: body ++ [check]) = 0) :
    takeRecord kind tag (byte body.length) (body ++ check :: filler) s =
      s.withHpt { s.hpt with inProgress := some ⟨tag, c⟩ } := by
  have short := hostBody_length h allowed
  have len : (byte body.length).toNat = body.length := byte_toNat (by omega)
  have record : (body ++ check :: filler).take (body.length + 1) = body ++ [check] := by
    rw [List.take_length_add_append]
    exact rfl
  refine takeRecord_read ?_ ?_ (commandKnown_iff.mpr ⟨c, tag, body, h⟩) ?_
  · rw [len, List.length_append, List.length_cons]
    omega
  · rw [len, record]
    exact sum
  · rw [len, List.take_left]
    exact readCommand_of_hostBody h allowed

/-- Settles O55. -/
theorem commandRecords : Obligations.CommandRecords := by
  refine ⟨fun s idle => ⟨fun free => ?_, fun c busy => ?_⟩, fun r short => ?_, fun s x bytes transaction =>
    ⟨endTransaction bytes s, rfl, ?_, fun untaken => ?_, fun c kind tag body filler other spelled allowed record => ?_,
      fun kind tag len rest other is => ⟨fun cut => ?_, fun whole sum => ?_, fun whole sum unknown => ?_,
        fun whole sum known unspelled => ?_⟩⟩⟩
  · rw [exec_transactionBegins idle, beginTransaction, free]
    exact rfl
  · rw [exec_transactionBegins idle, beginTransaction, busy]
    exact rfl
  · have bytes : r.bytes = [r.tag, byte r.status.code, byte r.body.length] ++ r.body ++
        [checkByte ([r.tag, byte r.status.code, byte r.body.length] ++ r.body)] := if_pos short
    exact ⟨_, bytes, bytes ▸ byteSum_checked _⟩
  · exact endTransaction_shifted transaction
  · rw [endTransaction_untaken transaction untaken]
    exact rfl
  · obtain ⟨check, rfl, sum⟩ := record
    have taken := endTransaction_taken (kind := kind) (tag := tag) (len := byte body.length) (rest := body ++ check :: filler)
      transaction other
    simp only [List.cons_append]
    rw [taken.trans (takeRecord_command spelled allowed sum)]
    exact rfl
  · rw [is, endTransaction_taken transaction other, takeRecord_cut cut]
    exact refuse_refusedAtPort ..
  · rw [is, endTransaction_taken transaction other, takeRecord_badCheck whole sum]
    exact reportFault_refusedAtPort ..
  · have no : commandKnown kind.toNat = false := by rwa [← Bool.not_eq_true, commandKnown_iff]
    rw [is, endTransaction_taken transaction other, takeRecord_unknown whole sum no]
    exact reportFault_refusedAtPort ..
  · obtain ⟨known, tag', body', sample⟩ := known
    have none : readCommand kind.toNat tag (rest.take len.toNat) = none := by
      rw [Option.eq_none_iff_forall_ne_some]
      intro c read
      obtain ⟨spelled, allowed⟩ := hostBody_of_readCommand sample read
      obtain ⟨configure, notShort, notFull⟩ := unspelled c spelled
      have length := allowed configure
      rw [List.length_take, Nat.min_eq_left whole.le] at length
      rcases length with short | full
      · exact notShort (BitVec.eq_of_toNat_eq short)
      · exact notFull (BitVec.eq_of_toNat_eq full)
    rw [is, endTransaction_taken transaction other,
      takeRecord_unread whole sum (commandKnown_iff.mpr ⟨known, tag', body', sample⟩) none]
    exact refuse_refusedAtPort ..

end Sys2Proof.Machine
end

section
/-! CONFIGURE and the configuration record's bytes (R187, R190, R194, R208): O56. -/

namespace Sys2Proof.Machine

open Sys2Proof.Claims

variable {s t u x y : State} {c : ConfigRecord} {body l : List Byte} {ws : List Nat} {n : Nat}

/-! ### Fields taken apart (R208) -/

theorem splitFields_byte (b : Byte) : splitFields (1 :: ws) (b :: l) = b.toNat :: splitFields ws l := by
  simp [splitFields, ofBytes_one]

theorem splitFields_half (small : n < 65536) : splitFields (2 :: ws) (be16 n ++ l) = n :: splitFields ws l := by
  have here : (be16 n ++ l).take 2 = be16 n := rfl
  rw [splitFields, here, ofBytes_be16 small]
  exact rfl

theorem splitFields_last (small : n < 65536) : splitFields [2] (be16 n) = [n] := splitFields_half (l := []) (ws := []) small

theorem splitFields_word (small : n < 2 ^ 32) : splitFields (4 :: ws) (be32 n ++ l) = n :: splitFields ws l := by
  have here : (be32 n ++ l).take 4 = be32 n := rfl
  rw [splitFields, here, ofBytes_be32 small]
  exact rfl

theorem splitFields_bytes (a : List Byte) :
    splitFields (List.replicate a.length 1 ++ ws) (a ++ l) = a.map (·.toNat) ++ splitFields ws l := by
  induction a with
  | nil => rfl
  | cons b a ih => exact (splitFields_byte b).trans (congrArg (b.toNat :: ·) ih)

/-! ### The record as fields (R190) -/

/-- The fields of a record, in the order of R190. -/
def ConfigRecord.fields (c : ConfigRecord) : List Nat :=
  [c.nodeId, c.role.code, c.groupA, c.groupB, c.statusPeriod, c.seed, c.rating, c.curve.getD 0 0, c.curve.getD 1 0,
    c.curve.getD 2 0, c.curve.getD 3 0, c.curve.getD 4 0, c.capacity, c.openingStock, c.openingPrice, c.levelTol,
    c.deliveryTol, c.pulsesPerLitre, c.mLow, c.mCrit, c.refuelAt, c.startThreshold, c.startDelay, c.stopThreshold,
    c.stopDelay, c.minOnline, c.warmUp, c.mode.code, c.margin, c.deadTime, c.lossConfirm, c.returnConfirm, c.filterTime,
    c.intervalLength]
  ++ (c.profileA.map (·.code.toNat) ++ (c.profileB.map (·.code.toNat) ++ [c.setBCount, c.setBDelay]))

theorem curve_flatten {curve : List Nat} (five : curve.length = 5) : (curve.map be16).flatten =
    be16 (curve.getD 0 0) ++ (be16 (curve.getD 1 0) ++ (be16 (curve.getD 2 0) ++
      (be16 (curve.getD 3 0) ++ be16 (curve.getD 4 0)))) := by
  match curve, five with
  | [_, _, _, _, _], _ => rfl

theorem bytes_length (curve : c.curve.length = 5) (a : c.profileA.length = 8) (b : c.profileB.length = 8) :
    c.bytes.length = 83 := by
  delta ConfigRecord.bytes
  simp only [List.length_append, List.length_cons, List.length_nil, List.length_map, be16_length,
    be32_length, flatten_length be16_length, curve, a, b]

/-- The fields of a record fit their widths (R208). -/
structure Fits (c : ConfigRecord) : Prop where
  bytes : c.nodeId < 256 ∧ c.groupA < 256 ∧ c.groupB < 256 ∧ c.statusPeriod < 256 ∧ c.minOnline < 256 ∧
    c.returnConfirm < 256 ∧ c.filterTime < 256 ∧ c.intervalLength < 256 ∧ c.setBCount < 256
  halves : c.seed < 65536 ∧ c.rating < 65536 ∧ c.openingPrice < 65536 ∧ c.deliveryTol < 65536 ∧
    c.pulsesPerLitre < 65536 ∧ c.mLow < 65536 ∧ c.mCrit < 65536 ∧ c.refuelAt < 65536 ∧ c.startThreshold < 65536 ∧
    c.startDelay < 65536 ∧ c.stopThreshold < 65536 ∧ c.stopDelay < 65536 ∧ c.warmUp < 65536 ∧ c.margin < 65536 ∧
    c.deadTime < 65536 ∧ c.lossConfirm < 65536 ∧ c.setBDelay < 65536
  words : c.capacity < 2 ^ 32 ∧ c.openingStock < 2 ^ 32 ∧ c.levelTol < 2 ^ 32
  curve : c.curve.length = 5 ∧ ∀ i, c.curve.getD i 0 < 65536
  profiles : c.profileA.length = 8 ∧ c.profileB.length = 8

theorem configFields_bytes (fits : Fits c) : configFields c.bytes = c.fields := by
  obtain ⟨b1, b2, b3, b4, b5, b6, b7, b8, b9⟩ := fits.bytes
  obtain ⟨h1, h2, h3, h4, h5, h6, h7, h8, h9, h10, h11, h12, h13, h14, h15, h16, h17⟩ := fits.halves
  obtain ⟨w1, w2, w3⟩ := fits.words
  obtain ⟨five, curve⟩ := fits.curve
  obtain ⟨a, b⟩ := fits.profiles
  have role : c.role.code < 256 := by cases c.role <;> decide
  have mode : c.mode.code < 256 := by cases c.mode <;> decide
  have widths : configWidths = 1 :: 1 :: 1 :: 1 :: 1 :: 2 :: 2 :: 2 :: 2 :: 2 :: 2 :: 2 :: 4 :: 4 :: 2 :: 4 :: 2 ::
      2 :: 2 :: 2 :: 2 :: 2 :: 2 :: 2 :: 2 :: 1 :: 2 :: 1 :: 2 :: 2 :: 2 :: 1 :: 1 :: 1 ::
      (List.replicate (c.profileA.map ProfileEntry.code).length 1 ++
        (List.replicate (c.profileB.map ProfileEntry.code).length 1 ++ [1, 2])) := by
    rw [List.length_map, List.length_map, a, b]
    exact rfl
  have full : configFields c.bytes = splitFields configWidths c.bytes := if_neg (by rw [bytes_length five a b]; decide)
  rw [full, widths]
  delta ConfigRecord.bytes
  rw [curve_flatten five]
  simp only [List.append_assoc, List.cons_append, List.nil_append, splitFields_byte, splitFields_bytes,
    splitFields_half, splitFields_word, splitFields_last, h1, h2, h3, h4, h5, h6, h7, h8, h9, h10, h11, h12, h13, h14, h15, h16, h17, w1, w2, w3,
    curve, byte_toNat, b1, b2, b3, b4, b5, b6, b7, b8, b9, role, mode, List.map_map]
  exact rfl

/-! ### The ranges (R187, R190) -/

/-- A value lies in a range. -/
@[reducible] def InRange (v : Nat) (range : Nat × Nat) : Prop := range.1 ≤ v ∧ v ≤ range.2

theorem firstOutOfRange_none {vs : List Nat} {rs : List (Nat × Nat)} (h : List.Forall₂ InRange vs rs) (k : Nat) :
    firstOutOfRange k vs rs = none := by
  induction h generalizing k with
  | nil => rfl
  | cons here _ ih => exact (if_pos here).trans (ih _)

theorem firstOutOfRange_some {vs : List Nat} {rs : List (Nat × Nat)} {i v lo hi : Nat} (k : Nat) (value : vs[i]? = some v)
    (range : rs[i]? = some (lo, hi)) (out : ¬(lo ≤ v ∧ v ≤ hi))
    (before : ∀ j w l h, j < i → vs[j]? = some w → rs[j]? = some (l, h) → l ≤ w ∧ w ≤ h) :
    firstOutOfRange k vs rs = some (k + i) := by
  induction i generalizing k vs rs with
  | zero => match vs, rs with
    | w :: vs, (l, h) :: rs =>
      cases value
      cases range
      exact if_neg out
  | succ i ih => match vs, rs with
    | w :: vs, (l, h) :: rs =>
      have rest : firstOutOfRange (k + 1) vs rs = some (k + 1 + i) :=
        ih (k + 1) value range fun j w l h earlier => before (j + 1) w l h (Nat.succ_lt_succ earlier)
      refine (if_pos (before 0 w l h (Nat.succ_pos i) rfl rfl)).trans ?_
      rw [rest, Nat.add_right_comm]
      exact rfl

theorem inRange_of_forall₂ {vs : List Nat} {rs : List (Nat × Nat)} (h : List.Forall₂ InRange vs rs) {j w l m : Nat}
    (value : vs[j]? = some w) (range : rs[j]? = some (l, m)) : l ≤ w ∧ w ≤ m := by
  induction h generalizing j with
  | nil => cases value
  | cons here _ ih => cases j with
    | zero => cases value; cases range; exact here
    | succ j => exact ih value range

theorem entry_small {e : ProfileEntry} (level : e.level ≤ 3) : InRange e.code.toNat (0, 31) := by
  refine ⟨Nat.zero_le _, ?_⟩
  rw [ProfileEntry.code, byte_toNat_mod]
  cases e.planned <;> cases e.forced <;> cases e.topup <;> simp [maskNat] <;> omega

theorem profile_inRange {p : List ProfileEntry} (size : p.length = n) (small : ∀ e ∈ p, e.level ≤ 3) :
    List.Forall₂ InRange (p.map (·.code.toNat)) (List.replicate n (0, 31)) := by
  induction p generalizing n with
  | nil => cases size; exact .nil
  | cons e p ih =>
    cases size
    exact .cons (entry_small (small e List.mem_cons_self)) (ih rfl fun e member => small e (List.mem_cons_of_mem _ member))

theorem curve_small {curve : List Nat} {m : Nat} (small : ∀ f ∈ curve, f ≤ m) (i : Nat) : curve.getD i 0 ≤ m := by
  by_cases inside : i < curve.length
  · rw [List.getD_eq_getElem _ _ inside]
    exact small _ (List.getElem_mem inside)
  · rw [List.getD_eq_default _ _ (Nat.not_lt.mp inside)]
    exact Nat.zero_le m

theorem groupB_inRange (ok : RecordOk c) : InRange c.groupB (if c.role.code = 0 then (0, 0) else (1, 15)) := by
  obtain ⟨genset, board⟩ := ok.groupB
  cases role : c.role with
  | genset => exact ⟨Nat.zero_le _, (genset role).le⟩
  | board => exact board role

theorem fields_inRange (ok : RecordOk c) : List.Forall₂ InRange c.fields (configRanges c.role.code) := by
  have curve := curve_small ok.curve.2
  have role : c.role.code ≤ 1 := by cases c.role <;> decide
  have mode : c.mode.code ≤ 1 := by cases c.mode <;> decide
  obtain ⟨sizeA, profileA⟩ := ok.profileA
  obtain ⟨sizeB, profileB⟩ := ok.profileB
  have upTo : ∀ {v hi}, v ≤ hi → InRange v (0, hi) := fun h => ⟨Nat.zero_le _, h⟩
  have setB : List.Forall₂ InRange [c.setBCount, c.setBDelay] [(1, 64), (0, 60000)] :=
    .cons ok.setBCount (.cons (upTo ok.setBDelay) .nil)
  have profiles := List.rel_append (profile_inRange sizeA profileA) (List.rel_append (profile_inRange sizeB profileB) setB)
  exact .cons ok.nodeId (.cons (upTo role) (.cons ok.groupA (.cons (groupB_inRange ok) (.cons ok.statusPeriod
    (.cons (upTo ok.seed) (.cons ok.rating (.cons (upTo (curve 0)) (.cons (upTo (curve 1)) (.cons (upTo (curve 2))
    (.cons (upTo (curve 3)) (.cons (upTo (curve 4)) (.cons ok.capacity (.cons (upTo ok.openingStock)
    (.cons (upTo ok.openingPrice) (.cons (upTo ok.levelTol) (.cons (upTo ok.deliveryTol) (.cons ok.pulsesPerLitre
    (.cons ok.mLow (.cons (upTo ok.mCrit) (.cons (upTo ok.refuelAt) (.cons (upTo ok.startThreshold) (.cons ok.startDelay
    (.cons (upTo ok.stopThreshold) (.cons ok.stopDelay (.cons (upTo ok.minOnline) (.cons (upTo ok.warmUp)
    (.cons (upTo mode) (.cons (upTo ok.margin) (.cons ok.deadTime (.cons ok.lossConfirm (.cons ok.returnConfirm
    (.cons ok.filterTime (.cons ok.intervalLength profiles)))))))))))))))))))))))))))))))))

/-- A record in range, and one whose dead time alone is not, fit their widths. -/
theorem fits_of_recordOk (ok : RecordOk c) {dead : Nat} (small : dead ≤ 3000) : Fits { c with deadTime := dead } := by
  have groupB : c.groupB ≤ 15 := by
    obtain ⟨genset, board⟩ := ok.groupB
    cases role : c.role with
    | genset => exact (genset role).le.trans (by decide)
    | board => exact (board role).2
  obtain ⟨nodeId, groupA, -, statusPeriod, seed, rating, ⟨five, curve⟩, capacity, openingStock, openingPrice, levelTol, deliveryTol,
    pulses, mLow, mCrit, refuelAt, startThreshold, startDelay, stopThreshold, stopDelay, minOnline, warmUp, margin, -,
    lossConfirm, returnConfirm, filterTime, intervalLength, ⟨sizeA, -⟩, ⟨sizeB, -⟩, setBCount, setBDelay⟩ := ok
  refine ⟨?_, ?_, ?_, ⟨five, fun i => Nat.lt_succ_of_le (curve_small curve i)⟩, sizeA, sizeB⟩
  · dsimp only
    omega
  · dsimp only
    omega
  · dsimp only
    omega

theorem fields_deadTime (dead : Nat) : ({ c with deadTime := dead } : ConfigRecord).fields = c.fields.set 29 dead := rfl

/-! ### The record read back (R190, R208) -/

theorem readEntry_code {e : ProfileEntry} (level : e.level ≤ 3) : readEntry (byte e.code.toNat) = e := by
  have all : ∀ level : Nat, level < 4 → ∀ planned forced topup : Bool,
      readEntry (byte (ProfileEntry.code ⟨level, planned, forced, topup⟩).toNat) = ⟨level, planned, forced, topup⟩ := by decide
  exact all e.level (Nat.lt_succ_of_le level) e.planned e.forced e.topup

theorem readProfile {p : List ProfileEntry} (size : p.length = n) (small : ∀ e ∈ p, e.level ≤ 3) (rest : List Nat) :
    ((p.map (·.code.toNat) ++ rest).take n).map (fun n => readEntry (byte n)) = p := by
  rw [List.take_left' ((List.length_map _).trans size), List.map_map]
  exact (List.map_congr_left fun e member => readEntry_code (small e member)).trans (List.map_id p)

theorem curve_eq {curve : List Nat} (five : curve.length = 5) :
    [curve.getD 0 0, curve.getD 1 0, curve.getD 2 0, curve.getD 3 0, curve.getD 4 0] = curve := by
  match curve, five with
  | [_, _, _, _, _], _ => rfl

theorem nth_drop {vs rest : List Nat} {m k : Nat} (h : vs.drop m = rest) : nth 0 vs (m + k) = nth 0 rest k := by
  rw [nth, nth, List.getD_eq_getElem?_getD, List.getD_eq_getElem?_getD, ← h, List.getElem?_drop]

theorem readConfig_bytes (ok : RecordOk c) : readConfig c.bytes = c := by
  have fields : configFields c.bytes = c.fields := configFields_bytes (fits_of_recordOk ok ok.deadTime.2)
  have role : (if c.role.code = 0 then Role.genset else .board) = c.role := by cases c.role <;> rfl
  have mode : (if c.mode.code = 0 then RunMode.auto else .manual) = c.mode := by cases c.mode <;> rfl
  have profileA := readProfile ok.profileA.1 ok.profileA.2 (c.profileB.map (·.code.toNat) ++ [c.setBCount, c.setBDelay])
  have profileB := readProfile ok.profileB.1 ok.profileB.2 [c.setBCount, c.setBDelay]
  have second : c.fields.drop 42 = c.profileB.map (·.code.toNat) ++ [c.setBCount, c.setBDelay] :=
    List.drop_left' ((List.length_map _).trans ok.profileA.1)
  have last : c.fields.drop 50 = [c.setBCount, c.setBDelay] := by
    have rest : (c.fields.drop 42).drop 8 = [c.setBCount, c.setBDelay] := by
      rw [second]
      exact List.drop_left' ((List.length_map _).trans ok.profileB.1)
    rwa [List.drop_drop] at rest
  have count : nth 0 c.fields 50 = c.setBCount := nth_drop (k := 0) last
  have delay : nth 0 c.fields 51 = c.setBDelay := nth_drop (k := 1) last
  delta readConfig
  rw [fields]
  dsimp only
  rw [second, count, delay]
  calc _ = { c with
      role := if c.role.code = 0 then Role.genset else .board
      curve := [c.curve.getD 0 0, c.curve.getD 1 0, c.curve.getD 2 0, c.curve.getD 3 0, c.curve.getD 4 0]
      mode := if c.mode.code = 0 then RunMode.auto else .manual
      profileA := ((c.profileA.map (·.code.toNat) ++ (c.profileB.map (·.code.toNat) ++ [c.setBCount, c.setBDelay])).take 8).map
        fun n => readEntry (byte n)
      profileB := ((c.profileB.map (·.code.toNat) ++ [c.setBCount, c.setBDelay]).take 8).map fun n => readEntry (byte n) } := ?_
    _ = c := by rw [role, mode, profileA, profileB, curve_eq ok.curve.1]
  · exact rfl

/-! ### CONFIGURE (R187, R190) -/

section

variable {tag : Byte} (config : s.hpt.nodeState = .config)

include config

theorem gated_config (tag : Byte) (act : State → State) : gated none [.config] tag act s = act s := by
  have taken : s.takes none [.config] = true := by
    unfold State.takes
    rw [config]
    exact rfl
  exact if_pos taken

theorem exec_configure_length (short : body.length ≠ 4) (full : body.length ≠ 83) :
    exec (.configure tag body) s = .next (s.answered tag .badLength []) :=
  congrArg Host.Outcome.next ((gated_config config ..).trans (if_pos ⟨short, full⟩))

theorem exec_configure_badField (length : body.length = 4 ∨ body.length = 83) {i : Nat} (bad : configBadField body = some i) :
    exec (.configure tag body) s = .next (s.answered tag .badField [byte i]) := by
  refine congrArg Host.Outcome.next ((gated_config config ..).trans ((if_neg fun h => length.elim h.1 h.2).trans ?_))
  rw [bad]
  exact rfl

theorem exec_configure_taken (length : body.length = 4 ∨ body.length = 83) (good : configBadField body = none) :
    exec (.configure tag body) s = .next ((s.withHpt { s.hpt with
      record := some (readConfig body), edited := true }).answered tag .ok []) := by
  refine congrArg Host.Outcome.next ((gated_config config ..).trans ((if_neg fun h => length.elim h.1 h.2).trans ?_))
  rw [good]
  exact rfl

end

/-- The lowest field out of its range is the one that CONFIGURE names (R187). -/
theorem configBadField_of {i v lo hi : Nat} (value : (configFields body)[i]? = some v)
    (range : (fieldRanges ((configFields body).getD 1 0))[i]? = some (lo, hi)) (out : ¬(lo ≤ v ∧ v ≤ hi))
    (before : ∀ j w l h, j < i → (configFields body)[j]? = some w →
      (fieldRanges ((configFields body).getD 1 0))[j]? = some (l, h) → l ≤ w ∧ w ≤ h) : configBadField body = some i :=
  (firstOutOfRange_some 0 value range out before).trans (congrArg some (Nat.zero_add i))

theorem configBadField_bytes (ok : RecordOk c) : configBadField c.bytes = none := by
  have fields : configFields c.bytes = c.fields := configFields_bytes (fits_of_recordOk ok ok.deadTime.2)
  delta configBadField
  rw [fields]
  exact firstOutOfRange_none (fields_inRange ok) 0

/-- A dead time under 300 ms, all else in range, is named as field 29. -/
theorem configBadField_deadTime (ok : RecordOk c) {dead : Nat} (under : dead < 300) :
    configBadField { c with deadTime := dead }.bytes = some 29 := by
  have fields : configFields { c with deadTime := dead }.bytes = c.fields.set 29 dead :=
    (configFields_bytes (fits_of_recordOk ok (by omega))).trans (fields_deadTime dead)
  have others := fields_inRange ok
  refine configBadField_of (v := dead) (lo := 300) (hi := 3000) ?_ ?_ (by omega) fun j w l h before value range => ?_
  · rw [fields]
    exact rfl
  · rw [fields]
    exact rfl
  · rw [fields] at value range
    rw [List.getElem?_set_ne (by omega)] at value
    exact inRange_of_forall₂ others value range

/-- The short form's fields (R190). -/
theorem configFields_short (node role a b : Byte) :
    configFields [node, role, a, b] = node.toNat :: role.toNat :: a.toNat :: b.toNat :: configDefaults := rfl

theorem configBadField_short {node a b : Byte} {role : Role} (node1 : InRange node.toNat (1, 62)) (a1 : InRange a.toNat (1, 15))
    (groupB : InRange b.toNat (if role.code = 0 then (0, 0) else (1, 15))) :
    configBadField [node, byte role.code, a, b] = none := by
  have code : (byte role.code).toNat = role.code := by cases role <;> rfl
  have defaults : List.Forall₂ InRange configDefaults ((configRanges role.code).drop 4) := by
    cases role <;> decide
  have small : InRange role.code (0, 1) := by cases role <;> exact ⟨by decide, by decide⟩
  delta configBadField
  rw [configFields_short, code]
  exact firstOutOfRange_none (.cons node1 (.cons small (.cons a1 (.cons groupB defaults)))) 0

theorem readConfig_short (node a b : Byte) (role : Role) :
    readConfig [node, byte role.code, a, b] = shortRecord node.toNat role a.toNat b.toNat := by
  cases role
  · delta readConfig
    rw [configFields_short]
    exact rfl
  · delta readConfig
    rw [configFields_short]
    exact rfl

/-! ### The CONFIG section of READ_NODE (R194) -/

theorem exec_readNode_config (tag : Byte) {content : Option ConfigRecord} (h : s.hpt.record = content) :
    exec (.readNode tag 1 0) s =
      .next (content.elim (s.answered tag .state []) fun c => s.answered tag .ok c.bytes) := by
  have part : sectionBody (1 : Byte).toNat (0 : Byte).toNat s = content.map ConfigRecord.bytes :=
    congrArg (Option.map ConfigRecord.bytes) h
  have taken : s.takes (sectionRole (1 : Byte).toNat) allStates = true := takes_all
  refine congrArg Host.Outcome.next ((gated_all ..).trans ((if_neg (by decide)).trans ((if_neg (by decide)).trans
    ((if_neg (by rw [taken]; exact Bool.false_ne_true)).trans ?_))))
  rw [part]
  cases content <;> exact rfl

/-- Settles O56. -/
theorem configure : Obligations.Configure := by
  refine ⟨fun s tag c config ok => ⟨?_, ?_, fun dead under => ?_⟩, fun s tag node a b role config node1 node62 a1 a15 genset board => ?_,
    fun s tag body i v lo hi config length value range out before => ?_, fun s tag body config short full => ?_,
    fun s tag => ⟨fun c held => ?_, fun none => ?_⟩⟩
  · exact bytes_length ok.curve.1 ok.profileA.1 ok.profileB.1
  · rw [exec_configure_taken config (.inr (bytes_length ok.curve.1 ok.profileA.1 ok.profileB.1)) (configBadField_bytes ok),
      readConfig_bytes ok]
    exact rfl
  · have full : ({ c with deadTime := dead } : ConfigRecord).bytes.length = 83 :=
      bytes_length (c := { c with deadTime := dead }) ok.curve.1 ok.profileA.1 ok.profileB.1
    exact exec_configure_badField config (.inr full) (configBadField_deadTime ok under)
  · have groupB : InRange b.toNat (if role.code = 0 then (0, 0) else (1, 15)) := by
      cases role with
      | genset => exact genset rfl ▸ ⟨Nat.le_refl 0, Nat.le_refl 0⟩
      | board => exact board rfl
    have taken := exec_configure_taken (tag := tag) config (.inl rfl) (configBadField_short ⟨node1, node62⟩ ⟨a1, a15⟩ groupB)
    rw [readConfig_short] at taken
    cases role <;> exact taken
  · exact exec_configure_badField config length (configBadField_of value range out before)
  · exact exec_configure_length config short full
  · exact exec_readNode_config tag held
  · exact exec_readNode_config tag none

end Sys2Proof.Machine
end

section
/-! RESET_SOFT (R19, R37, R107, R135, R195), for O57. -/

namespace Sys2Proof.Machine

open Sys2Proof.Claims

variable {s t u x y : State}

/-- The state that a soft reset leaves, its event and ATTN still to come. -/
def State.softened (s : State) : State :=
  ((((s.withHpt { s.hpt with nodeState := .config, ownId := none }).withSlc { s.slc.emptied with penalty := .clear }).withPvt
    s.pvt.softReset).withPlu { s.plu with waits := [], pledges := [], headroom := 0 }).withChs s.chs.softReset

theorem softReset_eq (s : State) :
    softReset s = testAttn (postEvent .softReset (.node s.softened.eventId) s.hpt.nodeState.code 0 s.softened) := rfl

theorem softReset_blocks (s : State) : (softReset s).hpt = s.softened.hpt ∧ (softReset s).slc = s.softened.slc ∧
    (softReset s).pvt = s.softened.pvt ∧ (softReset s).plu = s.softened.plu ∧ (softReset s).chs = s.softened.chs := by
  simp [softReset_eq]

theorem softReset_posts (s : State) :
    Posts [(.softReset, .node s.softened.eventId, s.hpt.nodeState.code, 0)] s (softReset s) := by
  rw [softReset_eq]
  exact ((postEvent_wrote_on _ _ _ _ s.softened).of_end (by simp) (by simp)).posts

/-- With the immediate setting a record that waits is enough (R200, R201). -/
theorem wantsAttn_immediate {e : Evf} (mark : e.mark = 0) (waiting : e.ring ≠ []) (now : Nat) : e.wantsAttn now = true := by
  cases ring : e.ring with
  | nil => exact absurd ring waiting
  | cons r l => simp [Evf.wantsAttn, Evf.count, ring, mark]

theorem testAttn_postEvent_attn (k : EventKind) (a : Subject) (v q : Nat) (mark : s.evf.mark = 0) (room : s.evf.ring.length < 64) :
    (testAttn (postEvent k a v q s)).evf.attn = true := by
  have posted : postEvent k a v q s = testAttn (s.withEvf { s.evf with
      ring := s.evf.ring ++ [⟨k, a, s.siteSec, s.siteMs, v, q, s.evf.lost, s.now⟩], lost := 0 }) := if_pos room
  have wants := wantsAttn_immediate (e := (postEvent k a v q s).evf) (by rw [posted]; exact mark)
    (by rw [posted]; exact List.append_ne_nil_of_right_ne_nil _ (List.cons_ne_nil _ _)) (postEvent k a v q s).now
  exact (congrArg (Bool.or _) wants).trans (Bool.or_true _)

theorem softReset_attn (mark : s.evf.mark = 0) (room : s.evf.ring.length < 64) : (softReset s).evf.attn = true :=
  softReset_eq s ▸ testAttn_postEvent_attn (s := s.softened) _ _ _ _ mark room

end Sys2Proof.Machine
end

section
/-! COMMIT before the peer view: in CONFIG the blocks take the record without an offer and without a pledge (R62, R66,
R107, R134, R192), for O57. -/

namespace Sys2Proof.Machine

open Sys2Proof.Claims

variable {s t u x y : State} {c : ConfigRecord}

/-! ### Entries to set states that nothing follows -/

theorem refreshHeadroom_calm (idle : PluIdle s.plu) : refreshHeadroom s = s := by
  have nothing : offeredHeadroom s = 0 := if_neg fun ⟨_, _, _, _, formed⟩ => by simp [idle.formed] at formed
  calc refreshHeadroom s = s.withPlu { s.plu with headroom := s.plu.headroom } := by
        rw [refreshHeadroom, nothing, idle.headroom]
    _ = s := rfl

theorem servePledges_calm (idle : PluIdle s.plu) : servePledges s = s := by
  rw [servePledges, refreshHeadroom_calm idle, arbiterRuns_eq_self _ idle.headroom]

theorem tripNotice_calm (idle : PluIdle s.plu) : tripNotice s = s := by
  rw [tripNotice, idle.pledges]
  exact rfl

/-- A node outside RUN whose pledge tables are empty. -/
structure AtRest (s : State) : Prop where
  quiet : s.hpt.nodeState ≠ .run
  idle : PluIdle s.plu
  ci : s.plu.ci = 0

theorem AtRest.of_keeps (rest : AtRest s) (keeps : KeepsAllBut [.setc, .fpc, .evf] s t) : AtRest t where
  quiet := by rw [keeps.hpt (by decide)]; exact rest.quiet
  idle := by rw [keeps.plu (by decide)]; exact rest.idle
  ci := by rw [keeps.plu (by decide)]; exact rest.ci

/-- At rest an entry changes the set's own state, its lines and the ring (R61). -/
theorem enterSet_calm (rest : AtRest s) (st : SetState) (cause : Option SetCause) (trip : Bool) :
    KeepsAllBut [.setc, .fpc, .evf] s (enterSet st cause trip s) := by
  unfold enterSet
  dsimp only
  generalize posted : postEvent .setState _ _ _ _ = x
  have keeps : KeepsAllBut [.setc, .fpc, .evf] s x := posted ▸ keepsAllBut_of (by simp)
  obtain ⟨quiet, idle, ci⟩ := rest.of_keeps keeps
  have zero : x.withPlu { x.plu with ci := 0 } = x := by
    calc x.withPlu { x.plu with ci := 0 } = x.withPlu { x.plu with ci := x.plu.ci } := by rw [ci]
      _ = x := rfl
  have silent : extraCause x = x := if_pos quiet
  simp only [zero, ite_self, tripNotice_calm idle, servePledges_calm idle, silent]
  exact keeps

theorem enterSyncing_calm (rest : AtRest s) (trip : Bool) : KeepsAllBut [.setc, .fpc, .evf] s (enterSyncing trip s) := by
  have first := enterSet_calm rest .syncing none trip
  unfold enterSyncing
  dsimp only
  split
  · exact first.trans (enterSet_calm (rest.of_keeps first) _ _ _)
  · exact first

theorem enterWarming_calm (rest : AtRest s) : KeepsAllBut [.setc, .fpc, .evf] s (enterWarming s) := by
  have cleared : KeepsAllBut [.setc, .fpc, .evf] s (s.withSetc { s.setc with attempts := 0 }) := keepsAllBut_of (by simp)
  have first := cleared.trans (enterSet_calm (rest.of_keeps cleared) .warming none false)
  unfold enterWarming
  dsimp only
  split
  · exact first.trans (enterSyncing_calm (rest.of_keeps first) false)
  · exact first

/-! ### The Set Controller at COMMIT (R62) -/

/-- The set's own part of a COMMIT, before its state is derived. -/
def State.setTaken (c : ConfigRecord) (s : State) : State := s.withSetc { s.setc with
  mode := c.mode, attempts := 0, startWatch := none, stopWatch := none, intentKey := none, intentSerial := 0 }

theorem setFrom_cases (f : Fpc) : setFrom f = .faulted ∨ setFrom f = .online ∨ setFrom f = .warming ∨ setFrom f = .stopped := by
  unfold setFrom
  repeat' split
  all_goals simp

section

variable (role : c.role = .genset)

include role

theorem setCommit_faulted (h : setFrom s.fpc = .faulted) : setCommit c s = enterFaulted .setFault (s.setTaken c) := by
  have derived : derivedSet s.fpc = .faulted := h
  simp only [setCommit, State.setTaken, role, State.withSetc_fpc, derived]

theorem setCommit_online (h : setFrom s.fpc = .online) : setCommit c s = enterOnline (s.setTaken c) := by
  have derived : derivedSet s.fpc = .online := h
  simp only [setCommit, State.setTaken, role, State.withSetc_fpc, derived]

theorem setCommit_warming (h : setFrom s.fpc = .warming) : setCommit c s = enterWarming (s.setTaken c) := by
  have derived : derivedSet s.fpc = .warming := h
  simp only [setCommit, State.setTaken, role, State.withSetc_fpc, derived]

theorem setCommit_stopped (h : setFrom s.fpc = .stopped) : setCommit c s = enterStopped (s.setTaken c) := by
  have derived : derivedSet s.fpc = .stopped := h
  simp only [setCommit, State.setTaken, role, State.withSetc_fpc, derived]

theorem setCommit_genset_keeps (rest : AtRest s) : KeepsAllBut [.setc, .fpc, .evf] s (setCommit c s) := by
  have taken : KeepsAllBut [.setc, .fpc, .evf] s (s.setTaken c) := keepsAllBut_of (by simp [State.setTaken])
  have rested := rest.of_keeps taken
  rcases setFrom_cases s.fpc with h | h | h | h
  · rw [setCommit_faulted role h]
    exact taken.trans (enterSet_calm rested _ _ _)
  · rw [setCommit_online role h]
    exact taken.trans (enterSet_calm rested _ _ _)
  · rw [setCommit_warming role h]
    exact taken.trans (enterWarming_calm rested)
  · rw [setCommit_stopped role h]
    exact taken.trans (enterSet_calm rested _ _ _)

/-- The mode is the record's, and the state the one of R62, but that a warm-up time of 0 passes at once. -/
theorem setCommit_genset_setc : (setCommit c s).setc.mode = c.mode ∧
    (setFrom s.fpc ≠ .warming ∨ s.cfg.warmUp ≠ 0 → (setCommit c s).setc.state = setFrom s.fpc) := by
  rcases setFrom_cases s.fpc with h | h | h | h
  · rw [setCommit_faulted role h, h]
    simp [enterFaulted, Setc.entered, State.setTaken]
  · rw [setCommit_online role h, h]
    simp [enterOnline, Setc.entered, State.setTaken]
  · rw [setCommit_warming role h, h]
    refine ⟨?_, fun warm => ?_⟩
    · unfold enterWarming enterSyncing
      dsimp only
      repeat' split
      all_goals simp [enterOnline, Setc.entered, State.setTaken]
    · have lasting : s.cfg.warmUp ≠ 0 := warm.resolve_left fun h => h rfl
      have entered : enterWarming (s.setTaken c) =
          enterSet .warming none false ((s.setTaken c).withSetc { (s.setTaken c).setc with attempts := 0 }) :=
        if_neg (by simpa [State.cfg, State.setTaken] using lasting)
      rw [entered, enterSet_setc]
      exact rfl
  · rw [setCommit_stopped role h, h]
    simp [enterStopped, Setc.entered, State.setTaken]

end

theorem setCommit_board (role : c.role = .board) : setCommit c s = (askLines (false, false) s).withSetc .reset := by
  simp only [setCommit, role]

theorem setCommit_keeps (rest : AtRest s) : KeepsAllBut [.setc, .fpc, .evf] s (setCommit c s) := by
  cases role : c.role with
  | genset => exact setCommit_genset_keeps role rest
  | board =>
    rw [setCommit_board role]
    exact keepsAllBut_of (by simp [askLines])

end Sys2Proof.Machine
end

section
/-! The Fuel Accounting Unit at COMMIT (R66, R72 to R74, R81, R84), for O57. -/

namespace Sys2Proof.Machine

open Sys2Proof.Claims

variable {s t u x y : State} {c : ConfigRecord} {k : Nat}

/-! ### Events that are still in the ring -/

/-- An event posted stands in the ring, where this has room to the end. -/
theorem mem_ring_of_post {kind : EventKind} {a : Subject} {v q : Nat} (posted : x = postEvent kind a v q s) (later : Tells x t)
    (room : t.evf.ring.length < 64) : ∃ r ∈ t.evf.ring, r.kind = kind ∧ r.subject = a ∧ r.value = v ∧ r.qualifier = q := by
  subst posted
  have before : s.evf.ring.length ≤ t.evf.ring.length := ((postEvent_tells (.refl s)).ring.trans later.ring).length_le
  obtain ⟨ring, -⟩ := postEvent_room kind a v q (s := s) (by omega)
  exact ⟨_, later.ring.subset (ring ▸ List.mem_append_right _ (List.mem_singleton_self _)), rfl, rfl, rfl, rfl⟩

/-! ### The held pulses and the first working copy (R81, R84) -/

theorem takeHeldPulses_none (h : s.fpc.heldPulses = 0) : takeHeldPulses k s = s := if_pos h

theorem takeHeldPulses_some (h : s.fpc.heldPulses ≠ 0) : takeHeldPulses k s =
    postEvent .strayFlow (.node s.eventId) s.fau.stray 0 ((s.withFau (s.fau.strayPulses s.fpc.heldPulses k)).withFpc
      { s.fpc with heldPulses := 0 }) := if_neg h

/-- The lots of an opening stock (R84). -/
def openingLots (c : ConfigRecord) (s : State) : List Lot :=
  if c.openingStock = 0 then []
  else [⟨0, 0, .opening, c.openingStock, c.openingStock, c.openingPrice, s.siteSec, false⟩]

theorem openingLots_tank : ((openingLots c s).map (·.remaining)).sum = c.openingStock := by
  unfold openingLots
  split
  · exact (‹c.openingStock = 0›).symm
  · exact Nat.add_zero _

/-- The fuel unit with its first working copy, the held pulses and the figures still to come (R84). -/
def State.fuelOpened (c : ConfigRecord) (s : State) : State := s.withFau { s.fau with
  copy := some c.fuel, lastPrice := c.openingPrice, lots := openingLots c s
  dryReported := if c.openingStock = 0 then s.fau.dryReported else false
  flow := nth 0 c.curve 0 * 250, nextCheck := some (s.now + 60 * second) }

theorem firstFuelCommit_eq : firstFuelCommit c s = recomputeFuel (takeHeldPulses c.pulsesPerLitre (s.fuelOpened c)) := rfl

/-- The held pulses taken as stray volume (R81). -/
theorem takeHeldPulses_fau : (takeHeldPulses k s).fau = { s.fau with
    stray := if s.fpc.heldPulses = 0 then s.fau.stray
      else min (s.fau.stray + (s.fau.strayCarry + s.fpc.heldPulses * 1000) / k) (2 ^ 32 - 1)
    strayCarry := if s.fpc.heldPulses = 0 then s.fau.strayCarry
      else (s.fau.strayCarry + s.fpc.heldPulses * 1000) % k } ∧
    (takeHeldPulses k s).fpc = { s.fpc with heldPulses := 0 } := by
  by_cases none : s.fpc.heldPulses = 0
  · rw [takeHeldPulses_none none, if_pos none, if_pos none, ← none]
    exact ⟨rfl, rfl⟩
  · rw [takeHeldPulses_some none, if_neg none, if_neg none]
    simp [Fau.strayPulses, sat32]

/-! ### The figures (R72 to R74) -/

theorem refuelTest_sets {n : Nat} (off : s.fau.refuelWanted = false) (low : s.fau.minutes < n) : refuelTest n s =
    postEvent .refuel (.node s.eventId) s.fau.minutes 0 (s.withFau { s.fau with refuelWanted := true }) := if_pos ⟨off, low⟩

theorem refuelTest_fau (n : Nat) (s : State) : (refuelTest n s).fau = { s.fau with
    refuelWanted := if s.fau.refuelWanted then decide (s.fau.minutes < min (n + 30) 65535) else decide (s.fau.minutes < n) } := by
  obtain ⟨sets, clears, stays, kept⟩ := refuelTest_spec n s
  rw [kept]
  cases wanted : s.fau.refuelWanted with
  | false =>
    by_cases low : s.fau.minutes < n
    · simp [(sets wanted low).1, low]
    · simp [stays (.inl ⟨wanted, Nat.not_lt.mp low⟩), wanted, low]
  | true =>
    by_cases low : s.fau.minutes < min (n + 30) 65535
    · simp only [stays (.inr ⟨wanted, low⟩), wanted, low, decide_true, if_true]
    · simp only [(clears wanted (Nat.not_lt.mp low)).1, low, decide_false, if_true]

/-- The figures at the flow and the tank of the moment, the refuel test still to come. -/
def State.figured (c : FuelConfig) (s : State) : State := s.withFau { s.fau with
  minutes := minutesOf s.fau.tank s.fau.flow, factor := factorOf c.mLow c.mCrit (minutesOf s.fau.tank s.fau.flow) }

/-! ### COMMIT at the fuel unit (R66, R84) -/

/-- The fuel unit that its first working copy leaves, pulses taken and figures made (R84). -/
theorem firstFuelCommit_taken (copy : s.fau.copy = none) (name : s.eventId = c.nodeId) :
    FuelTaken c s (firstFuelCommit c s) := by
  rw [firstFuelCommit_eq]
  obtain ⟨fau, fpc⟩ := takeHeldPulses_fau (k := c.pulsesPerLitre) (s := s.fuelOpened c)
  have started : Tells (takeHeldPulses c.pulsesPerLitre (s.fuelOpened c))
      (recomputeFuel (takeHeldPulses c.pulsesPerLitre (s.fuelOpened c))) := recomputeFuel_tells (.refl _)
  have held := takeHeldPulses_some (k := c.pulsesPerLitre) (s := s.fuelOpened c)
  have event : (takeHeldPulses c.pulsesPerLitre (s.fuelOpened c)).eventId = c.nodeId := by
    rw [← name]
    simp [State.eventId, State.fuelOpened]
  generalize taken : takeHeldPulses c.pulsesPerLitre (s.fuelOpened c) = x at *
  have figured : recomputeFuel x = refuelTest c.refuelAt (x.figured c.fuel) := recomputeFuel_eq (by rw [fau]; exact rfl)
  have tank : x.fau.tank = c.openingStock := by rw [fau]; exact openingLots_tank
  have flow : x.fau.flow = c.curve.getD 0 0 * 250 := by rw [fau]; exact rfl
  refine ⟨fun old some => absurd (copy.symm.trans some) (by simp), fun _ => ⟨?_, ?_, fun room => ⟨fun pulses => ?_, fun off low => ?_⟩⟩⟩
  · simp [fpc]
  · have dry : (if c.openingStock = 0 then s.fau.dryReported else false) = (s.fau.dryReported && decide (c.openingStock = 0)) := by
      by_cases empty : c.openingStock = 0 <;> simp [empty]
    have x_fau : x.fau = { (s.fuelOpened c).fau with stray := x.fau.stray, strayCarry := x.fau.strayCarry } := by rw [fau]
    rw [figured, refuelTest_fau]
    simp only [State.figured, State.withFau_fau, tank, flow]
    rw [fau, ← dry]
    exact rfl
  · obtain ⟨r, there, kind, subject, value, -⟩ := mem_ring_of_post (held pulses.ne') started room
    exact ⟨r, there, kind, subject.trans (congrArg Subject.node name), value⟩
  · have minutes : (x.figured c.fuel).fau.minutes = minutesOf c.openingStock (c.curve.getD 0 0 * 250) := by
      rw [← tank, ← flow]
      exact rfl
    have wanted : (x.figured c.fuel).fau.refuelWanted = s.fau.refuelWanted := by
      simp only [State.figured, State.withFau_fau, fau]
      exact rfl
    have posted := figured.trans (refuelTest_sets (wanted.trans off) (by rw [minutes]; exact low))
    obtain ⟨r, there, kind, subject, value, qualifier⟩ := mem_ring_of_post posted (.refl _) room
    exact ⟨r, there, kind, subject.trans (congrArg Subject.node event), value.trans minutes, qualifier⟩

theorem fuelCommit_taken (role : c.role = .genset) (name : s.eventId = c.nodeId) : FuelTaken c s (fuelCommit c s) := by
  cases copy : s.fau.copy with
  | none =>
    have first : fuelCommit c s = firstFuelCommit c s := by simp only [fuelCommit, role, copy]
    rw [first]
    exact firstFuelCommit_taken copy name
  | some old =>
    have later : fuelCommit c s = s.withFau (laterFuelCommit old c.fuel s.fau) := by simp only [fuelCommit, role, copy]
    rw [later]
    refine ⟨fun other held => ?_, fun none => absurd (copy.symm.trans none) (by simp)⟩
    obtain rfl : old = other := Option.some.inj (copy.symm.trans held)
    exact ⟨rfl, fun same => if_pos same, fun new => if_neg new⟩

theorem fuelCommit_board (role : c.role = .board) : (fuelCommit c s).fau = .reset ∧ (fuelCommit c s).fpc = s.fpc := by
  have reset : fuelCommit c s = s.withFau .reset := by simp only [fuelCommit, role]
  rw [reset]
  exact ⟨rfl, rfl⟩

/-- The unit's part of a COMMIT, in what is made of the steps before it and after it. -/
theorem fuelTaken_within (h : FuelTaken c x y) (fau : x.fau = s.fau) (held : x.fpc.heldPulses = s.fpc.heldPulses)
    (clock : x.clock = s.clock) (fau' : t.fau = y.fau) (held' : t.fpc.heldPulses = y.fpc.heldPulses) (later : Tells y t) :
    FuelTaken c s t := by
  obtain ⟨again, first⟩ := h
  rw [fau] at again first
  rw [held] at again first
  simp only [State.now, State.siteSec, clock] at first
  refine ⟨fun old copy => ?_, fun copy => ?_⟩
  · rw [fau', held']
    exact again old copy
  · obtain ⟨pulses, figures, events⟩ := first copy
    refine ⟨held'.trans pulses, fau'.trans figures, fun room => ?_⟩
    obtain ⟨stray, refuel⟩ := events (later.ring.length_le.trans_lt room)
    refine ⟨fun some => ?_, fun off low => ?_⟩
    · obtain ⟨r, there, is⟩ := stray some
      exact ⟨r, later.ring.subset there, is⟩
    · obtain ⟨r, there, is⟩ := refuel off low
      exact ⟨r, later.ring.subset there, is⟩

end Sys2Proof.Machine
end

section
/-! The Changeover Sequencer at COMMIT (R107, R134, R154), for O57. -/

namespace Sys2Proof.Machine

open Sys2Proof.Claims

variable {s t u x y : State} {c : ConfigRecord}

/-- The sequencer's own part of a COMMIT in the BOARD role, before its state is derived (R134). -/
def State.boardTaken (c : ConfigRecord) (s : State) : State := s.withChs { s.chs.stopTimers with
  claim := none
  feederA := { s.chs.stopTimers.feederA with group := c.groupA }
  feederB := { s.chs.stopTimers.feederB with group := c.groupB } }

/-- The sequencer as a COMMIT finds one feeder CLOSED (R134). -/
def State.boardSettled (f : Feeder) (s : State) : State :=
  let x := startTopup (s.withChs { s.chs with state := .settled, active := some f, billing := some f })
  if x.live f then x else changeFeeder f (fun r => { r with lossWatch := some ⟨x.now, false⟩ }) x

theorem startTopup_spec (s : State) : KeepsAllBut [.chs] s (startTopup s) ∧
    ∃ timer, (startTopup s).chs = { s.chs with topupTimer := timer } := by
  unfold startTopup
  split
  · exact ⟨keepsAllBut_of (by simp), _, rfl⟩
  · exact ⟨KeepsAllBut.refl _ _, _, rfl⟩

theorem boardSettled_spec (f : Feeder) (s : State) : KeepsAllBut [.chs] s (s.boardSettled f) ∧
    (s.boardSettled f).chs.state = .settled ∧ (s.boardSettled f).chs.active = some f ∧
    (s.boardSettled f).chs.billing = some f ∧ (s.boardSettled f).chs.claim = s.chs.claim ∧
    (s.boardSettled f).chs.feederA.group = s.chs.feederA.group ∧ (s.boardSettled f).chs.feederB.group = s.chs.feederB.group := by
  have settled : KeepsAllBut [.chs] s (s.withChs { s.chs with state := .settled, active := some f, billing := some f }) :=
    keepsAllBut_of (by simp)
  obtain ⟨keeps, timer, chs⟩ := startTopup_spec (s.withChs { s.chs with state := .settled, active := some f, billing := some f })
  have whole := settled.trans keeps
  unfold State.boardSettled
  dsimp only
  generalize startTopup (s.withChs { s.chs with state := .settled, active := some f, billing := some f }) = x at whole chs
  split
  · rw [chs]
    exact ⟨whole, rfl, rfl, rfl, rfl, rfl, rfl⟩
  · cases f with
    | a => exact ⟨whole.trans (keepsAllBut_of (by simp)), by simp [changeFeeder, chs]⟩
    | b => exact ⟨whole.trans (keepsAllBut_of (by simp)), by simp [changeFeeder, chs]⟩

section

variable (quiet : s.hpt.nodeState ≠ .run)

include quiet

theorem enterIsolated_quiet (cause : IsolateCause) : KeepsAllBut [.chs, .evf] s (enterIsolated cause s) ∧
    (enterIsolated cause s).chs = { s.chs.stopTimers with active := none, billing := none, state := .isolated } := by
  have silent : ∀ x : State, x.hpt = s.hpt → extraCause x = x := fun x same => if_pos (by rw [same]; exact quiet)
  unfold enterIsolated
  dsimp only
  rw [silent _ (by simp)]
  exact ⟨keepsAllBut_of (by simp), by simp⟩

end

theorem deriveBoard_dark (a : s.fpc.feederA.level = false) (b : s.fpc.feederB.level = false) : deriveBoard c s =
    (s.boardTaken c).withChs { (s.boardTaken c).chs with state := .dark, active := none, billing := none } := by
  simp only [deriveBoard, State.closed, State.withChs_fpc, a, b]
  exact rfl

theorem deriveBoard_settledB (a : s.fpc.feederA.level = false) (b : s.fpc.feederB.level = true) :
    deriveBoard c s = (s.boardTaken c).boardSettled .b := by
  simp only [deriveBoard, State.closed, State.withChs_fpc, a, b]
  exact rfl

theorem deriveBoard_settledA (a : s.fpc.feederA.level = true) (b : s.fpc.feederB.level = false) :
    deriveBoard c s = (s.boardTaken c).boardSettled .a := by
  simp only [deriveBoard, State.closed, State.withChs_fpc, a, b]
  exact rfl

theorem deriveBoard_isolated (a : s.fpc.feederA.level = true) (b : s.fpc.feederB.level = true) : deriveBoard c s =
    enterIsolated .commit (reportFault .feedbackConflict [byte (s.boardTaken c).eventId] (s.boardTaken c)) := by
  simp only [deriveBoard, State.closed, State.withChs_fpc, a, b]
  exact rfl

/-- The board state that a COMMIT derives, no extra STATUS being offered before RUN (R134). -/
theorem deriveBoard_spec (quiet : s.hpt.nodeState ≠ .run) : KeepsAllBut [.chs, .evf] s (deriveBoard c s) ∧
    (deriveBoard c s).chs.state = (boardFrom s).1 ∧ (deriveBoard c s).chs.active = (boardFrom s).2 ∧
    (deriveBoard c s).chs.billing = (boardFrom s).2 ∧ (deriveBoard c s).chs.claim = none ∧
    (deriveBoard c s).chs.feederA.group = c.groupA ∧ (deriveBoard c s).chs.feederB.group = c.groupB := by
  have taken : KeepsAllBut [.chs, .evf] s (s.boardTaken c) := keepsAllBut_of (by simp [State.boardTaken])
  cases a : s.fpc.feederA.level <;> cases b : s.fpc.feederB.level
  · simp only [deriveBoard_dark a b, boardFrom, a, b]
    exact ⟨taken.trans (keepsAllBut_of (by simp)), rfl, rfl, rfl, rfl, rfl, rfl⟩
  · simp only [deriveBoard_settledB a b, boardFrom, a, b]
    obtain ⟨keeps, rest⟩ := boardSettled_spec .b (s.boardTaken c)
    exact ⟨taken.trans (keeps.mono (by decide)), rest⟩
  · simp only [deriveBoard_settledA a b, boardFrom, a, b]
    obtain ⟨keeps, rest⟩ := boardSettled_spec .a (s.boardTaken c)
    exact ⟨taken.trans (keeps.mono (by decide)), rest⟩
  · simp only [deriveBoard_isolated a b, boardFrom, a, b]
    have reported : KeepsAllBut [.chs, .evf] s
        (reportFault .feedbackConflict [byte (s.boardTaken c).eventId] (s.boardTaken c)) :=
      taken.trans (keepsAllBut_of (by simp))
    have chs : (reportFault .feedbackConflict [byte (s.boardTaken c).eventId] (s.boardTaken c)).chs = (s.boardTaken c).chs := by simp
    obtain ⟨keeps, isolated⟩ := enterIsolated_quiet (s := reportFault .feedbackConflict [byte (s.boardTaken c).eventId]
      (s.boardTaken c)) (by rw [reported.hpt (by decide)]; exact quiet) .commit
    rw [isolated, chs]
    exact ⟨reported.trans keeps, rfl, rfl, rfl, rfl, rfl, rfl⟩

/-! ### The request "clear all" of a GENSET's COMMIT (R154) -/

theorem applyRelay_relays_length (i : Nat) (s : State) : (applyRelay i s).fpc.relays.length = s.fpc.relays.length := by
  unfold applyRelay
  dsimp only
  split
  · rfl
  · simp [changeChannel]

theorem applyRelays_relays_length (l : List Nat) (s : State) : (applyRelays l s).fpc.relays.length = s.fpc.relays.length := by
  unfold applyRelays
  induction l generalizing s with
  | nil => rfl
  | cons i l ih => rw [List.foldl_cons, ih, applyRelay_relays_length]

theorem clearAllCapacity_spec (s : State) : (clearAllCapacity s).mtr.levels = ⟨false, false, false⟩ ∧
    (clearAllCapacity s).mtr.tariffs = s.mtr.tariffs ∧ (clearAllCapacity s).mtr.pendings = s.mtr.pendings ∧
    (clearAllCapacity s).fpc.relays.length = s.fpc.relays.length := by
  by_cases clear : s.mtr.levels = ⟨false, false, false⟩
  · have same : clearAllCapacity s = s := if_pos clear
    rw [same]
    exact ⟨clear, rfl, rfl, rfl⟩
  · have cleared : clearAllCapacity s = applyRelays (List.range 16) (s.withMtr { s.mtr with
        levels := ⟨false, false, false⟩, channels := s.mtr.channels.map fun c => { c with capacity := false } }) := if_neg clear
    rw [cleared, (applyRelays_mtr ..).1]
    exact ⟨rfl, rfl, rfl, applyRelays_relays_length ..⟩

theorem boardCommit_genset (role : c.role = .genset) : boardCommit c s = clearAllCapacity (s.withChs .reset) := by
  simp only [boardCommit, role]

theorem boardCommit_board (role : c.role = .board) : boardCommit c s = deriveBoard c s := by
  simp only [boardCommit, role]

theorem boardCommit_keeps (quiet : s.hpt.nodeState ≠ .run) : KeepsAllBut [.chs, .fpc, .mtr, .evf] s (boardCommit c s) := by
  cases role : c.role with
  | genset =>
    rw [boardCommit_genset role]
    exact keepsAllBut_of (by simp)
  | board =>
    rw [boardCommit_board role]
    exact (deriveBoard_spec quiet).1.mono (by decide)

end Sys2Proof.Machine
end

section
/-! What every block has of the record once a COMMIT has come to the peer view (R191, R192), for O57. -/

namespace Sys2Proof.Machine

open Sys2Proof.Claims

variable {s t u x y : State} {c : ConfigRecord}

/-! ### The stages of a COMMIT -/

/-- The node's identity, the backoff generator and the Pledge Unit have the record. -/
def State.identified (c : ConfigRecord) (s : State) : State :=
  pledgeCommit c ((identityCommit c s).withSlc { (identityCommit c s).slc with backoffGen := backoffLoad c.seed c.nodeId })

/-- The role's blocks have the record. -/
def State.roleTaken (c : ConfigRecord) (s : State) : State := boardCommit c (fuelCommit c (setCommit c (s.identified c)))

/-- Every block but the peer view has the record, and the node is in RUN. -/
def State.recorded (c : ConfigRecord) (s : State) : State :=
  let x := eventCommit c (billingCommit c.intervalLength (filterCommit c.filterTime (s.roleTaken c)))
  x.withHpt { x.hpt with nodeState := .run }

theorem commitRecord_eq : commitRecord c s = peerCommit c.statusPeriod c.nodeId (s.recorded c) := rfl

theorem identified_keeps : KeepsAllBut [.hpt, .slc, .plu] s (s.identified c) := keepsAllBut_of (by simp [State.identified])

theorem identified_hpt : (s.identified c).hpt = { s.hpt with
    role := some c.role, ownId := some c.nodeId, runTag := some (drawTag s.hpt.tagCounter s.hpt.runTag)
    committed := some c, edited := false } := by
  simp [State.identified, identityCommit]

theorem identified_slc : (s.identified c).slc = { s.slc with backoffGen := backoffLoad c.seed c.nodeId } := by
  simp [State.identified]

theorem pledgeCommit_genset (role : c.role = .genset) : (pledgeCommit c s).plu = { s.plu with
    headroom := 0, ci := 0, waits := [], pledges := [], created := 0, profileA := c.profileA, profileB := c.profileB
    active := .a, pointer := 0, formed := false } := by
  simp only [pledgeCommit, role, State.withPlu_plu]

theorem pledgeCommit_board (role : c.role = .board) : (pledgeCommit c s).plu = .reset := by
  simp only [pledgeCommit, role, State.withPlu_plu]

/-- The Pledge Unit at COMMIT (R93, R107). -/
theorem pledgeCommit_spec (c : ConfigRecord) (s : State) : PluIdle (pledgeCommit c s).plu ∧ (pledgeCommit c s).plu.ci = 0 ∧
    (pledgeCommit c s).plu.active = .a ∧ (pledgeCommit c s).plu.pointer = 0 := by
  cases role : c.role with
  | genset =>
    rw [pledgeCommit_genset role]
    exact ⟨⟨rfl, rfl, rfl, rfl⟩, rfl, rfl, rfl⟩
  | board =>
    rw [pledgeCommit_board role]
    exact ⟨⟨rfl, rfl, rfl, rfl⟩, rfl, rfl, rfl⟩

section

variable (config : s.hpt.nodeState = .config)

include config

theorem identified_rest : AtRest (s.identified c) := by
  obtain ⟨idle, ci, -, -⟩ := pledgeCommit_spec c
    ((identityCommit c s).withSlc { (identityCommit c s).slc with backoffGen := backoffLoad c.seed c.nodeId })
  refine ⟨?_, idle, ci⟩
  rw [identified_hpt]
  exact fun run => absurd (config.symm.trans run) (by decide)

theorem setTaken_keeps : KeepsAllBut [.setc, .fpc, .evf] (s.identified c) (setCommit c (s.identified c)) :=
  setCommit_keeps (identified_rest config)

theorem fuelTaken_keeps : KeepsAllBut [.setc, .fpc, .evf, .fau] (s.identified c) (fuelCommit c (setCommit c (s.identified c))) :=
  ((setTaken_keeps config).mono (by decide)).trans (keepsAllBut_of (by simp))

theorem roleTaken_keeps : KeepsAllBut [.setc, .fpc, .evf, .fau, .chs, .mtr] (s.identified c) (s.roleTaken c) := by
  have fuel := fuelTaken_keeps (c := c) config
  have quiet : (fuelCommit c (setCommit c (s.identified c))).hpt.nodeState ≠ .run := by
    rw [fuel.hpt (by decide)]
    exact (identified_rest config).quiet
  exact (fuel.mono (by decide)).trans ((boardCommit_keeps quiet).mono (by decide))

end

theorem recorded_keeps : KeepsAllBut [.fpc, .bil, .evf, .hpt] (s.roleTaken c) (s.recorded c) :=
  keepsAllBut_of (by simp [State.recorded])

/-! ### The billing unit's length (R172) -/

theorem billingCommit_spec (minutes : Nat) (s : State) :
    (billingCommit minutes s).bil = { s.bil with length := minutes, boundary := (billingCommit minutes s).bil.boundary } ∧
    (s.bil.length = minutes → (billingCommit minutes s).bil.boundary = s.bil.boundary) ∧
    (s.bil.length ≠ minutes → 0 < minutes → IsBoundary minutes s.siteSec (billingCommit minutes s).bil.boundary) := by
  by_cases same : s.bil.length = minutes
  · have unchanged : billingCommit minutes s = s := if_pos same
    rw [unchanged]
    exact ⟨by rw [← same], fun _ => rfl, fun other => absurd same other⟩
  · have changed : billingCommit minutes s = s.withBil { s.bil with
        length := minutes, boundary := nextBoundary minutes s.siteSec } := if_neg same
    rw [changed]
    exact ⟨rfl, fun is => absurd is same, fun _ positive => nextBoundary_isBoundary positive _⟩

/-! ### The blocks, one by one -/

section

variable (config : s.hpt.nodeState = .config)

include config

theorem recorded_hpt : (s.recorded c).hpt = { s.hpt with
    role := some c.role, ownId := some c.nodeId, runTag := some (drawTag s.hpt.tagCounter s.hpt.runTag)
    committed := some c, edited := false, nodeState := .run } := by
  have hpt : (s.recorded c).hpt = { (s.roleTaken c).hpt with nodeState := .run } := by simp [State.recorded]
  rw [hpt, (roleTaken_keeps config).hpt (by decide), identified_hpt]

theorem recorded_clock : (s.recorded c).clock = s.clock := by
  rw [recorded_keeps.clock (by decide), (roleTaken_keeps config).clock (by decide), identified_keeps.clock (by decide)]

theorem recorded_slc : (s.recorded c).slc = { s.slc with backoffGen := backoffLoad c.seed c.nodeId } := by
  rw [recorded_keeps.slc (by decide), (roleTaken_keeps config).slc (by decide), identified_slc]

theorem recorded_pvt : (s.recorded c).pvt = s.pvt := by
  rw [recorded_keeps.pvt (by decide), (roleTaken_keeps config).pvt (by decide), identified_keeps.pvt (by decide)]

theorem recorded_plu : (s.recorded c).plu = (s.identified c).plu := by
  rw [recorded_keeps.plu (by decide), (roleTaken_keeps config).plu (by decide)]

theorem recorded_bil : (s.recorded c).bil = (billingCommit c.intervalLength s).bil := by
  have whole : KeepsAllBut [.hpt, .slc, .plu, .setc, .fpc, .evf, .fau, .chs, .mtr] s (filterCommit c.filterTime (s.roleTaken c)) :=
    ((identified_keeps.mono (by decide)).trans ((roleTaken_keeps (c := c) config).mono (by decide))).trans (keepsAllBut_of (by simp))
  have bil : (s.recorded c).bil = (billingCommit c.intervalLength (filterCommit c.filterTime (s.roleTaken c))).bil := by
    simp [State.recorded]
  rw [bil]
  simp only [billingCommit, State.siteSec, whole.clock (by decide), whole.bil (by decide)]
  split
  · exact whole.bil (by decide)
  · exact rfl

end

theorem fuelCommit_relays : (fuelCommit c s).fpc.relays = s.fpc.relays := by
  unfold fuelCommit
  split <;> simp [firstFuelCommit]

theorem fuelTaken_relays : (fuelCommit c (setCommit c (s.identified c))).fpc.relays = s.fpc.relays := by
  rw [fuelCommit_relays, setCommit_relays, identified_keeps.fpc (by decide)]

theorem roleTaken_relays : (s.roleTaken c).fpc.relays.length = s.fpc.relays.length := by
  have relays := congrArg List.length (fuelTaken_relays (c := c) (s := s))
  cases role : c.role with
  | genset =>
    rw [State.roleTaken, boardCommit_genset role, (clearAllCapacity_spec _).2.2.2]
    exact relays
  | board =>
    have fpc : (deriveBoard c (fuelCommit c (setCommit c (s.identified c)))).fpc =
      (fuelCommit c (setCommit c (s.identified c))).fpc := by simp
    rw [State.roleTaken, boardCommit_board role, fpc]
    exact relays

theorem recorded_fpc : (s.recorded c).fpc.filterTime = c.filterTime ∧ (s.recorded c).fpc.relays.length = s.fpc.relays.length := by
  have fpc : (s.recorded c).fpc = (filterCommit c.filterTime (s.roleTaken c)).fpc := by simp [State.recorded]
  rw [fpc]
  exact ⟨rfl, roleTaken_relays⟩

theorem core_heldPulses {f g : Fpc} (h : f.core = g.core) : f.heldPulses = g.heldPulses := congrArg (·.heldPulses) h

theorem core_levels {f g : Fpc} (h : f.core = g.core) : f.feederA.level = g.feederA.level ∧ f.feederB.level = g.feederB.level :=
  ⟨congrArg (·.feederA.level) h, congrArg (·.feederB.level) h⟩

theorem boardFrom_core (h : t.fpc.core = s.fpc.core) : boardFrom t = boardFrom s := by
  obtain ⟨a, b⟩ := core_levels h
  simp only [boardFrom, a, b]

theorem recorded_setc : (s.recorded c).setc = (setCommit c (s.identified c)).setc := by
  rw [recorded_keeps.setc (by decide)]
  simp [State.roleTaken]

/-! ### A GENSET's blocks (R62, R66, R93, R154) -/

theorem recorded_set (role : c.role = .genset) : (s.recorded c).setc.mode = c.mode ∧
    (setFrom s.fpc ≠ .warming ∨ c.warmUp ≠ 0 → (s.recorded c).setc.state = setFrom s.fpc) := by
  have taken := setCommit_genset_setc (s := s.identified c) role
  have cfg : (s.identified c).cfg = c := by simp only [State.cfg, identified_hpt, Option.getD_some]
  rw [recorded_setc]
  rwa [identified_keeps.fpc (by decide), cfg] at taken

section

variable (config : s.hpt.nodeState = .config)

include config

theorem setTaken_reads : (setCommit c (s.identified c)).clock = s.clock ∧ (setCommit c (s.identified c)).fau = s.fau ∧
    (setCommit c (s.identified c)).fpc.core = s.fpc.core ∧ (setCommit c (s.identified c)).eventId = c.nodeId ∧
    (setCommit c (s.identified c)).mtr = s.mtr := by
  have keeps := setTaken_keeps (c := c) config
  refine ⟨?_, ?_, ?_, ?_, ?_⟩
  · rw [keeps.clock (by decide), identified_keeps.clock (by decide)]
  · rw [keeps.fau (by decide), identified_keeps.fau (by decide)]
  · rw [setCommit_core, identified_keeps.fpc (by decide)]
  · simp only [State.eventId, keeps.hpt (by decide), identified_hpt]
  · rw [keeps.mtr (by decide), identified_keeps.mtr (by decide)]

theorem recorded_fuel (role : c.role = .genset) : FuelTaken c s (s.recorded c) := by
  obtain ⟨clock, fau, core, name, -⟩ := setTaken_reads (c := c) config
  have later : Tells (fuelCommit c (setCommit c (s.identified c))) (s.recorded c) :=
    (eventCommit_tells (billingCommit_tells (filterCommit_tells (boardCommit_tells (.refl _))))).withHpt
  refine fuelTaken_within (fuelCommit_taken role name) fau (core_heldPulses core) clock ?_ ?_ later
  · simp [State.recorded, State.roleTaken]
  · have held := core_heldPulses (boardCommit_core (s := fuelCommit c (setCommit c (s.identified c))) c)
    have fpc : (s.recorded c).fpc = (filterCommit c.filterTime (s.roleTaken c)).fpc := by simp [State.recorded]
    rw [fpc]
    exact held

theorem recorded_genset (role : c.role = .genset) : (s.recorded c).plu.profileA = c.profileA ∧
    (s.recorded c).plu.profileB = c.profileB ∧ (s.recorded c).chs = Chs.reset ∧
    (s.recorded c).mtr.levels = ⟨false, false, false⟩ ∧ (s.recorded c).mtr.tariffs = s.mtr.tariffs ∧
    (s.recorded c).mtr.pendings = s.mtr.pendings := by
  obtain ⟨-, -, -, -, mtr⟩ := setTaken_reads (c := c) config
  have roleTaken : s.roleTaken c = clearAllCapacity ((fuelCommit c (setCommit c (s.identified c))).withChs .reset) :=
    boardCommit_genset role
  obtain ⟨levels, tariffs, pendings, -⟩ := clearAllCapacity_spec ((fuelCommit c (setCommit c (s.identified c))).withChs .reset)
  have before : ((fuelCommit c (setCommit c (s.identified c))).withChs .reset).mtr = s.mtr := by
    rw [State.withChs_mtr, ← mtr]
    simp
  rw [before] at tariffs pendings
  rw [recorded_plu config, State.identified, pledgeCommit_genset role, recorded_keeps.chs (by decide),
    recorded_keeps.mtr (by decide), roleTaken]
  exact ⟨rfl, rfl, by simp, levels, tariffs, pendings⟩

/-! ### A BOARD's blocks (R62, R84, R107, R134) -/

theorem recorded_board (role : c.role = .board) : (s.recorded c).setc = Setc.reset ∧ (s.recorded c).plu = Plu.reset ∧
    (s.recorded c).fau = Fau.reset ∧ (s.recorded c).fpc.runRequest = false ∧ (s.recorded c).fpc.loadEnable = false ∧
    (s.recorded c).chs.state = (boardFrom s).1 ∧ (s.recorded c).chs.active = (boardFrom s).2 ∧
    (s.recorded c).chs.billing = (boardFrom s).2 ∧ (s.recorded c).chs.claim = none ∧
    (s.recorded c).chs.feederA.group = c.groupA ∧ (s.recorded c).chs.feederB.group = c.groupB ∧ (s.recorded c).mtr = s.mtr := by
  obtain ⟨-, -, core, -, mtr⟩ := setTaken_reads (c := c) config
  obtain ⟨fau, fpc⟩ := fuelCommit_board (s := setCommit c (s.identified c)) role
  have quiet : (fuelCommit c (setCommit c (s.identified c))).hpt.nodeState ≠ .run := by
    rw [(fuelTaken_keeps config).hpt (by decide)]
    exact (identified_rest config).quiet
  obtain ⟨keeps, state, active, billing, claim, groupA, groupB⟩ := deriveBoard_spec (c := c) quiet
  have lines : (s.recorded c).fpc = (filterCommit c.filterTime (s.roleTaken c)).fpc := by simp [State.recorded]
  have same : boardFrom (fuelCommit c (setCommit c (s.identified c))) = boardFrom s := boardFrom_core (by rw [fpc]; exact core)
  rw [same] at state active billing
  have roleTaken : s.roleTaken c = deriveBoard c (fuelCommit c (setCommit c (s.identified c))) := boardCommit_board role
  rw [recorded_setc, setCommit_board role, recorded_plu config, State.identified, pledgeCommit_board role,
    recorded_keeps.fau (by decide), recorded_keeps.chs (by decide), recorded_keeps.mtr (by decide), lines, roleTaken,
    keeps.fau (by decide), fau, keeps.mtr (by decide)]
  have requested : (deriveBoard c (fuelCommit c (setCommit c (s.identified c)))).fpc =
      ((askLines (false, false) (s.identified c)).withSetc .reset).fpc := by
    rw [keeps.fpc (by decide), fpc, setCommit_board role]
  refine ⟨rfl, rfl, rfl, (congrArg Fpc.runRequest requested :), (congrArg Fpc.loadEnable requested :), state, active, billing, claim,
    groupA, groupB, ?_⟩
  rw [← mtr]
  simp

end

end Sys2Proof.Machine
end

section
/-! The peer view at COMMIT (R27, R37), for O57. -/

namespace Sys2Proof.Machine

open Sys2Proof.Claims

variable {s t u x y : State} {n : Nat}

/-! ### The peer-gone notice where nothing is claimed or pledged -/

/-- Nothing is claimed, pledged or offered, and the last STATUS told so. -/
structure Unclaimed (s : State) : Prop where
  idle : PluIdle s.plu
  claim : s.chs.claim = none
  told : s.pvt.lastHeadroom = 0

theorem withoutClaims_idle (idle : PluIdle s.plu) (n : Nat) : s.withoutClaims n = s := by
  calc s.withoutClaims n = s.withPlu { s.plu with waits := s.plu.waits, pledges := s.plu.pledges } := by
        rw [State.withoutClaims, idle.waits, idle.pledges]
        exact rfl
    _ = s := rfl

theorem settlePledges_unclaimed (free : Unclaimed s) : settlePledges s = s := by
  have still : headroomMoved s = false := by simp [headroomMoved, free.told, free.idle.headroom]
  rw [settlePledges, servePledges_calm free.idle]
  exact if_neg fun h => Bool.false_ne_true (still.symm.trans h.2)

theorem boardPeerGone_unclaimed (claim : s.chs.claim = none) (n : Nat) : boardPeerGone n s = s := by
  calc boardPeerGone n s = s.withChs { s.chs with claim := s.chs.claim } := by
        rw [boardPeerGone, claim]
        exact rfl
    _ = s := rfl

theorem peerGone_unclaimed (free : Unclaimed s) (n : Nat) : peerGone n s = s := by
  have genset : pledgePeerGone n s = s :=
    (congrArg settlePledges (withoutClaims_idle free.idle n)).trans (settlePledges_unclaimed free)
  unfold peerGone
  rw [genset, boardPeerGone_unclaimed free.claim]
  split
  · exact rfl
  · exact ite_self _

theorem losePeer_unclaimed (free : Unclaimed s) (n : Nat) : losePeer n s = s.lostPeer n := by
  have plu : (s.lostPeer n).plu = s.plu := by simp [State.lostPeer]
  have chs : (s.lostPeer n).chs = s.chs := by simp [State.lostPeer]
  have told : (s.lostPeer n).pvt.lastHeadroom = s.pvt.lastHeadroom := by simp [State.lostPeer]
  rw [losePeer_eq, peerGone_unclaimed ⟨plu ▸ free.idle, chs ▸ free.claim, told.trans free.told⟩]

/-! ### One record recomputed -/

/-- The records of some nodes recomputed from their ages (R37). -/
def agedAt (l : List Nat) (s : State) (p : Peer) : Peer := if p.node ∈ l then agedFor s.pvt.base s p else p

theorem agedFor_node (base : Nat) (s : State) (p : Peer) : (agedFor base s p).node = p.node := by
  unfold agedFor
  dsimp only
  repeat' split
  all_goals exact rfl

/-- Only records and their events have changed: what the recomputing of records may do. -/
structure Recomputed (l : List Nat) (s t : State) : Prop where
  keeps : KeepsAllBut [.pvt, .evf] s t
  pvt : t.pvt = { s.pvt with peers := t.pvt.peers, overflowReported := t.pvt.overflowReported }
  settings : t.evf.setBCount = s.evf.setBCount ∧ t.evf.setBDelay = s.evf.setBDelay
  tells : Tells s t
  nodes : t.pvt.peers.map (·.node) = s.pvt.peers.map (·.node)
  aged : (s.pvt.peers.map (·.node)).Nodup → t.pvt.peers = s.pvt.peers.map (agedAt l s)
  lost : t.evf.ring.length < 64 → (s.pvt.peers.map (·.node)).Nodup → ∀ p ∈ s.pvt.peers, p.node ∈ l → p.freshness ≠ .lost →
    (agedFor s.pvt.base s p).freshness = .lost → ∃ r ∈ t.evf.ring, r.kind = .peerLost ∧ r.subject = .node p.node

theorem postEvent_settings (k : EventKind) (a : Subject) (v q : Nat) (s : State) :
    (postEvent k a v q s).evf.setBCount = s.evf.setBCount ∧ (postEvent k a v q s).evf.setBDelay = s.evf.setBDelay := by
  unfold postEvent
  split <;> exact ⟨rfl, rfl⟩

theorem peer_found {p : Peer} (h : s.pvt.peer n = some p) : p ∈ s.pvt.peers ∧ p.node = n :=
  ⟨List.mem_of_find?_eq_some h, by simpa using List.find?_some h⟩

/-- Where every node has one record, what is done to a node's records is done to the one found. -/
theorem map_changed {p : Peer} {f : Peer → Peer} (h : s.pvt.peer n = some p) (aged : f p = agedFor s.pvt.base s p)
    (nodup : (s.pvt.peers.map (·.node)).Nodup) :
    (s.pvt.peers.map fun q => if q.node = n then f q else q) = s.pvt.peers.map (agedAt [n] s) := by
  obtain ⟨there, own⟩ := peer_found h
  refine List.map_congr_left fun q member => ?_
  by_cases same : q.node = n
  · obtain rfl : q = p := List.inj_on_of_nodup_map nodup member there (same.trans own.symm)
    rw [agedAt, if_pos same, if_pos (List.mem_singleton.mpr same), aged]
  · rw [agedAt, if_neg same, if_neg (by simpa using same)]

/-- Records unchanged, where the one found is as its age says. -/
theorem recomputed_same (unlost : ∀ p, s.pvt.peer n = some p → agedFor s.pvt.base s p = p) : Recomputed [n] s s := by
  have found : ∀ p ∈ s.pvt.peers, p.node = n → (s.pvt.peers.map (·.node)).Nodup → agedFor s.pvt.base s p = p := by
    intro p there own nodup
    cases known : s.pvt.peer n with
    | none => exact absurd own (by simpa using List.find?_eq_none.mp known p there)
    | some q =>
      obtain ⟨there', own'⟩ := peer_found known
      obtain rfl : p = q := List.inj_on_of_nodup_map nodup there there' (own.trans own'.symm)
      exact unlost p known
  refine ⟨KeepsAllBut.refl _ _, rfl, ⟨rfl, rfl⟩, .refl s, rfl, fun nodup => ?_, fun _ nodup p there own notLost lost => ?_⟩
  · refine ((List.map_congr_left fun p there => ?_).trans (List.map_id _)).symm
    by_cases own : p.node = n
    · rw [agedAt, if_pos (List.mem_singleton.mpr own), found p there own nodup, id]
    · rw [agedAt, if_neg (by simpa using own), id]
  · rw [found p there (List.mem_singleton.mp own) nodup] at lost
    exact absurd lost notLost

section

variable {p : Peer} (known : s.pvt.peer n = some p)

include known

theorem changePeer_recomputed {f : Peer → Peer} (aged : f p = agedFor s.pvt.base s p) (node : ∀ q, (f q).node = q.node)
    (stays : (agedFor s.pvt.base s p).freshness ≠ .lost) : Recomputed [n] s (changePeer n f s) := by
  refine ⟨keepsAllBut_of (by simp), rfl, ⟨rfl, rfl⟩, .refl s, ?_, fun nodup => map_changed known aged nodup,
    fun _ nodup q there own _ lost => ?_⟩
  · rw [changePeer, State.withPvt_pvt, List.map_map]
    refine List.map_congr_left fun q _ => ?_
    rw [Function.comp_apply]
    split
    · exact node q
    · exact rfl
  · obtain ⟨there', own'⟩ := peer_found known
    obtain rfl : q = p := List.inj_on_of_nodup_map nodup there there' ((List.mem_singleton.mp own).trans own'.symm)
    exact absurd lost stays

theorem lostPeer_recomputed (aged : ({ p with freshness := .lost, lostSince := some (s.siteMillis : Int) } : Peer) =
    agedFor s.pvt.base s p) : Recomputed [n] s (s.lostPeer n) := by
  refine ⟨keepsAllBut_of (by simp [State.lostPeer]), by simp [State.lostPeer], postEvent_settings .., postEvent_tells (.refl s), ?_,
    fun nodup => ?_, fun room nodup q there own _ lost => ?_⟩
  · have peers : (s.lostPeer n).pvt.peers = s.pvt.peers.map fun x =>
        if x.node = n then { x with freshness := .lost, lostSince := some (s.siteMillis : Int) } else x := by simp [State.lostPeer]
    rw [peers, List.map_map]
    refine List.map_congr_left fun q _ => ?_
    rw [Function.comp_apply]
    split <;> exact rfl
  · have peers : (s.lostPeer n).pvt.peers = s.pvt.peers.map fun x =>
        if x.node = n then { x with freshness := .lost, lostSince := some (s.siteMillis : Int) } else x := by simp [State.lostPeer]
    rw [peers, map_changed known (f := fun x => { x with freshness := .lost, lostSince := some (s.siteMillis : Int) }) aged nodup]
  · obtain ⟨r, there, kind, subject, -⟩ := mem_ring_of_post (x := s.lostPeer n) rfl (.refl _) room
    exact ⟨r, there, kind, subject.trans (congrArg Subject.node (List.mem_singleton.mp own).symm)⟩

end

theorem recomputePeer_recomputed (free : Unclaimed s) (n : Nat) : Recomputed [n] s (recomputePeer n s) := by
  cases known : s.pvt.peer n with
  | none =>
    have same : recomputePeer n s = s := by simp only [recomputePeer, known]
    rw [same]
    exact recomputed_same fun p some => absurd (known.symm.trans some) (by simp)
  | some p =>
    have found : recomputePeer n s = if p.freshness = .lost then s
        else if p.age s.stamp < s.pvt.limit 3 then changePeer n (fun p => { p with freshness := .fresh }) s
        else if p.age s.stamp < s.pvt.limit 10 then changePeer n (fun p => { p with freshness := .stale }) s
        else losePeer n s := by simp only [recomputePeer, known]
    have three : s.pvt.limit 3 = 3 * s.pvt.base * 1000 := limit_eq ..
    have ten : s.pvt.limit 10 = 10 * s.pvt.base * 1000 := limit_eq ..
    have aged : agedFor s.pvt.base s p = if p.freshness = .lost then p
        else if p.age s.stamp < s.pvt.limit 3 then { p with freshness := .fresh }
        else if p.age s.stamp < s.pvt.limit 10 then { p with freshness := .stale }
        else { p with freshness := .lost, lostSince := some (s.siteMillis : Int) } := by
      rw [three, ten]
      exact rfl
    rw [found]
    by_cases gone : p.freshness = .lost
    · rw [if_pos gone] at aged ⊢
      refine recomputed_same fun q is => ?_
      obtain rfl : p = q := Option.some.inj (known.symm.trans is)
      exact aged
    · rw [if_neg gone] at aged ⊢
      by_cases fresh : p.age s.stamp < s.pvt.limit 3
      · rw [if_pos fresh] at aged ⊢
        exact changePeer_recomputed known aged.symm (fun _ => rfl) (by rw [aged]; exact nofun)
      · rw [if_neg fresh] at aged ⊢
        by_cases stale : p.age s.stamp < s.pvt.limit 10
        · rw [if_pos stale] at aged ⊢
          exact changePeer_recomputed known aged.symm (fun _ => rfl) (by rw [aged]; exact nofun)
        · rw [if_neg stale] at aged ⊢
          rw [losePeer_unclaimed free]
          exact lostPeer_recomputed known aged.symm

/-! ### The records in ascending order -/

theorem Unclaimed.of_recomputed {l : List Nat} (free : Unclaimed s) (h : Recomputed l s t) : Unclaimed t where
  idle := by rw [h.keeps.plu (by decide)]; exact free.idle
  claim := by rw [h.keeps.chs (by decide)]; exact free.claim
  told := by rw [h.pvt]; exact free.told

theorem agedFor_clock (h : t.clock = s.clock) (base : Nat) (p : Peer) : agedFor base t p = agedFor base s p := by
  have millis : t.siteMillis = s.siteMillis := by rw [State.siteMillis, h, State.siteMillis]
  unfold agedFor
  rw [millis]

theorem agedAt_append {l m : List Nat} (disjoint : ∀ n ∈ l, n ∉ m) (clock : t.clock = s.clock) (base : t.pvt.base = s.pvt.base)
    (p : Peer) : agedAt m t (agedAt l s p) = agedAt (l ++ m) s p := by
  by_cases first : p.node ∈ l
  · rw [agedAt, agedAt, if_pos first, if_neg (by rw [agedFor_node]; exact disjoint _ first), agedAt,
      if_pos (List.mem_append_left m first)]
  · have neither : p.node ∈ l ++ m ↔ p.node ∈ m := by simp [first]
    rw [agedAt, agedAt, if_neg first, agedAt, base, agedFor_clock clock]
    simp only [neither]

theorem Recomputed.trans {l m : List Nat} (h : Recomputed l s t) (k : Recomputed m t u) (disjoint : ∀ n ∈ l, n ∉ m) :
    Recomputed (l ++ m) s u := by
  have clock : t.clock = s.clock := h.keeps.clock (by decide)
  have base : t.pvt.base = s.pvt.base := by rw [h.pvt]
  refine ⟨h.keeps.trans k.keeps, by rw [k.pvt, h.pvt], ⟨k.settings.1.trans h.settings.1, k.settings.2.trans h.settings.2⟩,
    h.tells.trans k.tells, k.nodes.trans h.nodes, fun nodup => ?_, fun room nodup p there own notLost lost => ?_⟩
  · rw [k.aged (h.nodes ▸ nodup), h.aged nodup, List.map_map]
    exact List.map_congr_left fun p _ => agedAt_append disjoint clock base p
  · by_cases first : p.node ∈ l
    · obtain ⟨r, inRing, is⟩ := h.lost (k.tells.ring.length_le.trans_lt room) nodup p there first notLost lost
      exact ⟨r, k.tells.ring.subset inRing, is⟩
    · have still : p ∈ t.pvt.peers := by
        rw [h.aged nodup]
        exact List.mem_map.mpr ⟨p, there, if_neg first⟩
      exact k.lost room (h.nodes ▸ nodup) p still ((List.mem_append.mp own).resolve_left first) notLost
        (by rw [base, agedFor_clock clock]; exact lost)

theorem recomputed_nil (s : State) : Recomputed [] s s := by
  refine ⟨KeepsAllBut.refl _ _, rfl, ⟨rfl, rfl⟩, .refl s, rfl, fun _ => ?_, fun _ _ p _ own => absurd own List.not_mem_nil⟩
  exact ((List.map_congr_left fun p _ => if_neg List.not_mem_nil).trans (List.map_id _)).symm

theorem recomputePeers_recomputed {l : List Nat} (nodup : l.Nodup) (free : Unclaimed s) :
    Recomputed l s (l.foldl (fun s n => recomputePeer n s) s) := by
  induction l generalizing s with
  | nil => exact recomputed_nil s
  | cons n l ih =>
    obtain ⟨fresh, rest⟩ := List.nodup_cons.mp nodup
    have first := recomputePeer_recomputed free n
    exact first.trans (ih rest (free.of_recomputed first)) fun m member => by rwa [List.mem_singleton.mp member]

/-! ### The STATUS of a COMMIT -/

theorem reportFault_settings (k : FaultKind) (capture : List Byte) (s : State) :
    (reportFault k capture s).evf.setBCount = s.evf.setBCount ∧ (reportFault k capture s).evf.setBDelay = s.evf.setBDelay := by
  unfold reportFault
  dsimp only
  split
  · exact ⟨rfl, rfl⟩
  · split <;> exact postEvent_settings ..

theorem dropFull_settings (b : Bulletin) (cls : TxClass) (s : State) :
    (dropFull b cls s).evf.setBCount = s.evf.setBCount ∧ (dropFull b cls s).evf.setBDelay = s.evf.setBDelay := by
  have report := reportFault_settings .queueDrop (dropCapture b s) (postDrop b cls .queueFull s)
  have event := postEvent_settings .txDrop (b.dropSubject s) (pair16 b.kindCode cls.code) DropReason.queueFull.code s
  exact ⟨report.1.trans event.1, report.2.trans event.2⟩

theorem offer_settings (b : Bulletin) (cls : TxClass) (s : State) :
    (offer b cls s).evf.setBCount = s.evf.setBCount ∧ (offer b cls s).evf.setBDelay = s.evf.setBDelay := by
  unfold offer
  split
  · split
    · exact ⟨rfl, rfl⟩
    · unfold offerNew
      dsimp only
      split
      · exact ⟨rfl, rfl⟩
      · split
        · split
          · exact postEvent_settings ..
          · exact dropFull_settings ..
        · split
          · exact ⟨rfl, rfl⟩
          · exact dropFull_settings ..
  · exact ⟨rfl, rfl⟩

theorem offerStatus_spec (s : State) : KeepsAllBut [.pvt, .slc, .evf] s (offerStatus s) ∧
    (∃ h, (offerStatus s).pvt = { s.pvt with lastHeadroom := h }) ∧
    (offerStatus s).evf.setBCount = s.evf.setBCount ∧ (offerStatus s).evf.setBDelay = s.evf.setBDelay := by
  refine ⟨keepsAllBut_of (by simp), ?_⟩
  unfold offerStatus
  split
  · exact ⟨⟨_, rfl⟩, rfl, rfl⟩
  · exact ⟨⟨_, rfl⟩, offer_settings ..⟩

/-! ### The peer view as a whole -/

theorem removeOwn_peers (own : Nat) (v : Pvt) : (removeOwn own v).peers = v.peers.filter fun p => p.node != own := by
  unfold removeOwn
  split
  · exact rfl
  · rename_i absent
    refine (List.filter_eq_self.mpr fun p there => ?_).symm
    have other : ¬(p.node == own) = true := fun same => absent (List.any_eq_true.mpr ⟨p, there, same⟩)
    rw [bne, Bool.eq_false_of_not_eq_true other]
    exact rfl

/-- The view with its new base, its records still as they were (R37). -/
def State.viewed (period own : Nat) (s : State) : State :=
  s.withPvt { removeOwn own s.pvt with base := period, lastHeadroom := s.plu.headroom }

/-- The view with its records recomputed (R37). -/
def State.reviewed (period own : Nat) (s : State) : State :=
  (List.range 63).foldl (fun s n => recomputePeer n s) (s.viewed period own)

theorem peerCommit_of {period own : Nat} (h : offerStatus (s.reviewed period own) = x) :
    peerCommit period own s = x.withPvt { x.pvt with statusNext := some (x.now + period * second), extraDue := false } := by
  unfold State.reviewed State.viewed at h
  unfold peerCommit
  dsimp only
  rw [h]

section

variable {period own : Nat} (idle : PluIdle s.plu) (claim : s.chs.claim = none)

include idle claim

theorem reviewed_recomputed : Recomputed (List.range 63) (s.viewed period own) (s.reviewed period own) :=
  recomputePeers_recomputed List.nodup_range ⟨idle, claim, idle.headroom⟩

theorem reviewed_keeps : KeepsAllBut [.pvt, .evf] s (s.reviewed period own) :=
  (keepsAllBut_of (by simp [State.viewed])).trans (reviewed_recomputed idle claim).keeps

/-- The view's timer, base and records, and what else a COMMIT has kept there (R27, R37). -/
theorem peerCommit_spec : KeepsAllBut [.pvt, .slc, .evf] s (peerCommit period own s) ∧
    (peerCommit period own s).pvt.base = period ∧
    (peerCommit period own s).pvt.statusNext = some (s.now + period * second) ∧
    (peerCommit period own s).pvt.extraDue = false ∧
    (peerCommit period own s).pvt.peers = (s.reviewed period own).pvt.peers ∧
    (peerCommit period own s).evf.setBCount = s.evf.setBCount ∧ (peerCommit period own s).evf.setBDelay = s.evf.setBDelay ∧
    Tells (s.reviewed period own) (peerCommit period own s) := by
  have recomputed := reviewed_recomputed (period := period) (own := own) idle claim
  have keeps := reviewed_keeps (period := period) (own := own) idle claim
  obtain ⟨keeps', ⟨h, pvt⟩, count, delay⟩ := offerStatus_spec (s.reviewed period own)
  have told : Tells (s.reviewed period own) (offerStatus (s.reviewed period own)) := offerStatus_tells (.refl _)
  generalize offered : offerStatus (s.reviewed period own) = x at keeps' pvt count delay told
  have whole := (keeps.mono (m := [.pvt, .slc, .evf]) (by decide)).trans keeps'
  rw [peerCommit_of offered]
  refine ⟨whole.trans (keepsAllBut_of (by simp)), ?_, ?_, rfl, ?_, count.trans recomputed.settings.1,
    delay.trans recomputed.settings.2, told.withPvt⟩
  · rw [State.withPvt_pvt, pvt, recomputed.pvt]
    exact rfl
  · rw [State.withPvt_pvt, State.now, whole.clock (by decide)]
    exact rfl
  · rw [State.withPvt_pvt, pvt]

/-- No record carries the own id; where each node has one record, the others' are those of their ages, and a record that goes
LOST is told (R29, R37). -/
theorem peerCommit_peers : (∀ p ∈ (peerCommit period own s).pvt.peers, p.node ≠ own) ∧
    ((s.pvt.peers.map (·.node)).Nodup → (∀ p ∈ s.pvt.peers, p.node ≤ 62) →
      let kept := s.pvt.peers.filter fun p => p.node != own
      (peerCommit period own s).pvt.peers = kept.map (agedFor period s) ∧
      ((peerCommit period own s).evf.ring.length < 64 → ∀ p ∈ kept, p.freshness ≠ .lost →
        (agedFor period s p).freshness = .lost →
        ∃ r ∈ (peerCommit period own s).evf.ring, r.kind = .peerLost ∧ r.subject = .node p.node)) := by
  have recomputed := reviewed_recomputed (period := period) (own := own) idle claim
  obtain ⟨-, -, -, -, peers, -, -, told⟩ := peerCommit_spec (period := period) (own := own) idle claim
  have kept : (s.viewed period own).pvt.peers = s.pvt.peers.filter fun p => p.node != own := removeOwn_peers own s.pvt
  have aged : ∀ p, agedFor (s.viewed period own).pvt.base (s.viewed period own) p = agedFor period s p :=
    agedFor_clock (s := s) (t := s.viewed period own) rfl period
  refine ⟨fun p there same => ?_, fun nodup small => ?_⟩
  · have node : p.node ∈ (s.viewed period own).pvt.peers.map (·.node) :=
      recomputed.nodes ▸ List.mem_map_of_mem (peers ▸ there)
    rw [kept] at node
    obtain ⟨q, member, own'⟩ := List.mem_map.mp node
    have other := (List.mem_filter.mp member).2
    rw [own', same] at other
    simp at other
  · have nodup' : ((s.viewed period own).pvt.peers.map (·.node)).Nodup := by
      rw [kept]
      exact nodup.sublist (List.filter_sublist.map _)
    have inside : ∀ p ∈ s.pvt.peers.filter (fun p => p.node != own), p.node ∈ List.range 63 := fun p there =>
      List.mem_range.mpr (Nat.lt_succ_of_le (small p (List.mem_filter.mp there).1))
    refine ⟨?_, fun room p there notLost lost => ?_⟩
    · rw [peers, recomputed.aged nodup', kept]
      exact List.map_congr_left fun p there => (if_pos (inside p there)).trans (aged p)
    · obtain ⟨r, inRing, is⟩ := recomputed.lost (told.ring.length_le.trans_lt room) nodup' p (kept ▸ there) (inside p there) notLost
        (by rw [aged]; exact lost)
      exact ⟨r, told.ring.subset inRing, is⟩

/-- The STATUS of a COMMIT, where no bulletin waits (R27). -/
theorem peerCommit_status (run : s.hpt.nodeState = .run) (role : s.hpt.role ≠ none) (queue : s.slc.queue = [])
    (hold : s.slc.hold = []) : ∃ body, statusNow (peerCommit period own s) body ∧
      (peerCommit period own s).slc.queue = [⟨.status body, .bulk, 0, none, false⟩] := by
  have keeps := reviewed_keeps (period := period) (own := own) idle claim
  have commit := peerCommit_of (s := s) (period := period) (own := own) rfl
  generalize s.reviewed period own = r at keeps commit
  have slc : r.slc = s.slc := keeps.slc (by decide)
  have hpt : r.hpt = s.hpt := keeps.hpt (by decide)
  obtain ⟨body, now⟩ : ∃ body, statusNow r body := by
    cases held : s.hpt.role with
    | none => exact absurd held role
    | some x => cases x with
      | genset => exact ⟨_, .inl ⟨hpt ▸ held, rfl⟩⟩
      | board => exact ⟨_, .inr ⟨hpt ▸ held, rfl⟩⟩
  rw [commit, offerStatus_alone (hpt ▸ run) (slc ▸ queue) (slc ▸ hold) (ownStatus_now now)]
  exact ⟨body, now, rfl⟩

end

end Sys2Proof.Machine
end

section
/-! COMMIT taken and refused (R191, R192): O57. -/

namespace Sys2Proof.Machine

open Sys2Proof.Claims

variable {s t u x y : State} {c : ConfigRecord} {tag : Byte}

/-! ### The run tag (R191) -/

theorem drawTag_spec (counter : BitVec 16) (before : Option Nat) : some (drawTag counter before) ≠ before ∧
    (before ≠ some counter.toNat → drawTag counter before = counter.toNat) ∧
    (before = some counter.toNat → drawTag counter before = (counter.toNat + 1) % 65536) := by
  refine ⟨fun same => ?_, fun other => if_neg other, fun same => if_pos same⟩
  by_cases used : before = some counter.toNat
  · have drawn : drawTag counter before = (counter.toNat + 1) % 65536 := if_pos used
    have small := counter.isLt
    rw [used, ← used, drawn, used] at same
    have equal := Option.some.inj same
    omega
  · have drawn : drawTag counter before = counter.toNat := if_neg used
    exact used (same.symm.trans (congrArg some drawn))

/-- The code of the state that a COMMIT derives for a role (R62, R134). -/
def derivedFor (s : State) : Role → Nat
  | .genset => (setFrom s.fpc).code
  | .board => (boardFrom s).1.code

/-! ### Every block after a COMMIT -/

section

variable (config : s.hpt.nodeState = .config)

include config

theorem recorded_idle : PluIdle (s.recorded c).plu := by
  rw [recorded_plu config]
  exact (pledgeCommit_spec c _).1

theorem recorded_claim : (s.recorded c).chs.claim = none := by
  cases role : c.role with
  | genset =>
    obtain ⟨-, -, chs, -⟩ := recorded_genset config role
    rw [chs]
    exact rfl
  | board =>
    obtain ⟨-, -, -, -, -, -, -, -, claim, -⟩ := recorded_board config role
    exact claim

theorem commitRecord_keeps : KeepsAllBut [.pvt, .slc, .evf] (s.recorded c) (commitRecord c s) :=
  commitRecord_eq (c := c) ▸ (peerCommit_spec (recorded_idle config) (recorded_claim config)).1

theorem commitRecord_hpt : (commitRecord c s).hpt = { s.hpt with
    role := some c.role, ownId := some c.nodeId, runTag := some (drawTag s.hpt.tagCounter s.hpt.runTag)
    committed := some c, edited := false, nodeState := .run } := by
  rw [(commitRecord_keeps config).hpt (by decide), recorded_hpt config]

/-- What the COMMIT answers: the run tag, the role and the derived state (R191). -/
theorem exec_commit_taken (held : s.hpt.record = some c) (fuel : c.mCrit < c.mLow) (stock : c.openingStock ≤ c.capacity) :
    exec (.commit tag) s = .next ((commitRecord c s).answered tag .ok
      (be16 (drawTag s.hpt.tagCounter s.hpt.runTag) ++ [byte c.role.code, byte (derivedCode c s (commitRecord c s))])) := by
  have hpt := commitRecord_hpt (c := c) config
  have run : (commitRecord c s).hpt.runTag.getD 0 = drawTag s.hpt.tagCounter s.hpt.runTag := by rw [hpt]; exact rfl
  refine congrArg Host.Outcome.next ((gated_config config ..).trans ?_)
  rw [held]
  refine (if_neg (Nat.not_le.mpr fuel)).trans ((if_neg (Nat.not_lt.mpr stock)).trans ?_)
  rw [← run]
  exact rfl

theorem exec_commit_unrecorded (none : s.hpt.record = none) : exec (.commit tag) s = .next (s.answered tag .state []) := by
  refine congrArg Host.Outcome.next ((gated_config config ..).trans ?_)
  rw [none]
  exact rfl

theorem exec_commit_factor (held : s.hpt.record = some c) (fuel : c.mLow ≤ c.mCrit) :
    exec (.commit tag) s = .next (s.answered tag .badField [19]) := by
  refine congrArg Host.Outcome.next ((gated_config config ..).trans ?_)
  rw [held]
  exact if_pos fuel

theorem exec_commit_stock (held : s.hpt.record = some c) (fuel : c.mCrit < c.mLow) (stock : c.capacity < c.openingStock) :
    exec (.commit tag) s = .next (s.answered tag .badField [13]) := by
  refine congrArg Host.Outcome.next ((gated_config config ..).trans ?_)
  rw [held]
  exact (if_neg (Nat.not_le.mpr fuel)).trans (if_pos stock)

theorem commitRecord_bil : (commitRecord c s).bil = { s.bil with
      length := c.intervalLength, boundary := (commitRecord c s).bil.boundary } ∧
    (s.bil.length = c.intervalLength → (commitRecord c s).bil.boundary = s.bil.boundary) ∧
    (s.bil.length ≠ c.intervalLength → 0 < c.intervalLength →
      IsBoundary c.intervalLength s.siteSec (commitRecord c s).bil.boundary) := by
  have bil : (commitRecord c s).bil = (billingCommit c.intervalLength s).bil := by
    rw [(commitRecord_keeps config).bil (by decide), recorded_bil config]
  rw [bil]
  exact billingCommit_spec c.intervalLength s

theorem commitRecord_plu : (commitRecord c s).plu = (pledgeCommit c s).plu := by
  rw [(commitRecord_keeps config).plu (by decide), recorded_plu config]
  cases role : c.role with
  | genset =>
    rw [State.identified, pledgeCommit_genset role, pledgeCommit_genset role]
    simp
  | board => rw [State.identified, pledgeCommit_board role, pledgeCommit_board role]

/-- The view of a COMMIT as its records stood before it (R27, R37). -/
theorem commitRecord_view : (commitRecord c s).pvt.base = c.statusPeriod ∧
    (commitRecord c s).pvt.statusNext = some (s.now + c.statusPeriod * second) ∧ (commitRecord c s).pvt.extraDue = false ∧
    (∀ p ∈ (commitRecord c s).pvt.peers, p.node ≠ c.nodeId) ∧
    ((s.pvt.peers.map (·.node)).Nodup → (∀ p ∈ s.pvt.peers, p.node ≤ 62) →
      let kept := s.pvt.peers.filter fun p => p.node != c.nodeId
      (commitRecord c s).pvt.peers = kept.map (agedFor c.statusPeriod s) ∧
      ((commitRecord c s).evf.ring.length < 64 → ∀ p ∈ kept, p.freshness ≠ .lost →
        (agedFor c.statusPeriod s p).freshness = .lost →
        ∃ r ∈ (commitRecord c s).evf.ring, r.kind = .peerLost ∧ r.subject = .node p.node)) := by
  obtain ⟨-, base, next, extra, -⟩ := peerCommit_spec (period := c.statusPeriod) (own := c.nodeId) (recorded_idle (c := c) config)
    (recorded_claim config)
  obtain ⟨own, peers⟩ := peerCommit_peers (period := c.statusPeriod) (own := c.nodeId) (recorded_idle (c := c) config)
    (recorded_claim config)
  have clock : (s.recorded c).clock = s.clock := recorded_clock config
  rw [State.now, clock] at next
  rw [recorded_pvt config] at peers
  have aged : agedFor c.statusPeriod (s.recorded c) = agedFor c.statusPeriod s := funext (agedFor_clock clock c.statusPeriod)
  rw [aged] at peers
  rw [commitRecord_eq]
  exact ⟨base, next, extra, own, peers⟩

theorem commitRecord_fuel (role : c.role = .genset) : FuelTaken c s (commitRecord c s) := by
  have keeps := commitRecord_keeps (c := c) config
  exact fuelTaken_within (recorded_fuel config role) rfl rfl rfl (keeps.fau (by decide)) (congrArg Fpc.heldPulses (keeps.fpc (by decide)))
    (peerCommit_tells (.refl _))

theorem commitRecord_settings : (commitRecord c s).evf.setBCount = c.setBCount ∧
    (commitRecord c s).evf.setBDelay = c.setBDelay := by
  obtain ⟨-, -, -, -, -, count, delay, -⟩ := peerCommit_spec (period := c.statusPeriod) (own := c.nodeId)
    (recorded_idle (c := c) config) (recorded_claim config)
  rw [commitRecord_eq]
  exact ⟨count, delay⟩

theorem commitRecord_status (queue : s.slc.queue = []) (hold : s.slc.hold = []) : ∃ body, statusNow (commitRecord c s) body ∧
    (commitRecord c s).slc.queue = [⟨.status body, .bulk, 0, none, false⟩] := by
  have hpt := recorded_hpt (c := c) config
  have slc := recorded_slc (c := c) config
  rw [commitRecord_eq]
  exact peerCommit_status (recorded_idle config) (recorded_claim config) (by rw [hpt]) (by rw [hpt]; exact nofun)
    (by rw [slc]; exact queue) (by rw [slc]; exact hold)

/-- A GENSET's blocks after its COMMIT (R62, R93, R154). -/
theorem commitRecord_genset (role : c.role = .genset) : (commitRecord c s).plu.profileA = c.profileA ∧
    (commitRecord c s).plu.profileB = c.profileB ∧ (commitRecord c s).setc.mode = c.mode ∧ (commitRecord c s).chs = Chs.reset ∧
    (commitRecord c s).mtr.levels = ⟨false, false, false⟩ ∧
    (setFrom s.fpc ≠ .warming ∨ c.warmUp ≠ 0 → (commitRecord c s).setc.state = setFrom s.fpc) := by
  have keeps := commitRecord_keeps (c := c) config
  obtain ⟨profileA, profileB, chs, levels, -, -⟩ := recorded_genset config role
  rw [keeps.plu (by decide), keeps.setc (by decide), keeps.chs (by decide), keeps.mtr (by decide)]
  exact ⟨profileA, profileB, (recorded_set role).1, chs, levels, (recorded_set role).2⟩

/-- A BOARD's blocks after its COMMIT (R62, R84, R107, R134). -/
theorem commitRecord_board (role : c.role = .board) : (commitRecord c s).setc = Setc.reset ∧ (commitRecord c s).plu = Plu.reset ∧
    (commitRecord c s).fau = Fau.reset ∧ (commitRecord c s).fpc.runRequest = false ∧ (commitRecord c s).fpc.loadEnable = false ∧
    (commitRecord c s).chs.state = (boardFrom s).1 ∧ (commitRecord c s).chs.active = (boardFrom s).2 ∧
    (commitRecord c s).chs.billing = (boardFrom s).2 ∧ (commitRecord c s).chs.claim = none ∧
    (commitRecord c s).chs.feederA.group = c.groupA ∧ (commitRecord c s).chs.feederB.group = c.groupB ∧
    (commitRecord c s).mtr = s.mtr := by
  have keeps := commitRecord_keeps (c := c) config
  rw [keeps.plu (by decide), keeps.setc (by decide), keeps.chs (by decide), keeps.mtr (by decide), keeps.fau (by decide),
    keeps.fpc (by decide)]
  exact recorded_board config role

theorem commitRecord_tables : (commitRecord c s).mtr.tariffs = s.mtr.tariffs ∧
    (commitRecord c s).mtr.pendings = s.mtr.pendings := by
  rw [(commitRecord_keeps config).mtr (by decide)]
  cases role : c.role with
  | genset =>
    obtain ⟨-, -, -, -, tariffs, pendings⟩ := recorded_genset config role
    exact ⟨tariffs, pendings⟩
  | board =>
    obtain ⟨-, -, -, -, -, -, -, -, -, -, -, mtr⟩ := recorded_board config role
    rw [mtr]
    exact ⟨rfl, rfl⟩

/-- The derived state that a COMMIT answers with (R191). -/
theorem derivedCode_eq : derivedCode c s (commitRecord c s) = derivedFor s c.role := by
  cases role : c.role with
  | genset =>
    simp only [derivedCode, role]
    exact rfl
  | board =>
    obtain ⟨-, -, -, -, -, state, -⟩ := commitRecord_board config role
    simp only [derivedCode, role, state]
    exact rfl

end

/-- Settles O57. -/
theorem commitAndSoftReset : Obligations.CommitAndSoftReset := by
  refine ⟨fun s tag config => ⟨exec_commit_unrecorded config, fun c held => ⟨exec_commit_factor config held,
    exec_commit_stock config held, fun fuel stock => ?_⟩⟩, fun s tag => ?_⟩
  · obtain ⟨base, next, extra, own, peers⟩ := commitRecord_view (c := c) config
    obtain ⟨bil, kept, moved⟩ := commitRecord_bil (c := c) config
    obtain ⟨idle, -, active, pointer⟩ := pledgeCommit_spec c s
    obtain ⟨count, delay⟩ := commitRecord_settings (c := c) config
    obtain ⟨tariffs, pendings⟩ := commitRecord_tables (c := c) config
    obtain ⟨fresh, drawn, next'⟩ := drawTag_spec s.hpt.tagCounter s.hpt.runTag
    have plu := commitRecord_plu (c := c) config
    have fpc : (commitRecord c s).fpc = (s.recorded c).fpc := (commitRecord_keeps config).fpc (by decide)
    refine ⟨commitRecord c s, drawTag s.hpt.tagCounter s.hpt.runTag, ?_, keepsAllBut_of (by simp), commitRecord_hpt config, fresh, drawn,
      next', base, next, extra, own, peers, commitRecord_fuel config, commitRecord_status config, by rw [fpc]; exact recorded_fpc.1,
      by rw [fpc]; exact recorded_fpc.2, count, delay, bil, kept, moved, tariffs, pendings, by rw [plu]; exact idle.waits,
      by rw [plu]; exact idle.pledges, by rw [plu]; exact active, by rw [plu]; exact pointer, commitRecord_genset config, commitRecord_board config⟩
    rw [exec_commit_taken config held fuel stock, derivedCode_eq config]
    cases c.role <;> exact rfl
  · refine ⟨softReset s, congrArg Host.Outcome.next (gated_all ..), keepsAllBut_of (by simp), ?_⟩
    obtain ⟨hpt, slc, pvt, plu, chs⟩ := softReset_blocks s
    rw [hpt, slc, pvt, plu, chs]
    exact ⟨rfl, rfl, rfl, rfl, rfl, softReset_posts s, softReset_attn⟩

end Sys2Proof.Machine
end
